-- ==== Sys2Proof/Word.lean ====
section
/-! DEFINITION. The plain words of the hub: bytes on a link, the 32-bit time count and sequence numbers. -/

namespace Sys2Proof

/-- One byte of a frame (chapter 10). -/
abbrev Byte := BitVec 8

/-- A value of the time count (R145), which wraps modulo 2^32. -/
abbrev Count := BitVec 32

/-- A journal sequence number (R125), which wraps modulo 2^32. -/
abbrev Seq := BitVec 32

/-- A set of resources: bit n is set exactly when resource n is a member (R3, R174). -/
abbrev ResourceSet := BitVec 36

/-- A set of field lines: bit n is set exactly when line Ln is a member (R174). -/
abbrev LineSet := BitVec 32

/-- The largest value of a 32-bit saturating counter. -/
abbrev max32 : Nat := 4294967295

end Sys2Proof
end

