-- ==== Sys2Proof/Syntax.lean ====
section
/-! DEFINITION. The commands of the hub: one constructor for each row of spec/opcode_table.json. -/

namespace Sys2Proof

/-- The three host ports; HP0 and HP1 are SPI slaves, HP2 is the I2C slave (chapter 9). -/
inductive Port where
  | hp0 | hp1 | hp2
deriving DecidableEq, Repr

/-- The two ports with an SPI link (R164). -/
inductive SpiPort where
  | hp0 | hp1
deriving DecidableEq, Repr

/-- The port an SPI link belongs to. -/
def SpiPort.port : SpiPort → Port
  | .hp0 => .hp0
  | .hp1 => .hp1

/-- A field line L0 to L31. -/
abbrev Line := Fin 32

/-- A timing engine TE0 to TE3. -/
abbrev EngineNo := Fin 4

/-- A resource number 0 to 35: the lines, then the engines T0 to T3 (R1). -/
abbrev Resource := Fin 36

/-- A level on a pin, as sensed (section 3.4 of the manual's conventions). -/
inductive Level where
  | low | high
deriving DecidableEq, Repr

/-- The cause of a reset that STATUS reports (R43, R171). -/
inductive ResetCause where
  | powerOn | pin
deriving DecidableEq, Repr

/-- What begins a reset (R171): the supply rising, or nRST held low for a time given in nanoseconds. -/
inductive ResetEvent where
  | powerOn
  | pinLow (nanoseconds : Nat)
deriving DecidableEq, Repr

/-- What the part reads on its pins at the end of a reset (R76, R93, R168, R171): the level on every line pin
(bit n is Ln, 1 for HIGH), the level on nFSAFE, the straps ADS1 and ADS0 (bits 1 and 0), and whether the select of
each SPI port is low at that moment. -/
structure ResetPins where
  lines : LineSet
  nFsafe : Level
  straps : BitVec 2
  select0Low : Bool
  select1Low : Bool
deriving DecidableEq, Repr

/-- What the host clocks out in an SPI read: how many bytes after the direction byte, and whether the select goes high
after them (R164, R166). -/
structure SpiRead where
  count : Nat
  selectHigh : Bool
deriving DecidableEq, Repr

/-- The bytes of an SPI transaction from the first on, and whether the select goes high after them (R164). -/
structure SpiBytes where
  bytes : List Byte
  selectHigh : Bool
deriving DecidableEq, Repr

/-- What resyncs a port (R167). -/
inductive ResyncEvent where
  /-- An SPI transaction of four bytes 0xFF and `more` further ones, after which the select may go high (R164). -/
  | spi (p : SpiPort) (more : Nat) (selectHigh : Bool)
  /-- The general call with 0x5B on the I2C bus, and `more` further bytes in its transaction (R170). -/
  | generalCall (more : Nat)
deriving DecidableEq, Repr

/-- The commands. The twenty-six requests and the request of unknown code stand for the TAKING of the request that is
PENDING at the port (R161): their operands are the fields of the frame in that port's request slot. -/
inductive Instr where
  /-- STATUS is taken from the port (R43). -/
  | status (p : Port)
  /-- OPEN SESSION is taken from the port (R33, R34, R38). -/
  | openSession (p : Port)
  /-- CLOSE SESSION is taken from the port (R37). -/
  | closeSession (p : Port)
  /-- PING is taken from the port (R42). -/
  | ping (p : Port)
  /-- TIME is taken from the port (R44). -/
  | time (p : Port)
  /-- CLAIM is taken from the port (R12 to R18, R65). -/
  | claim (p : Port)
  /-- CANCEL CLAIM is taken from the port (R70). -/
  | cancelClaim (p : Port)
  /-- RELEASE is taken from the port (R21, R22). -/
  | release (p : Port)
  /-- SET FAILSAFE is taken from the port (R24). -/
  | setFailsafe (p : Port)
  /-- LEASES is taken from the port (R25). -/
  | leases (p : Port)
  /-- OFFER is taken from the port (R48, R49). -/
  | offer (p : Port)
  /-- ACCEPT is taken from the port (R51, R52). -/
  | accept (p : Port)
  /-- DECLINE is taken from the port (R51, R53). -/
  | decline (p : Port)
  /-- WITHDRAW is taken from the port (R51, R54). -/
  | withdraw (p : Port)
  /-- SET DIRECTION is taken from the port (R85). -/
  | setDirection (p : Port)
  /-- WRITE LINES is taken from the port (R86). -/
  | writeLines (p : Port)
  /-- READ LINES is taken from the port (R87). -/
  | readLines (p : Port)
  /-- CONFIGURE ENGINE is taken from the port (R101). -/
  | configureEngine (p : Port)
  /-- START ENGINE is taken from the port (R102). -/
  | startEngine (p : Port)
  /-- STOP ENGINE is taken from the port (R112). -/
  | stopEngine (p : Port)
  /-- ENGINE STATUS is taken from the port (R113). -/
  | engineStatus (p : Port)
  /-- SUBSCRIBE is taken from the port (R132). -/
  | subscribe (p : Port)
  /-- FETCH is taken from the port (R134 to R136). -/
  | fetch (p : Port)
  /-- SET ATTENTION is taken from the port (R141). -/
  | setAttention (p : Port)
  /-- SET PROFILE is taken from the port (R149, R150). -/
  | setProfile (p : Port)
  /-- GET PROFILE is taken from the port (R148). -/
  | getProfile (p : Port)
  /-- A request whose code is unknown is taken from the port by the Command Arbiter itself (R161). -/
  | unknownCodeRequest (p : Port)
  /-- The keepalive timer of the port's session runs out (R35). -/
  | lapse (p : Port)
  /-- The window of the open offer with this id runs out (R55). -/
  | offerExpiry (id : Byte)
  /-- The wait timer of the queued claim with this ticket runs out (R69). -/
  | claimExpiry (ticket : Byte)
  /-- The time count rises by one (R145). -/
  | tick
  /-- The engine takes the next tick it has not yet taken (R99). -/
  | engineTick (e : EngineNo)
  /-- The engine takes the tick that reaches the phase end of its PULSE_TRAIN run (R103). -/
  | pulseTrainPhaseEnd (e : EngineNo)
  /-- The engine takes the tick that ends the delay or the pulse of its DELAYED_PULSE run (R105). -/
  | delayedPulsePhaseEnd (e : EngineNo)
  /-- The engine takes the tick that reaches the limit end of its measurement (R109). -/
  | measureLimitEnd (e : EngineNo)
  /-- The engine takes the tick that ends its COUNT_EDGES window (R110). -/
  | countWindowEnd (e : EngineNo)
  /-- All lines are sampled together; bit n of the operand is the level on the pin of Ln, 1 for HIGH (R77). -/
  | lineSample (levels : LineSet)
  /-- The settle step of one line that brings its settle count to 0 (R89). -/
  | monitorSettleEnd (l : Line)
  /-- nFSAFE is asserted (R94). -/
  | fsafeAssertion
  /-- nFSAFE is released (R95). -/
  | fsafeRelease
  /-- An SPI transaction with direction byte 0xB1: the bytes that follow it, and whether the select goes high after
  them (R165). -/
  | spiWriteTransaction (p : SpiPort) (bytes : List Byte) (selectHigh : Bool)
  /-- An SPI transaction with direction byte 0xB2: what the host clocks out after it (R166). -/
  | spiReadTransaction (p : SpiPort) (read : SpiRead)
  /-- An SPI transaction that is a framing error, from its first byte on; bytes 0xFF, fewer than four, with the select
  still low, are not yet one (R164). -/
  | spiFramingError (p : SpiPort) (sent : SpiBytes)
  /-- Four 0xFF bytes on SPI, or the general call with 0x5B on I2C (R167). -/
  | resync (event : ResyncEvent)
  /-- The last bytes of a frame arrive in the write transaction in progress and the frame completes (R157); on I2C the
  transaction then ends. In an SPI transaction that began with 0xFF, its bytes up to the fourth and beyond (R164). -/
  | frameComplete (p : Port) (rest : List Byte)
  /-- The transaction in progress ends: the select goes high, or STOP. A frame that has not completed is lost (R158). -/
  | frameLost (p : Port)
  /-- An I2C write transaction: its address, its data bytes, and whether a STOP or repeated START follows them
  (R168, R170). -/
  | i2cWriteTransaction (address : BitVec 7) (bytes : List Byte) (ended : Bool)
  /-- An I2C read transaction: its address, how many bytes the master reads, and whether the transaction ends after
  them (R169). -/
  | i2cReadTransaction (address : BitVec 7) (count : Nat) (ended : Bool)
  /-- The 10 ms stretch limit runs out (R169). -/
  | stretchLimit
  /-- SCL has been held low by another party for 25 ms (R170). -/
  | stuckSclAbort
  /-- POR, or nRST going low, begins a reset (R171). -/
  | reset (event : ResetEvent)
  /-- The reset ends (R171). -/
  | resetEnd (pins : ResetPins)
  /-- The nFSAFE monitor samples its pin (R93). -/
  | nfsafeMonitorSample (level : Level)
deriving DecidableEq, Repr

end Sys2Proof
end

