-- ==== Sys2Proof/Decode.lean ====
section
/-! DEFINITION. The command a word of the opcode table spells. -/

namespace Sys2Proof

/-- The command that `w` spells by the bits of spec/opcode_table.json. No row of that table gives bits (every row has
an empty field list), so no word spells a command. The byte encodings of the manual's own frames (chapter 10) are read
in Machine/Operands.lean. -/
def decodeTableWord (_nbits _w : Nat) : Option Instr := none

end Sys2Proof
end

