-- ==== Sys2Proof/Config.lean ====
section
/-! DEFINITION. What the part fixes once for all (capacities and time limits of the manual) and the one free value. -/

namespace Sys2Proof.Config

/-- The journal holds at most 128 records (R124). -/
abbrev journalCapacity : Nat := 128

/-- The offer table holds at most 4 entries (R45). -/
abbrev offerCapacity : Nat := 4

/-- The I2C clock stretch limit in milliseconds (R169, Table 9-4). -/
abbrev stretchLimitMs : Nat := 10

/-- The largest payload length of a request frame (R156, R172). -/
abbrev maxRequestPayload : Nat := 48

/-- An nRST low pulse shorter than this many nanoseconds is ignored (R171). -/
abbrev resetPulseIgnoredNs : Nat := 1000

/-- An nRST low pulse of at least this many nanoseconds resets the part (R171). -/
abbrev resetPulseTakenNs : Nat := 5000

/-- FREE VALUE. R171: a low pulse on nRST from 1 µs to 5 µs may or may not reset the part.
The argument is the model's own count of such pulses (`State.freeCount`), so each pulse has an answer of its own
and nothing can be proved of any of them. -/
opaque shortPulseResets : Nat → Bool

end Sys2Proof.Config
end

