-- ==== Sys2Proof/Machine/Types.lean ====
section
/-! DEFINITION. The types of the hub's state, block by block (Table 1 of the manual). -/

namespace Sys2Proof.Machine

/-! ### One value for each port -/

/-- One value for each of the three ports. -/
structure PerPort (α : Type) where
  hp0 : α
  hp1 : α
  hp2 : α
deriving DecidableEq, Repr

/-- The value that belongs to a port. -/
def PerPort.get {α : Type} (v : PerPort α) : Port → α
  | .hp0 => v.hp0
  | .hp1 => v.hp1
  | .hp2 => v.hp2

/-- The same values but for one port's. -/
def PerPort.set {α : Type} (v : PerPort α) (p : Port) (a : α) : PerPort α :=
  match p with
  | .hp0 => { v with hp0 := a }
  | .hp1 => { v with hp1 := a }
  | .hp2 => { v with hp2 := a }

/-- A set of ports, or of their sessions: the interest set of a journal record (R123). -/
abbrev PortSet := PerPort Bool

/-! ### Lease Controller: the lease table (R5, Table 1-1) -/

/-- A failsafe value; an engine's is never FLOAT (R10). -/
inductive Failsafe where
  | driveLow | driveHigh | float
deriving DecidableEq, Repr

/-- The state of a lease entry with the fields that are present in it (R5). -/
inductive LeaseState where
  | free
  | held (holder : Port)
  | offered (holder : Port) (offerId : Byte)
  | orphaned (lastHolder : Port)
deriving DecidableEq, Repr

/-- One lease entry. -/
structure LeaseEntry where
  state : LeaseState
  generation : BitVec 16
  failsafe : Failsafe
deriving DecidableEq, Repr

/-! ### Lease Controller: the session table (R27, Table 2-1, R133) -/

/-- How the last session on a port ended (R34). -/
inductive EndCause where
  | none | closed | lapsed | replaced | reset
deriving DecidableEq, Repr

/-- The fields of a session record that are present only while the session is OPEN. The subscription sets are empty
otherwise, and the acknowledgement point is absent (R133). -/
structure OpenSession where
  period : Nat
  remaining : Nat
  threshold : Nat
  rise : LineSet
  fall : LineSet
  ackPoint : Seq
  mark : Option Seq
deriving DecidableEq, Repr

/-- The state of a session record. -/
inductive SessionState where
  | closed
  | opened (fields : OpenSession)
  | lapsed
deriving DecidableEq, Repr

/-- One session record. The port's queued claim stands in the wait list. -/
structure Session where
  state : SessionState
  number : BitVec 16
  heldCount : Nat
  given : Nat
  acknowledged : Nat
  lost : Nat
  unreportedLost : Nat
  previousEnd : EndCause
deriving DecidableEq, Repr

/-! ### Lease Controller: offers and queued claims (R45, R62) -/

/-- One open offer. -/
structure Offer where
  id : Byte
  offerer : Port
  target : Port
  set : ResourceSet
  remaining : Nat
deriving DecidableEq, Repr

/-- One queued claim. -/
structure WaitEntry where
  ticket : Byte
  port : Port
  set : ResourceSet
  adopt : Bool
  remaining : Nat
deriving DecidableEq, Repr

/-! ### Line Unit (R76, R93) -/

/-- What a line pin does (R82). -/
inductive Drive where
  | low | high | float
deriving DecidableEq, Repr

/-- The direction of a line. -/
inductive Direction where
  | input | output
deriving DecidableEq, Repr

/-- A contention monitor with the settle count it has in SETTLING (R88). -/
inductive Monitor where
  | idle
  | settling (count : Nat)
  | watching
  | faulted
deriving DecidableEq, Repr

/-- One line cell (Table 5-1), with the effective drive its pin has now. -/
structure LineCell where
  raw : Level
  run : Nat
  filtered : Level
  direction : Direction
  commanded : Level
  monitor : Monitor
  drive : Drive
deriving DecidableEq, Repr

/-- The nFSAFE monitor (R93). -/
structure ForceMonitor where
  asserted : Bool
  run : Nat
deriving DecidableEq, Repr

/-! ### Timing Engines (R98, R100) -/

/-- The five modes of an engine. -/
inductive Mode where
  | pulseTrain | delayedPulse | measureWidth | measurePeriod | countEdges
deriving DecidableEq, Repr

/-- The active edge of a configuration. -/
inductive Edge where
  | rising | falling
deriving DecidableEq, Repr

/-- The trigger of a configuration. -/
inductive Trigger where
  | command | line
deriving DecidableEq, Repr

/-- An engine's configuration (Table 6-2); `a` and `b` in ticks. -/
structure EngineConfig where
  mode : Mode
  a : Nat
  b : Nat
  repeatCount : Nat
  input : Option Line
  edge : Edge
  gate : Option Line
  gateLevel : Level
  trigger : Trigger
  rearm : Bool
deriving DecidableEq, Repr

/-- The phases that end at a time count. -/
inductive TimedPhase where
  | high | low | delay | pulse | counting
deriving DecidableEq, Repr

/-- The state of an engine with the fields that are present in it (Table 6-1): IDLE; ARMED, with a limit end in the
measure modes; RUNNING in a timed phase, with its phase end; RUNNING in phase MEASURING, with opening time and limit
end; GATED, with the frozen remainder of its phase. -/
inductive EngineState where
  | idle
  | armed (limitEnd : Option Count)
  | timed (phase : TimedPhase) (phaseEnd : Count)
  | measuring (openingTime limitEnd : Count)
  | gated (phase : TimedPhase) (remainder : Nat)
deriving DecidableEq, Repr

/-- One timing engine: its fields (Table 6-1), the level on its pin TOn (R114), and `taken`, the model's own record of
the last tick the engine has taken (R99: a tick is taken by each engine in a happening of its own). -/
structure Engine where
  state : EngineState
  config : Option EngineConfig
  elapsed : Nat
  pulses : Nat
  edges : Nat
  ignored : Nat
  out : Level
  taken : Count
deriving DecidableEq, Repr

/-! ### Profile Store (R147) -/

/-- The tick unit. -/
inductive TickUnit where
  | us1 | us10 | us100 | us1000
deriving DecidableEq, Repr

/-- The filter sample interval. -/
inductive SampleInterval where
  | us10 | us100 | ms1 | ms10
deriving DecidableEq, Repr

/-- The output kind of a line. -/
inductive OutputKind where
  | pushPull | openDrain
deriving DecidableEq, Repr

/-- The profile (Table 8-2). -/
structure Profile where
  tickUnit : TickUnit
  interval : SampleInterval
  filterCount : Vector (BitVec 4) 32
  outputKind : Vector OutputKind 32
deriving DecidableEq, Repr

/-! ### Event Journal (R123) -/

/-- The outcome of an ENGINE_RESULT record. -/
inductive EngineOutcome where
  | done | timeout | overflow | stopped | forced
deriving DecidableEq, Repr

/-- The outcome of an OFFER_SETTLED record. -/
inductive OfferOutcome where
  | accepted | declined | withdrawn | expired | cancelled
deriving DecidableEq, Repr

/-- The outcome of a CLAIM_SETTLED record. -/
inductive ClaimOutcome where
  | granted | expired
deriving DecidableEq, Repr

/-- Kind, source and data of a record (Table 7-1). -/
inductive RecordBody where
  | lineEdge (line : Line) (level : Level)
  | lineFault (line : Line) (driven sensed : Level)
  | engineResult (engine : EngineNo) (mode : Mode) (outcome : EngineOutcome) (value aux : Nat)
  | offerMade (offerer : Port) (id : Byte) (set : ResourceSet) (window : Nat)
  | offerSettled (offerer : Port) (id : Byte) (outcome : OfferOutcome)
  | claimSettled (claimant : Port) (ticket : Byte) (outcome : ClaimOutcome) (set : ResourceSet)
  | leaseLost (port : Port) (set : ResourceSet)
  | forceChange (asserted : Bool)
  | profileChanged (requester : Port) (tickUnit : TickUnit)
deriving DecidableEq, Repr

/-- One journal record. -/
structure Record where
  seq : Seq
  time : Count
  body : RecordBody
  interest : PortSet
deriving DecidableEq, Repr

/-! ### Host Port Units (R155, R172, R176) -/

/-- A request frame that passed its CHECK byte; LEN is the payload's length. -/
structure Frame where
  tag : Byte
  code : Byte
  session : BitVec 16
  payload : List Byte
deriving DecidableEq, Repr

/-- The status codes (Table 10-6). -/
inductive Status where
  | ok | queued | checkError | badRequest | badArgument | noSession | staleSession | sessionOpen
  | heldByOther | notHolder | orphaned | offered | offerGone | limit | busy | forced | notQuiet
deriving DecidableEq, Repr

/-- A response frame: its header fields and payload; LEN and CHECK follow from them (R159, R176). -/
structure Response where
  tag : Byte
  status : Status
  overrun : Bool
  attn : Bool
  force : Bool
  payload : List Byte
deriving DecidableEq, Repr

/-- The state of a port with the slots that are filled in it (R155, Table 9-1). -/
inductive PortState where
  | idle
  | receiving (incoming : List Byte) (heldResponse : Option Response)
  | pending (request : Frame) (incoming : Option (List Byte))
  | answered (response : Response)
deriving DecidableEq, Repr

/-- The framing state of a port's link: what the transaction in progress is (R164 to R170). -/
inductive Link where
  /-- No transaction is in progress, or none that can still change the port. -/
  | quiet
  /-- A write transaction, whose bytes are taken as a frame. -/
  | writing
  /-- An SPI transaction that began with 0xFF and is judged at its fourth byte: the bytes it has had so far (R164). -/
  | judging (bytes : List Byte)
  /-- A transaction whose remaining bytes are ignored. -/
  | ignoring
  /-- An I2C read transaction whose bytes are being sent. -/
  | reading
  /-- An I2C read transaction in which the port holds SCL low; the bytes the master is to read, the milliseconds left
  of the stretch limit, and whether the transaction ends after the read (R169). -/
  | stretching (count remaining : Nat) (ended : Bool)
deriving DecidableEq, Repr

/-- One Host Port Unit: its fields (Table 9-1), the framing state of its link, and the outputs of the link. `driven`
says whether the data output SDO of an SPI port is driven (R164; HP2 has none). `sent` holds the bytes that the port
has sent in the transaction in progress, or in the last one when none is, and `acks` the acknowledgements that HP2 has
given in it, the address byte first. -/
structure PortUnit where
  state : PortState
  overrunLatch : Bool
  checkErrors : Nat
  overruns : Nat
  framingErrors : Nat
  resyncs : Nat
  link : Link
  driven : Bool
  sent : List Byte
  acks : List Bool
deriving DecidableEq, Repr

end Sys2Proof.Machine
end

