-- ==== Sys2Proof/Machine/Bytes.lean ====
section
/-! DEFINITION. Byte order, the CHECK byte, and the code of every enumerated value (chapter 10). -/

namespace Sys2Proof.Machine

/-! ### Byte order (R172: most significant byte first) -/

/-- The unsigned number that bytes spell, most significant first. -/
def natOfBytes (bytes : List Byte) : Nat := bytes.foldl (fun n b => n * 256 + b.toNat) 0

/-- The `k` bytes of a number, most significant first. -/
def bytesOfNat : Nat → Nat → List Byte
  | 0, _ => []
  | k + 1, n => bytesOfNat k (n / 256) ++ [BitVec.ofNat 8 n]

/-- The byte at a position; 0 beyond the end. -/
def byteAt (bytes : List Byte) (i : Nat) : Byte := bytes.getD i 0

/-- The unsigned field of `len` bytes that begins at byte `at_`. -/
def fieldAt (bytes : List Byte) (at_ len : Nat) : Nat := natOfBytes ((bytes.drop at_).take len)

/-! ### The CHECK byte (R173) -/

/-- One shift of the CRC register: the generator is x^8+x^2+x+1. -/
def crcShift (r : Byte) : Byte := if r.getLsbD 7 then (r <<< 1) ^^^ 0x07 else r <<< 1

/-- One byte combined into the CRC register, then eight shifts. -/
def crcByte (r b : Byte) : Byte :=
  crcShift (crcShift (crcShift (crcShift (crcShift (crcShift (crcShift (crcShift (r ^^^ b))))))))

/-- The CRC register after the bytes, from 0xFF. -/
def crc (bytes : List Byte) : Byte := bytes.foldl crcByte 0xFF

/-! ### Codes of the enumerated values (Table 10-2, R174) -/

/-- The code of a level. -/
def levelCode : Level → Byte
  | .low => 0
  | .high => 1

/-- The code of a flag. -/
def boolCode (b : Bool) : Byte := if b then 1 else 0

/-- The code of an effective drive. -/
def driveCode : Drive → Byte
  | .low => 0
  | .high => 1
  | .float => 2

/-- The code of a direction. -/
def directionCode : Direction → Byte
  | .input => 0
  | .output => 1

/-- The code of a failsafe value. -/
def failsafeCode : Failsafe → Byte
  | .driveLow => 0
  | .driveHigh => 1
  | .float => 2

/-- The code of a lease state. -/
def leaseStateCode : LeaseState → Byte
  | .free => 0
  | .held _ => 1
  | .offered _ _ => 2
  | .orphaned _ => 3

/-- The code of a session state. -/
def sessionStateCode : SessionState → Byte
  | .closed => 0
  | .opened _ => 1
  | .lapsed => 2

/-- The code of a previous end cause. -/
def endCauseCode : EndCause → Byte
  | .none => 0
  | .closed => 1
  | .lapsed => 2
  | .replaced => 3
  | .reset => 4

/-- The code of a reset cause. -/
def resetCauseCode : ResetCause → Byte
  | .powerOn => 0
  | .pin => 1

/-- The code of a tick unit. -/
def tickUnitCode : TickUnit → Byte
  | .us1 => 0
  | .us10 => 1
  | .us100 => 2
  | .us1000 => 3

/-- The tick unit of a code. -/
def tickUnitOf : Nat → Option TickUnit
  | 0 => some .us1
  | 1 => some .us10
  | 2 => some .us100
  | 3 => some .us1000
  | _ => none

/-- The code of a filter sample interval. -/
def intervalCode : SampleInterval → Byte
  | .us10 => 0
  | .us100 => 1
  | .ms1 => 2
  | .ms10 => 3

/-- The filter sample interval of a code. -/
def intervalOf : Nat → Option SampleInterval
  | 0 => some .us10
  | 1 => some .us100
  | 2 => some .ms1
  | 3 => some .ms10
  | _ => none

/-- The code of an engine mode. -/
def modeCode : Mode → Byte
  | .pulseTrain => 1
  | .delayedPulse => 2
  | .measureWidth => 3
  | .measurePeriod => 4
  | .countEdges => 5

/-- The engine mode of a code; 0 and codes above 5 are unknown modes (R101). -/
def modeOf : Nat → Option Mode
  | 1 => some .pulseTrain
  | 2 => some .delayedPulse
  | 3 => some .measureWidth
  | 4 => some .measurePeriod
  | 5 => some .countEdges
  | _ => none

/-- The code of an engine state. -/
def engineStateCode : EngineState → Byte
  | .idle => 0
  | .armed _ => 1
  | .timed _ _ => 2
  | .measuring _ _ => 2
  | .gated _ _ => 3

/-- The code of a timed phase. -/
def timedPhaseCode : TimedPhase → Byte
  | .high => 1
  | .low => 2
  | .delay => 3
  | .pulse => 4
  | .counting => 6

/-- The code of an engine's phase: 0 unless the engine is RUNNING or GATED (R176). -/
def phaseCode : EngineState → Byte
  | .idle => 0
  | .armed _ => 0
  | .timed ph _ => timedPhaseCode ph
  | .measuring _ _ => 5
  | .gated ph _ => timedPhaseCode ph

/-- The code of an active edge. -/
def edgeCode : Edge → Byte
  | .rising => 0
  | .falling => 1

/-- The active edge of a code. -/
def edgeOf : Nat → Option Edge
  | 0 => some .rising
  | 1 => some .falling
  | _ => none

/-- The level of a code. -/
def levelOfCode : Nat → Option Level
  | 0 => some .low
  | 1 => some .high
  | _ => none

/-- The code of a trigger. -/
def triggerCode : Trigger → Byte
  | .command => 0
  | .line => 1

/-- The trigger of a code. -/
def triggerOf : Nat → Option Trigger
  | 0 => some .command
  | 1 => some .line
  | _ => none

/-- The code of an engine outcome. -/
def engineOutcomeCode : EngineOutcome → Byte
  | .done => 0
  | .timeout => 1
  | .overflow => 2
  | .stopped => 3
  | .forced => 4

/-- The code of an offer outcome. -/
def offerOutcomeCode : OfferOutcome → Byte
  | .accepted => 0
  | .declined => 1
  | .withdrawn => 2
  | .expired => 3
  | .cancelled => 4

/-- The code of a claim outcome. -/
def claimOutcomeCode : ClaimOutcome → Byte
  | .granted => 0
  | .expired => 1

/-- The code of a port. -/
def portCode : Port → Byte
  | .hp0 => 0
  | .hp1 => 1
  | .hp2 => 2

/-- The port of a code. -/
def portOf : Nat → Option Port
  | 0 => some .hp0
  | 1 => some .hp1
  | 2 => some .hp2
  | _ => none

/-- The code of a port that may be absent: 0xFF for none. -/
def portCodeOrNone : Option Port → Byte
  | some p => portCode p
  | none => 0xFF

/-- The code of a line that may be absent: 0xFF for none. -/
def lineCodeOrNone : Option Line → Byte
  | some l => BitVec.ofNat 8 l.val
  | none => 0xFF

/-- The line field of a configuration: `some none` for 0xFF, nothing for a line number above 31 (R174). -/
def lineOrNoneOf (n : Nat) : Option (Option Line) :=
  if n = 0xFF then some none
  else if h : n < 32 then some (some ⟨n, h⟩)
  else none

/-- The failsafe value of a two-bit code (R175). -/
def failsafeOf : Nat → Option Failsafe
  | 0 => some .driveLow
  | 1 => some .driveHigh
  | 2 => some .float
  | _ => none

/-- The code of a status (Table 10-6). -/
def statusCode : Status → Byte
  | .ok => 0x00
  | .queued => 0x01
  | .checkError => 0x10
  | .badRequest => 0x11
  | .badArgument => 0x12
  | .noSession => 0x20
  | .staleSession => 0x21
  | .sessionOpen => 0x22
  | .heldByOther => 0x30
  | .notHolder => 0x31
  | .orphaned => 0x32
  | .offered => 0x33
  | .offerGone => 0x34
  | .limit => 0x35
  | .busy => 0x40
  | .forced => 0x41
  | .notQuiet => 0x42

/-! ### Request codes (Table 10-1) -/

/-- The twenty-six requests. -/
inductive Request where
  | status | openSession | closeSession | ping | time | claim | cancelClaim | release | setFailsafe | leases
  | offer | accept | decline | withdraw | setDirection | writeLines | readLines | configureEngine | startEngine
  | stopEngine | engineStatus | subscribe | fetch | setAttention | setProfile | getProfile
deriving DecidableEq, Repr

/-- The code of a request. -/
def requestCode : Request → Byte
  | .status => 0x01
  | .openSession => 0x02
  | .closeSession => 0x03
  | .ping => 0x04
  | .time => 0x05
  | .claim => 0x10
  | .cancelClaim => 0x11
  | .release => 0x12
  | .setFailsafe => 0x13
  | .leases => 0x14
  | .offer => 0x18
  | .accept => 0x19
  | .decline => 0x1A
  | .withdraw => 0x1B
  | .setDirection => 0x20
  | .writeLines => 0x21
  | .readLines => 0x22
  | .configureEngine => 0x28
  | .startEngine => 0x29
  | .stopEngine => 0x2A
  | .engineStatus => 0x2B
  | .subscribe => 0x30
  | .fetch => 0x31
  | .setAttention => 0x32
  | .setProfile => 0x38
  | .getProfile => 0x39

/-- The one payload length of a request. -/
def requestLength : Request → Nat
  | .status => 1
  | .openSession => 4
  | .closeSession => 0
  | .ping => 0
  | .time => 0
  | .claim => 8
  | .cancelClaim => 1
  | .release => 5
  | .setFailsafe => 14
  | .leases => 0
  | .offer => 8
  | .accept => 1
  | .decline => 1
  | .withdraw => 1
  | .setDirection => 9
  | .writeLines => 8
  | .readLines => 0
  | .configureEngine => 16
  | .startEngine => 1
  | .stopEngine => 1
  | .engineStatus => 1
  | .subscribe => 10
  | .fetch => 6
  | .setAttention => 1
  | .setProfile => 38
  | .getProfile => 0

/-- Every request, in the order of Table 10-1. -/
def allRequests : List Request :=
  [.status, .openSession, .closeSession, .ping, .time, .claim, .cancelClaim, .release, .setFailsafe, .leases,
   .offer, .accept, .decline, .withdraw, .setDirection, .writeLines, .readLines, .configureEngine, .startEngine,
   .stopEngine, .engineStatus, .subscribe, .fetch, .setAttention, .setProfile, .getProfile]

/-- The request of a code. -/
def requestOf (code : Byte) : Option Request := allRequests.find? fun r => decide (requestCode r = code)

/-- The requests without a session check (R31, R161). -/
def hasSessionCheck : Request → Bool
  | .status => false
  | .time => false
  | .openSession => false
  | _ => true

/-! ### Frames (R156, R172, R176) -/

/-- The full length of a frame of which the first bytes have arrived, once its LEN byte has (R156). -/
def frameLength (incoming : List Byte) : Option Nat := (incoming[4]?).map fun len => len.toNat + 6

/-- All bytes of a frame have arrived. -/
def frameFull (incoming : List Byte) : Bool := decide (frameLength incoming = some incoming.length)

/-- The CHECK byte of a full frame is correct (R173): the register over the bytes before it equals it. -/
def checkCorrect (frame : List Byte) : Bool := decide (some (crc frame.dropLast) = frame.getLast?)

/-- The request frame that the bytes of a full frame spell (R172). -/
def frameOf (frame : List Byte) : Frame :=
  { tag := byteAt frame 0
    code := byteAt frame 1
    session := byteAt frame 2 ++ byteAt frame 3
    payload := (frame.drop 5).dropLast }

/-- The bytes of a request frame (R172). -/
def frameBytes (f : Frame) : List Byte :=
  let body := [f.tag, f.code] ++ bytesOfNat 2 f.session.toNat ++ [BitVec.ofNat 8 f.payload.length] ++ f.payload
  body ++ [crc body]

/-- The TAG of a response: 0xF0 and 0xF1 are sent as 0x00 (R159). -/
def responseTag (tag : Byte) : Byte := if tag = 0xF0 ∨ tag = 0xF1 then 0 else tag

/-- The FLAGS byte of a response (R176). -/
def flagsByte (r : Response) : Byte := boolCode r.overrun ||| (boolCode r.attn <<< 1) ||| (boolCode r.force <<< 2)

/-- The bytes of a response frame (R176). -/
def responseBytes (r : Response) : List Byte :=
  let body := [r.tag, statusCode r.status, flagsByte r, BitVec.ofNat 8 r.payload.length] ++ r.payload
  body ++ [crc body]

/-- NOT_READY, the byte a pending port sends (R160). -/
def notReady : Byte := 0xF0

/-- EMPTY, the byte an idle port sends (R160). -/
def empty : Byte := 0xF1

/-- `count` bytes of what a port sends: the content, then 0x00 fill (R160, R166). -/
def filled (content : List Byte) (count : Nat) : List Byte := content.take count ++ List.replicate (count - content.length) 0

/-- The bytes of an SPI transaction begin neither a write, nor a read, nor a resync (R164): the first byte is none of
0xB1, 0xB2 and 0xFF, or it is 0xFF and the first four bytes are not, or not yet, all 0xFF. A transaction without a
complete byte begins nothing. -/
def invalidSpiStart : List Byte → Bool
  | [] => false
  | b :: rest =>
    if b = 0xB1 ∨ b = 0xB2 then false
    else if b = 0xFF then decide (rest.take 3 ≠ [0xFF, 0xFF, 0xFF])
    else true

/-! ### Resource sets (R3, R174) -/

/-- The resource of a line. -/
def lineResource (l : Line) : Resource := ⟨l.val, by omega⟩

/-- The resource of an engine. -/
def engineResource (e : EngineNo) : Resource := ⟨32 + e.val, by omega⟩

/-- A resource is a member of a set. -/
def inSet (set : ResourceSet) (r : Resource) : Bool := set.getLsbD r.val

/-- The members of a set, in ascending resource number. -/
def members (set : ResourceSet) : List Resource := (List.finRange 36).filter (inSet set)

/-- The engines of a set, in ascending number. -/
def enginesOf (set : ResourceSet) : List EngineNo := (List.finRange 4).filter fun e => inSet set (engineResource e)

/-- The set of the resources a test holds of. -/
def setOf (test : Resource → Bool) : ResourceSet :=
  (List.finRange 36).foldl (fun set r => if test r then set ||| (1#36 <<< r.val) else set) 0

/-- The set of one line. -/
def lineSet (l : Line) : ResourceSet := 1#36 <<< l.val

/-- The set of one engine. -/
def engineSet (e : EngineNo) : ResourceSet := 1#36 <<< (32 + e.val)

/-- A set of lines as a set of resources. -/
def ofLines (lines : LineSet) : ResourceSet := lines.zeroExtend 36

/-- The resource-set field (5 bytes) that begins at byte `at_`; nothing when it names a number above 35. -/
def resourceSetAt (payload : List Byte) (at_ : Nat) : Option ResourceSet :=
  if fieldAt payload at_ 5 < 2 ^ 36 then some (BitVec.ofNat 36 (fieldAt payload at_ 5)) else none

/-- The line-set field (5 bytes) that begins at byte `at_`; nothing when it names anything but a line (R132, R174). -/
def lineSetAt (payload : List Byte) (at_ : Nat) : Option LineSet :=
  if fieldAt payload at_ 5 < 2 ^ 32 then some (BitVec.ofNat 32 (fieldAt payload at_ 5)) else none

end Sys2Proof.Machine
end

