-- ==== Sys2Proof/Machine/ResetValues.lean ====
section
/-! DEFINITION. The value of each block's state after reset
(R4, R28, R76, R98, R147, R155, R171), and the pins that `State.reset` takes. -/

namespace Sys2Proof.Machine

/-- Resource numbers below 32 are lines (R1). -/
def isLine (r : Resource) : Bool := decide (r.val < 32)

/-- A lease entry after reset (R4). -/
def LeaseEntry.reset (r : Resource) : LeaseEntry :=
  { state := .free, generation := 0, failsafe := if isLine r then .float else .driveLow }

/-- A session record after reset (R28). -/
def Session.reset : Session :=
  { state := .closed, number := 0, heldCount := 0, given := 0, acknowledged := 0, lost := 0, unreportedLost := 0,
    previousEnd := .reset }

/-- The level a sampled pin has. -/
def levelOf (b : Bool) : Level := if b then .high else .low

/-- A line cell after reset, from the level on its pin (R76). -/
def LineCell.reset (pin : Level) : LineCell :=
  { raw := pin, run := 0, filtered := pin, direction := .input, commanded := .low, monitor := .idle, drive := .float }

/-- An engine after reset (R98). -/
def Engine.reset : Engine :=
  { state := .idle, config := none, elapsed := 0, pulses := 0, edges := 0, ignored := 0, out := .low, taken := 0 }

/-- The profile after reset (Table 8-2). -/
def Profile.reset : Profile :=
  { tickUnit := .us10, interval := .ms1, filterCount := Vector.ofFn fun _ => 3
    outputKind := Vector.ofFn fun _ => .pushPull }

/-- A port after reset (R155, R171); an SPI port whose select is low ignores the transaction it is in, and drives its
data output (R164). -/
def PortUnit.reset (selectLow : Bool) : PortUnit :=
  { state := .idle, overrunLatch := false, checkErrors := 0, overruns := 0, framingErrors := 0, resyncs := 0
    link := if selectLow then .ignoring else .quiet, driven := selectLow, sent := [], acks := [] }

/-- The pins that `State.reset` takes: every line LOW, nFSAFE high, both straps low, no SPI select low
(DESIGN CHOICE, assumption 2: the manual reads them from the board). -/
def ResetPins.standard : ResetPins :=
  { lines := 0, nFsafe := .high, straps := 0, select0Low := false, select1Low := false }

end Sys2Proof.Machine
end

