-- ==== Sys2Proof/Machine/State.lean ====
section
/-! DEFINITION. The outcomes that stop, the state of the hub as plain data, and its value after reset. -/

namespace Sys2Proof.Machine

/-! ### Outcomes that stop -/

/-- The reasons for which a step stops with a fault. The manual names no happening after which the part stops: every
refused request is answered with a status and the part goes on. So there is no constructor, and no step faults
(safe: nothing is cut off). -/
inductive Fault where
deriving DecidableEq, Repr

/-- The reasons for which a step is refused. -/
inductive Refusal where
  /-- The command has no meaning yet. Raised by an arm of `exec` alone (safe: the run ends there). -/
  | notModelled (mnemonic : String)
deriving DecidableEq, Repr

/-! ### The hub -/

/-- The state of the hub. -/
structure State where
  /-- Lease Controller: session table (R27). -/
  sessions : PerPort Session
  /-- Lease Controller: lease table (R5). -/
  leases : Vector LeaseEntry 36
  /-- Lease Controller: offer table, in ascending offer id (R45). -/
  offers : List Offer
  /-- Lease Controller: offer-id counter (R46). -/
  offerCounter : Byte
  /-- Lease Controller: wait list, oldest first (R62). -/
  waitList : List WaitEntry
  /-- Lease Controller: ticket counter (R63). -/
  ticketCounter : Byte
  /-- Line Unit: line cells (R76). -/
  lines : Vector LineCell 32
  /-- Line Unit: nFSAFE monitor (R93). -/
  force : ForceMonitor
  /-- Timing Engines (R98). -/
  engines : Vector Engine 4
  /-- Timebase (R145). -/
  timeCount : Count
  /-- Profile Store (R147). -/
  profile : Profile
  /-- Event Journal: record store, oldest first (R124). -/
  journal : List Record
  /-- Event Journal: sequence counter (R125). -/
  nextSeq : Seq
  /-- Event Journal: attention outputs, true for asserted (R140). -/
  attn : PerPort Bool
  /-- Host Port Units (R155). -/
  ports : PerPort PortUnit
  /-- Command Arbiter: the port served last (R161). -/
  servedLast : Port
  /-- The cause of the most recent reset (R171). -/
  resetCause : ResetCause
  /-- The cause of the reset in progress, if one is (R171). -/
  inReset : Option ResetCause
  /-- The I2C address read from the straps (R168). -/
  i2cAddress : BitVec 7
  /-- The model's own: how many free values have been read (assumption 3). -/
  freeCount : Nat
  /-- The model's own: the commands that are waiting, first in, first out. -/
  pending : List Instr
deriving DecidableEq, Repr

/-! ### Reset (R4, R28, R45, R62, R124, R145, R155, R161, R171) -/

/-- The machine at the end of a reset of the given cause, with the given levels on its pins. -/
def State.afterReset (cause : ResetCause) (pins : ResetPins) (freeCount : Nat) (pending : List Instr) : State :=
  { sessions := ⟨Session.reset, Session.reset, Session.reset⟩
    leases := Vector.ofFn LeaseEntry.reset
    offers := []
    offerCounter := 0
    waitList := []
    ticketCounter := 0
    lines := Vector.ofFn fun l => LineCell.reset (levelOf (pins.lines.getLsbD l))
    force := { asserted := decide (pins.nFsafe = .low), run := 0 }
    engines := Vector.ofFn fun _ => Engine.reset
    timeCount := 0
    profile := Profile.reset
    journal := []
    nextSeq := 1
    attn := ⟨false, false, false⟩
    ports := ⟨PortUnit.reset pins.select0Low, PortUnit.reset pins.select1Low, PortUnit.reset false⟩
    servedLast := .hp2
    resetCause := cause
    inReset := none
    i2cAddress := 0x2C + pins.straps.zeroExtend 7
    freeCount := freeCount
    pending := pending }

/-- The machine right after reset: the end of a power-on reset with the standard pins (assumption 2). -/
def State.reset : State := State.afterReset .powerOn ResetPins.standard 0 []

end Sys2Proof.Machine
end

