-- ==== Sys2Proof/Machine/Access.lean ====
section
/-! DEFINITION. Reading and updating one part of the state: the only places where a field is replaced by hand. -/

namespace Sys2Proof.Machine

/-! ### Sets of ports -/

/-- One value for each port, computed from the port. -/
def PerPort.of {α : Type} (f : Port → α) : PerPort α := ⟨f .hp0, f .hp1, f .hp2⟩

/-- The set of one port. -/
def onlyPort (p : Port) : PortSet := PerPort.of fun q => decide (q = p)

/-- The set of every port. -/
def everyPort : PortSet := PerPort.of fun _ => true

/-- The set of every port but one. -/
def otherPorts (p : Port) : PortSet := PerPort.of fun q => decide (q ≠ p)

/-- The set of no port. -/
def noPort : PortSet := PerPort.of fun _ => false

/-- The union of two sets of ports. -/
def eitherPort (a b : PortSet) : PortSet := PerPort.of fun q => a.get q || b.get q

/-- A set of ports has no member. -/
def isNoPort (a : PortSet) : Bool := !(a.hp0 || a.hp1 || a.hp2)

/-- The three ports. -/
def allPorts : List Port := [.hp0, .hp1, .hp2]

/-! ### Counters -/

/-- One more, stopping at the largest value (section 3.6 of the manual's conventions). -/
def satInc (largest n : Nat) : Nat := if n < largest then n + 1 else n

/-- `k` more, stopping at the largest value. -/
def satAdd (largest n k : Nat) : Nat := min largest (n + k)

/-! ### Reading -/

/-- The session record of a port. -/
def State.session (s : State) (p : Port) : Session := s.sessions.get p

/-- The fields of the port's session while it is OPEN. -/
def State.openFields (s : State) (p : Port) : Option OpenSession :=
  match (s.session p).state with
  | .opened o => some o
  | .closed => none
  | .lapsed => none

/-- The port's session is OPEN. -/
def State.isOpen (s : State) (p : Port) : Bool := (s.openFields p).isSome

/-- The lease entry of a resource. -/
def State.entry (s : State) (r : Resource) : LeaseEntry := s.leases[r]

/-- The holder of a lease entry: present in HELD and OFFERED (R5). -/
def LeaseState.holder : LeaseState → Option Port
  | .free => none
  | .held p => some p
  | .offered p _ => some p
  | .orphaned _ => none

/-- The port a lease entry names: holder or last holder (R176). -/
def LeaseState.named : LeaseState → Option Port
  | .free => none
  | .held p => some p
  | .offered p _ => some p
  | .orphaned p => some p

/-- The holder of a resource. -/
def State.holderOf (s : State) (r : Resource) : Option Port := (s.entry r).state.holder

/-- The port holds the resource: HELD or OFFERED with the port as holder (R2). -/
def State.holds (s : State) (p : Port) (r : Resource) : Bool := decide (s.holderOf r = some p)

/-- The set of the resources whose holder is the port. -/
def State.heldSet (s : State) (p : Port) : ResourceSet := setOf (s.holds p)

/-- The number of resources ORPHANED with the port as last holder (R33). -/
def State.orphanCount (s : State) (p : Port) : Nat :=
  ((List.finRange 36).filter fun r => decide ((s.entry r).state = .orphaned p)).length

/-- The open offer with an id. -/
def State.offer (s : State) (id : Byte) : Option Offer := s.offers.find? fun o => decide (o.id = id)

/-- The queued claim of a port. -/
def State.queuedClaim (s : State) (p : Port) : Option WaitEntry := s.waitList.find? fun w => decide (w.port = p)

/-- The queued claim with a ticket. -/
def State.ticketEntry (s : State) (t : Byte) : Option WaitEntry := s.waitList.find? fun w => decide (w.ticket = t)

/-- The cell of a line. -/
def State.line (s : State) (l : Line) : LineCell := s.lines[l]

/-- An engine. -/
def State.engine (s : State) (e : EngineNo) : Engine := s.engines[e]

/-- The Host Port Unit of a port. -/
def State.port (s : State) (p : Port) : PortUnit := s.ports.get p

/-- The records that carry the session's interest, oldest first. -/
def State.records (s : State) (p : Port) : List Record := s.journal.filter fun r => r.interest.get p

/-! ### Updating -/

/-- The state with one session record changed. -/
def State.withSession (s : State) (p : Port) (f : Session → Session) : State :=
  { s with sessions := s.sessions.set p (f (s.sessions.get p)) }

/-- The state with the fields of one OPEN session changed; a session that is not OPEN is left as it is. -/
def State.withOpen (s : State) (p : Port) (f : OpenSession → OpenSession) : State :=
  match (s.session p).state with
  | .opened o => s.withSession p fun x => { x with state := .opened (f o) }
  | .closed => s
  | .lapsed => s

/-- The state with every lease entry changed as its resource says. -/
def State.withEntryOf (s : State) (f : Resource → LeaseEntry → LeaseEntry) : State :=
  { s with leases := Vector.ofFn fun r => f r s.leases[r] }

/-- The state with the lease entries of a set changed. -/
def State.withEntries (s : State) (set : ResourceSet) (f : LeaseEntry → LeaseEntry) : State :=
  s.withEntryOf fun r x => if inSet set r then f x else x

/-- The state with the cells of some lines changed. -/
def State.withLines (s : State) (f : Line → LineCell → LineCell) : State :=
  { s with lines := Vector.ofFn fun l => f l s.lines[l] }

/-- The state with one line cell changed. -/
def State.withLine (s : State) (l : Line) (f : LineCell → LineCell) : State :=
  s.withLines fun k c => if k = l then f c else c

/-- The state with every engine changed as its number says. -/
def State.withEngines (s : State) (f : EngineNo → Engine → Engine) : State :=
  { s with engines := Vector.ofFn fun e => f e s.engines[e] }

/-- The state with one engine changed. -/
def State.withEngine (s : State) (e : EngineNo) (f : Engine → Engine) : State :=
  s.withEngines fun k g => if k = e then f g else g

/-- The state with one Host Port Unit changed. -/
def State.withPort (s : State) (p : Port) (f : PortUnit → PortUnit) : State :=
  { s with ports := s.ports.set p (f (s.ports.get p)) }

/-- The state with another offer table. -/
def State.withOffers (s : State) (offers : List Offer) : State := { s with offers := offers }

/-- The state with another wait list. -/
def State.withWaitList (s : State) (entries : List WaitEntry) : State := { s with waitList := entries }

/-- The state with another record store. -/
def State.withJournal (s : State) (records : List Record) : State := { s with journal := records }

/-- The state with another profile. -/
def State.withProfile (s : State) (profile : Profile) : State := { s with profile := profile }

/-- The state with another nFSAFE monitor. -/
def State.withForce (s : State) (force : ForceMonitor) : State := { s with force := force }

/-- The state in which the Arbiter's pointer names a port (R161). -/
def State.served (s : State) (p : Port) : State := { s with servedLast := p }

/-- The state with one attention output changed. -/
def State.withAttn (s : State) (p : Port) (asserted : Bool) : State := { s with attn := s.attn.set p asserted }

end Sys2Proof.Machine
end

