-- ==== Sys2Proof/Machine/Flags.lean ====
section
/-! DEFINITION. What the part computes from its tables as one flag: the attention outputs, the quiet condition,
availability, and the levels the pins take. -/

namespace Sys2Proof.Machine

/-! ### Attention outputs (R139, R140) -/

/-- A record kind is a notice (Table 7-1). -/
def isNotice : RecordBody → Bool
  | .lineEdge _ _ => false
  | .engineResult _ _ _ _ _ => false
  | .lineFault _ _ _ => true
  | .offerMade _ _ _ _ => true
  | .offerSettled _ _ _ => true
  | .claimSettled _ _ _ _ => true
  | .leaseLost _ _ => true
  | .forceChange _ => true
  | .profileChanged _ _ => true

/-- The pending count of a session (R139). -/
def State.pendingCount (s : State) (p : Port) : Nat := (s.records p).length

/-- The session has a pending notice (R139). -/
def State.pendingNotice (s : State) (p : Port) : Bool := (s.records p).any fun r => isNotice r.body

/-- The level of nATTNn by R140, true for asserted. -/
def State.attentionDue (s : State) (p : Port) : Bool :=
  match s.openFields p with
  | none => false
  | some o => decide (o.threshold ≤ s.pendingCount p) || s.pendingNotice p || decide (0 < (s.session p).unreportedLost)

/-- The attention outputs of a set of ports re-evaluated (R140). -/
def State.reattend (s : State) (ps : PortSet) : State :=
  { s with attn := PerPort.of fun p => if ps.get p then s.attentionDue p else s.attn.get p }

/-! ### The quiet hub (R26) -/

/-- Every resource is FREE and the wait list is empty. -/
def State.quiet (s : State) : Bool :=
  (List.finRange 36).all (fun r => decide ((s.entry r).state = .free)) && s.waitList.isEmpty

/-! ### Availability (R13, Table 1-3) -/

/-- A lease state is available to a claim by a port. -/
def availableState (p : Port) (adopt : Bool) : LeaseState → Bool
  | .free => true
  | .held h => decide (h = p)
  | .offered h _ => decide (h = p)
  | .orphaned _ => adopt

/-- A resource is available to a claim by a port (R13). -/
def State.available (s : State) (p : Port) (adopt : Bool) (r : Resource) : Bool :=
  availableState p adopt (s.entry r).state

/-- The whole set is available to a claim by a port. -/
def State.setAvailable (s : State) (p : Port) (adopt : Bool) (set : ResourceSet) : Bool :=
  (members set).all (s.available p adopt)

/-- The lowest-numbered resource of a set that is unavailable to a claim. -/
def State.lowestUnavailable (s : State) (p : Port) (adopt : Bool) (set : ResourceSet) : Option Resource :=
  (members set).find? fun r => !s.available p adopt r

/-- The status of a refused claim for the resource that stopped it (Table 1-3). -/
def State.claimRefusal (s : State) (p : Port) (r : Resource) : Status :=
  match (s.entry r).state with
  | .free => .heldByOther
  | .held _ => .heldByOther
  | .offered _ id =>
    match s.offer id with
    | some o => if o.target = p then .offered else .heldByOther
    | none => .heldByOther
  | .orphaned _ => .orphaned

/-! ### What a line pin does (R82, R83) -/

/-- A lease state gives its holder control of the pin: HELD or OFFERED. -/
def controlled (st : LeaseState) : Bool := st.holder.isSome

/-- A wanted level through the output kind (R82). -/
def levelDrive : OutputKind → Level → Drive
  | _, .low => .low
  | .pushPull, .high => .high
  | .openDrain, .high => .float

/-- A failsafe value through the output kind (R82). -/
def failsafeDrive (k : OutputKind) : Failsafe → Drive
  | .driveLow => levelDrive k .low
  | .driveHigh => levelDrive k .high
  | .float => .float

/-- The effective drive of a line (R83). -/
def State.effectiveDrive (s : State) (l : Line) : Drive :=
  let entry := s.entry (lineResource l)
  let cell := s.line l
  let kind := s.profile.outputKind[l]
  if s.force.asserted || !controlled entry.state then failsafeDrive kind entry.failsafe
  else if cell.direction = .output then levelDrive kind cell.commanded
  else .float

/-- The level a drive holds its pin at. -/
def driveLevel : Drive → Option Level
  | .low => some .low
  | .high => some .high
  | .float => none

/-- The state a contention monitor is entered in for a new drive, with the line's filter count (R88). -/
def monitorFor (filterCount : BitVec 4) (d : Drive) : Monitor :=
  match driveLevel d with
  | some _ => .settling (filterCount.toNat + 2)
  | none => .idle

/-! ### What an engine pin does (R114) -/

/-- The level on TOn of an engine without a holder, or under force (R114 case 1). -/
def failsafeLevel : Failsafe → Level
  | .driveLow => .low
  | .driveHigh => .high
  | .float => .low

/-- The level on TOn under the holder's control (R114 cases 2 to 4). -/
def runLevel : EngineState → Level
  | .timed .high _ => .high
  | .timed .pulse _ => .high
  | .timed .low _ => .low
  | .timed .delay _ => .low
  | .timed .counting _ => .low
  | .idle => .low
  | .armed _ => .low
  | .measuring _ _ => .low
  | .gated _ _ => .low

/-- The level on TOn (R114). -/
def State.engineDrive (s : State) (e : EngineNo) : Level :=
  let entry := s.entry (engineResource e)
  if s.force.asserted || !controlled entry.state then failsafeLevel entry.failsafe
  else runLevel (s.engine e).state

end Sys2Proof.Machine
end

