-- ==== Sys2Proof/Machine/Operands.lean ====
section
/-! DEFINITION. Every operand form: the fields of each request's payload (Table 10-5), with the argument ranges that
the payload alone decides. `none` is a payload refused with BAD_ARGUMENT (R174). -/

namespace Sys2Proof.Machine

/-- A byte whose only defined bits are the lowest `k`: the flag bytes and one-byte codes of Table 10-5. -/
def onlyBits (k : Nat) (b : Byte) : Bool := decide (b.toNat < 2 ^ k)

/-- STATUS: the CLEAR flag (R43); an undefined flag bit is refused (R174; DEDUCED, assumption 15). -/
def statusOperands (pl : List Byte) : Option Bool :=
  if onlyBits 1 (byteAt pl 0) then some ((byteAt pl 0).getLsbD 0) else none

/-- OPEN SESSION: keepalive period, attention threshold, REPLACE (R33). -/
structure OpenOperands where
  period : Nat
  threshold : Nat
  replace : Bool
deriving DecidableEq, Repr

/-- OPEN SESSION's payload; period 10 to 60,000 ms and threshold 1 to 128 (R33). -/
def openOperands (pl : List Byte) : Option OpenOperands :=
  let period := fieldAt pl 0 2
  let threshold := fieldAt pl 2 1
  if 10 ≤ period ∧ period ≤ 60000 ∧ 1 ≤ threshold ∧ threshold ≤ 128 ∧ onlyBits 1 (byteAt pl 3) then
    some { period := period, threshold := threshold, replace := (byteAt pl 3).getLsbD 0 }
  else none

/-- CLAIM: set, ADOPT, and the wait time when WAIT is set (R12). -/
structure ClaimOperands where
  set : ResourceSet
  adopt : Bool
  wait : Option Nat
deriving DecidableEq, Repr

/-- CLAIM's payload: the set not empty; with WAIT, a wait time of 1 to 60,000 ms; without it the wait time is ignored
(R12, R175). -/
def claimOperands (pl : List Byte) : Option ClaimOperands :=
  let flags := byteAt pl 5
  let ms := fieldAt pl 6 2
  match resourceSetAt pl 0 with
  | none => none
  | some set =>
    if set ≠ 0 ∧ onlyBits 2 flags ∧ (flags.getLsbD 1 = true → 1 ≤ ms ∧ ms ≤ 60000) then
      some { set := set, adopt := flags.getLsbD 0, wait := if flags.getLsbD 1 then some ms else none }
    else none

/-- A one-byte offer id or ticket, 1 to 255 (R51, R70). -/
def idOperand (pl : List Byte) : Option Byte := if byteAt pl 0 = 0 then none else some (byteAt pl 0)

/-- RELEASE: a set that is not empty (R21). -/
def releaseOperands (pl : List Byte) : Option ResourceSet :=
  match resourceSetAt pl 0 with
  | none => none
  | some set => if set = 0 then none else some set

/-- The failsafe value that SET FAILSAFE's value field gives a resource: two bits each, resource 0 in the lowest
(R175). -/
def failsafeAt (pl : List Byte) (r : Resource) : Option Failsafe := failsafeOf (fieldAt pl 5 9 / 4 ^ r.val % 4)

/-- The failsafe value is legal for the resource: an engine has no FLOAT (R24). -/
def legalFailsafe (r : Resource) : Option Failsafe → Bool
  | none => false
  | some .float => decide (r.val < 32)
  | some _ => true

/-- SET FAILSAFE: a set that is not empty, every member with a legal value (R24). The values stay in the payload. -/
def setFailsafeOperands (pl : List Byte) : Option ResourceSet :=
  match resourceSetAt pl 0 with
  | none => none
  | some set =>
    if set ≠ 0 ∧ (members set).all (fun r => legalFailsafe r (failsafeAt pl r)) then some set else none

/-- OFFER: set, target port, window (R48). -/
structure OfferOperands where
  set : ResourceSet
  target : Port
  window : Nat
deriving DecidableEq, Repr

/-- OFFER's payload from a port: the set not empty, the window 1 to 10,000 ms, the target another port (R48). -/
def offerOperands (requester : Port) (pl : List Byte) : Option OfferOperands :=
  let window := fieldAt pl 6 2
  match resourceSetAt pl 0, portOf (fieldAt pl 5 1) with
  | some set, some target =>
    if set ≠ 0 ∧ 1 ≤ window ∧ window ≤ 10000 ∧ target ≠ requester then
      some { set := set, target := target, window := window }
    else none
  | _, _ => none

/-- SET DIRECTION: the well-formed set that is not empty, engines included (R85 refuses an engine by name). -/
def setDirectionSet (pl : List Byte) : Option ResourceSet := releaseOperands pl

/-- SET DIRECTION: the direction the mask gives a line (R175). -/
def directionAt (pl : List Byte) (l : Line) : Direction :=
  if (fieldAt pl 5 4).testBit l.val then .output else .input

/-- WRITE LINES: a mask that names a line, and the values (R86). -/
def writeLinesOperands (pl : List Byte) : Option (LineSet × LineSet) :=
  if fieldAt pl 0 4 = 0 then none else some (BitVec.ofNat 32 (fieldAt pl 0 4), BitVec.ofNat 32 (fieldAt pl 4 4))

/-- An engine number, 0 to 3 (R101, R102, R112, R113). -/
def engineOperand (pl : List Byte) : Option EngineNo :=
  if h : fieldAt pl 0 1 < 4 then some ⟨fieldAt pl 0 1, h⟩ else none

/-- A configuration is well formed for its mode (R100, Table 6-2). -/
def wellFormedConfig (c : EngineConfig) : Bool :=
  match c.mode with
  | .pulseTrain => decide (c.input = none ∧ c.trigger = .command)
  | .delayedPulse =>
    match c.trigger with
    | .line => decide (c.input ≠ none ∧ c.gate = none)
    | .command => decide (c.input = none ∧ c.gate = none)
  | .measureWidth | .measurePeriod | .countEdges => decide (c.input ≠ none ∧ c.gate = none ∧ c.trigger = .command)

/-- The configuration that the fifteen bytes after the engine number spell, field by field (R101, R174). -/
def configFields (pl : List Byte) : Option EngineConfig :=
  match modeOf (fieldAt pl 1 1), lineOrNoneOf (fieldAt pl 10 1), edgeOf (fieldAt pl 11 1),
    lineOrNoneOf (fieldAt pl 12 1), levelOfCode (fieldAt pl 13 1), triggerOf (fieldAt pl 14 1) with
  | some mode, some input, some edge, some gate, some gateLevel, some trigger =>
    if fieldAt pl 2 3 ≠ 0 ∧ fieldAt pl 5 3 ≠ 0 ∧ onlyBits 1 (byteAt pl 15) then
      some { mode := mode, a := fieldAt pl 2 3, b := fieldAt pl 5 3, repeatCount := fieldAt pl 8 2, input := input
             edge := edge, gate := gate, gateLevel := gateLevel, trigger := trigger
             rearm := (byteAt pl 15).getLsbD 0 }
    else none
  | _, _, _, _, _, _ => none

/-- CONFIGURE ENGINE: an engine number and a well-formed configuration (R101). -/
def configureOperands (pl : List Byte) : Option (EngineNo × EngineConfig) :=
  match engineOperand pl, configFields pl with
  | some e, some c => if wellFormedConfig c then some (e, c) else none
  | _, _ => none

/-- SUBSCRIBE: the rise set and the fall set, lines only (R132). -/
def subscribeOperands (pl : List Byte) : Option (LineSet × LineSet) :=
  match lineSetAt pl 0, lineSetAt pl 5 with
  | some rise, some fall => some (rise, fall)
  | _, _ => none

/-- FETCH: the acknowledgement number when ACK is set, and the maximum (R134). -/
structure FetchOperands where
  ack : Option Seq
  maximum : Nat
deriving DecidableEq, Repr

/-- FETCH's payload: the maximum 1 to 6; without ACK the number is ignored (R134, R175). -/
def fetchOperands (pl : List Byte) : Option FetchOperands :=
  let m := fieldAt pl 5 1
  if onlyBits 1 (byteAt pl 0) ∧ 1 ≤ m ∧ m ≤ 6 then
    some { ack := if (byteAt pl 0).getLsbD 0 then some (BitVec.ofNat 32 (fieldAt pl 1 4)) else none, maximum := m }
  else none

/-- SET ATTENTION: a threshold of 1 to 128 (R141). -/
def attentionOperand (pl : List Byte) : Option Nat :=
  if 1 ≤ fieldAt pl 0 1 ∧ fieldAt pl 0 1 ≤ 128 then some (fieldAt pl 0 1) else none

/-- SET PROFILE: a complete profile, every field in its range (R149). -/
def profileOperands (pl : List Byte) : Option Profile :=
  match tickUnitOf (fieldAt pl 0 1), intervalOf (fieldAt pl 1 1) with
  | some unit, some interval =>
    if (List.finRange 32).all (fun l => decide (fieldAt pl (2 + l.val) 1 ≤ 15)) then
      some { tickUnit := unit, interval := interval
             filterCount := Vector.ofFn fun l => BitVec.ofNat 4 (fieldAt pl (2 + l.val) 1)
             outputKind := Vector.ofFn fun l =>
               if (fieldAt pl 34 4).testBit l.val then OutputKind.openDrain else OutputKind.pushPull }
    else none
  | _, _ => none

end Sys2Proof.Machine
end

