-- ==== Sys2Proof/Machine/Ops.lean ====
section
/-! DEFINITION. The named operations that the happenings share: journal appends, drive decisions, engine ticks and
stops, lease changes, the examination of the wait list, the end of a session, and the taking of a request. -/

namespace Sys2Proof.Machine

/-! ### The Event Journal (R127 to R131) -/

/-- The sessions of a set of ports that are OPEN: the interest set of a record offered to them (R126). -/
def State.interested (s : State) (recipients : PortSet) : PortSet :=
  PerPort.of fun p => recipients.get p && s.isOpen p

/-- The recipients named by the holder of a resource. -/
def State.holderSet (s : State) (r : Resource) : PortSet :=
  match s.holderOf r with
  | some p => onlyPort p
  | none => noPort

/-- A loss counted to a session (R128). -/
def countLoss (x : Session) : Session :=
  { x with lost := satInc max32 x.lost, unreportedLost := satInc 65535 x.unreportedLost }

/-- Eviction of the oldest record (R128). -/
def State.evict (s : State) : State :=
  match s.journal with
  | [] => s
  | r :: rest =>
    { s with
      journal := rest
      sessions := PerPort.of fun p => if r.interest.get p then countLoss (s.session p) else s.session p }

/-- The interest set of the record that an append evicts, if it evicts one (R127 step 2). -/
def State.evictedInterest (s : State) : PortSet :=
  if s.journal.length < Config.journalCapacity then noPort
  else match s.journal with
    | [] => noPort
    | r :: _ => r.interest

/-- Room for one more record (R127 step 2). -/
def State.makeRoom (s : State) : State := if s.journal.length < Config.journalCapacity then s else s.evict

/-- An OPEN session with nothing pending has its acknowledgement point moved just before the next record, and its
delivered mark becomes absent (R133; DEDUCED, assumption 8). -/
def movePoint (next : Seq) (nothingPending : Bool) (x : Session) : Session :=
  match x.state with
  | .opened o => if nothingPending then { x with state := .opened { o with ackPoint := next - 1, mark := none } } else x
  | .closed => x
  | .lapsed => x

/-- The given counter rises (R129). -/
def countGiven (x : Session) : Session := { x with given := satInc max32 x.given }

/-- A record placed at the newest end of the journal (R127 steps 3 and 4, R133). -/
def State.place (s : State) (interest : PortSet) (time : Count) (body : RecordBody) : State :=
  { s with
    journal := s.journal ++ [{ seq := s.nextSeq, time := time, body := body, interest := interest }]
    nextSeq := s.nextSeq + 1
    sessions := PerPort.of fun p =>
      let moved := movePoint s.nextSeq (s.records p).isEmpty (s.session p)
      if interest.get p then countGiven moved else moved }

/-- An append (R127): the record reaches those recipients that are OPEN; with none, nothing happens. -/
def State.append (s : State) (recipients : PortSet) (time : Count) (body : RecordBody) : State :=
  if isNoPort (s.interested recipients) then s
  else (s.makeRoom.place (s.interested recipients) time body).reattend
    (eitherPort (s.interested recipients) s.evictedInterest)

/-- One record without a session's interest; nothing when no interest is left (R130). -/
def dropInterest (p : Port) (r : Record) : Option Record :=
  let rest := r.interest.set p false
  if isNoPort rest then none else some { r with interest := rest }

/-- A session's interest removed from the records a test holds of, each record left without interest freed
(R130, R131, R135). -/
def removeInterest (p : Port) (test : Record → Bool) (journal : List Record) : List Record :=
  journal.filterMap fun r => if r.interest.get p && test r then dropInterest p r else some r

/-! ### Drive decisions (R84, R88, R114) -/

/-- The cell of a line after its drive is decided again: a changed drive enters the monitor (R84, R88). -/
def State.decidedCell (s : State) (l : Line) : LineCell :=
  let c := s.line l
  let d := s.effectiveDrive l
  if d = c.drive then c else { c with drive := d, monitor := monitorFor s.profile.filterCount[l] d }

/-- An engine with the level of its pin decided again (R114). -/
def State.decidedEngine (s : State) (e : EngineNo) : Engine := { s.engine e with out := s.engineDrive e }

/-- The drive of every resource of a set decided again (R6 step 3, R84, R114). -/
def State.redrive (s : State) (set : ResourceSet) : State :=
  (s.withLines fun l c => if inSet set (lineResource l) then s.decidedCell l else c).withEngines
    fun e g => if inSet set (engineResource e) then s.decidedEngine e else g

/-- Every resource. -/
def everyResource : ResourceSet := BitVec.allOnes 36

/-- Every contention monitor entered from its line's drive, whether or not it changed (R80, R88, R94, R95). -/
def State.enterMonitors (s : State) : State :=
  s.withLines fun l c => { c with monitor := monitorFor s.profile.filterCount[l] c.drive }

/-! ### Timing engines: states, results, ticks (R99, R103 to R111, R115) -/

/-- An engine's new state, with its pin (R114). -/
def State.setEngineState (s : State) (e : EngineNo) (st : EngineState) : State :=
  (s.withEngine e fun g => { g with state := st }).redrive (engineSet e)

/-- An ENGINE_RESULT record for the engine's holder of this moment (R115). -/
def State.appendResult (s : State) (e : EngineNo) (mode : Mode) (outcome : EngineOutcome) (value aux : Nat)
    (time : Count) : State :=
  s.append (s.holderSet (engineResource e)) time (.engineResult e mode outcome value aux)

/-- The run ends: the engine goes IDLE and its result is recorded. -/
def State.finishRun (s : State) (e : EngineNo) (mode : Mode) (outcome : EngineOutcome) (value aux : Nat)
    (time : Count) : State :=
  (s.setEngineState e .idle).appendResult e mode outcome value aux time

/-- The value of a run ended from outside, at a time count (R115). -/
def partialValue (g : Engine) (c : EngineConfig) (now : Count) : Nat :=
  match c.mode with
  | .pulseTrain => g.pulses
  | .delayedPulse => g.pulses
  | .measureWidth | .measurePeriod =>
    match g.state with
    | .measuring opened _ => (now - opened).toNat
    | .idle | .armed _ | .timed _ _ | .gated _ _ => 0
  | .countEdges => g.edges

/-- The aux of a run ended from outside (R115). -/
def partialAux (g : Engine) (c : EngineConfig) : Nat :=
  match c.mode with
  | .delayedPulse => g.ignored
  | .pulseTrain | .measureWidth | .measurePeriod | .countEdges => 0

/-- A run ended from outside with a record of the partial value (R112, R116, R118); an IDLE engine makes none. -/
def State.stopEngine (s : State) (outcome : EngineOutcome) (e : EngineNo) : State :=
  if (s.engine e).state = .idle then s
  else match (s.engine e).config with
    | none => s.setEngineState e .idle
    | some c =>
      s.finishRun e c.mode outcome (partialValue (s.engine e) c s.timeCount) (partialAux (s.engine e) c) s.timeCount

/-- A run ended without a record (R117). -/
def State.silenceEngine (s : State) (e : EngineNo) : State :=
  if (s.engine e).state = .idle then s else s.setEngineState e .idle

/-- A duration in ticks added to a time count (R99). -/
def ticksAfter (t : Count) (n : Nat) : Count := t + BitVec.ofNat 32 n

/-- The time count at which an engine acts by itself: its phase end or limit end. -/
def engineEnd : EngineState → Option Count
  | .idle => none
  | .armed limit => limit
  | .timed _ phaseEnd => some phaseEnd
  | .measuring _ limit => some limit
  | .gated _ _ => none

/-- Ticks count as elapsed in ARMED and RUNNING (R99). -/
def countsTicks : EngineState → Bool
  | .idle => false
  | .armed _ => true
  | .timed _ _ => true
  | .measuring _ _ => true
  | .gated _ _ => false

/-- The end of a LOW phase: a pulse of a train completes (R103, R111; DEDUCED, assumption 16). -/
def State.trainPulseEnd (s : State) (e : EngineNo) (c : EngineConfig) (t : Count) : State :=
  let g := s.engine e
  if g.pulses = max32 then s.finishRun e c.mode .overflow max32 0 t
  else
    let s' := s.withEngine e fun g => { g with pulses := g.pulses + 1 }
    if c.repeatCount ≠ 0 ∧ g.pulses + 1 = c.repeatCount then s'.finishRun e c.mode .done (g.pulses + 1) 0 t
    else s'.setEngineState e (.timed .high (ticksAfter t c.a))

/-- The end of the pulse of a delayed pulse (R105 steps 3 and 4, R111). -/
def State.delayedPulseEnd (s : State) (e : EngineNo) (c : EngineConfig) (t : Count) : State :=
  let g := s.engine e
  if g.pulses = max32 then s.finishRun e c.mode .overflow max32 g.ignored t
  else
    ((s.withEngine e fun g => { g with pulses := g.pulses + 1 }).setEngineState e
      (if c.rearm then .armed none else .idle)).appendResult e c.mode .done (g.pulses + 1) g.ignored t

/-- The end of a COUNT_EDGES window (R110). -/
def State.windowEnd (s : State) (e : EngineNo) (c : EngineConfig) (t : Count) : State :=
  let g := s.engine e
  if c.rearm then
    ((s.withEngine e fun g => { g with edges := 0 }).setEngineState e
      (.timed .counting (ticksAfter t c.a))).appendResult e c.mode .done g.edges 0 t
  else s.finishRun e c.mode .done g.edges 0 t

/-- What an engine does at the tick `t` that reaches its phase end or limit end (R103, R105, R109, R110). -/
def State.engineAct (s : State) (e : EngineNo) (t : Count) : State :=
  match (s.engine e).config with
  | none => s
  | some c =>
    match (s.engine e).state with
    | .idle => s
    | .gated _ _ => s
    | .armed _ => s.finishRun e c.mode .timeout 0 0 t
    | .measuring opened _ => s.finishRun e c.mode .timeout (t - opened).toNat 0 t
    | .timed .high _ => s.setEngineState e (.timed .low (ticksAfter t c.b))
    | .timed .low _ => s.trainPulseEnd e c t
    | .timed .delay _ => s.setEngineState e (.timed .pulse (ticksAfter t c.b))
    | .timed .pulse _ => s.delayedPulseEnd e c t
    | .timed .counting _ => s.windowEnd e c t

/-- The engine takes the tick after the last one it took (R99). -/
def State.takeTick (s : State) (e : EngineNo) : State :=
  let g := s.engine e
  let t := g.taken + 1
  let s' := s.withEngine e fun g =>
    { g with taken := t, elapsed := if countsTicks g.state then satInc max32 g.elapsed else g.elapsed }
  if engineEnd g.state = some t then s'.engineAct e t else s'

/-- The engine takes its next `n` ticks. -/
def State.takeNext (s : State) (e : EngineNo) : Nat → State
  | 0 => s
  | n + 1 => (s.takeTick e).takeNext e n

/-- The engine takes every tick it has not yet taken. -/
def State.settleTicks (s : State) (e : EngineNo) : State := s.takeNext e (s.timeCount - (s.engine e).taken).toNat

/-- The time count has reached the engine's end and the engine has not yet taken that tick (R99): its end lies after
the last tick it took and not after the count. -/
def State.endDue (s : State) (e : EngineNo) : Bool :=
  match engineEnd (s.engine e).state with
  | none => false
  | some t => decide ((t - (s.engine e).taken - 1).toNat < (s.timeCount - (s.engine e).taken).toNat)

/-- The engine takes ticks, at most `fuel` of them, as long as its end is due. -/
def State.takeTicks (s : State) (e : EngineNo) : Nat → State
  | 0 => s
  | fuel + 1 => if s.endDue e then (s.takeTick e).takeTicks e fuel else s

/-- What reaches the engine while its end is due has it take that tick first (R99; DEDUCED, assumption 7). -/
def State.catchUp (s : State) (e : EngineNo) : State :=
  s.takeTicks e (s.timeCount - (s.engine e).taken).toNat

/-- Every engine of a list takes a due tick first (DESIGN CHOICE, assumption 7). -/
def State.catchUpAll (s : State) (es : List EngineNo) : State := es.foldl (fun s e => s.catchUp e) s

/-! ### Leases (R6 to R8, R14 to R16) -/

/-- The next generation: one more, and 1 after 65535 (R8). -/
def nextGeneration (g : BitVec 16) : BitVec 16 := if g = 0xFFFF then 1 else g + 1

/-- The held count of a port rises (R7). -/
def State.gain (s : State) (p : Port) (n : Nat) : State :=
  s.withSession p fun x => { x with heldCount := x.heldCount + n }

/-- The held count of a port falls (R7). -/
def State.lose (s : State) (p : Port) (n : Nat) : State :=
  s.withSession p fun x => { x with heldCount := x.heldCount - n }

/-- The number of members of a set. -/
def setSize (set : ResourceSet) : Nat := (members set).length

/-- A line cell seeded from the failsafe value of a new grant (R15). -/
def seedCell (f : Failsafe) (c : LineCell) : LineCell :=
  match f with
  | .driveLow => { c with commanded := .low, direction := .output }
  | .driveHigh => { c with commanded := .high, direction := .output }
  | .float => { c with direction := .input }

/-- The lines of a set seeded from their failsafe values (R15). -/
def State.seedLines (s : State) (set : ResourceSet) : State :=
  s.withLines fun l c =>
    if inSet set (lineResource l) then seedCell (s.entry (lineResource l)).failsafe c else c

/-- The resources of a claimed set that the port does not yet hold. -/
def State.newlyGranted (s : State) (p : Port) (set : ResourceSet) : ResourceSet :=
  setOf fun r => inSet set r && !s.holds p r

/-- The grant of a claim: every resource of the set that the port does not hold becomes HELD by it, with a new
generation and seeded lines (R8, R14, R15, R67). -/
def State.grant (s : State) (p : Port) (set : ResourceSet) : State :=
  let new := s.newlyGranted p set
  let granted := (s.withEntries new fun x =>
    { x with state := .held p, generation := nextGeneration x.generation }).gain p (setSize new)
  (granted.seedLines new).redrive new

/-- The resources of a set leave every holder's control: their entries take the given state and their pins the
failsafe value (R20, R22, R35, R37). The held counts are the caller's. -/
def State.letGo (s : State) (set : ResourceSet) (after : LeaseState) : State :=
  (s.withEntries set fun x => { x with state := after }).redrive set

/-- An entry leaves the wait list. -/
def State.removeTicket (s : State) (t : Byte) : State :=
  s.withWaitList (s.waitList.filter fun w => decide (w.ticket ≠ t))

/-- A port's queued claim leaves the wait list. -/
def State.removeClaims (s : State) (p : Port) : State :=
  s.withWaitList (s.waitList.filter fun w => decide (w.port ≠ p))

/-- A queued claim granted in an examination (R67, R68). -/
def State.grantQueued (s : State) (w : WaitEntry) : State :=
  ((s.grant w.port w.set).removeTicket w.ticket).append (onlyPort w.port) s.timeCount (.claimSettled w.port w.ticket .granted w.set)

/-- One entry of the wait list examined (R66). -/
def State.examineEntry (s : State) (w : WaitEntry) : State :=
  if s.setAvailable w.port w.adopt w.set then s.grantQueued w else s

/-- The examination of the wait list: one pass from the oldest entry to the youngest (R66). -/
def State.examine (s : State) : State := s.waitList.foldl State.examineEntry s

/-! ### Offers (R45, R53, R56) -/

/-- An open offer leaves the offer table. -/
def State.removeOffer (s : State) (id : Byte) : State :=
  s.withOffers (s.offers.filter fun o => decide (o.id ≠ id))

/-- The resources of an offer return to its offerer (R53); engines with a due tick take it first (R99). -/
def State.returnOffer (s : State) (o : Offer) : State :=
  ((s.catchUpAll (enginesOf o.set)).removeOffer o.id).withEntries o.set fun x => { x with state := .held o.offerer }

/-- The record of an offer's settling. -/
def State.appendSettled (s : State) (o : Offer) (outcome : OfferOutcome) (recipients : PortSet) : State :=
  s.append recipients s.timeCount (.offerSettled o.offerer o.id outcome)

/-- An offer of the ending session cancelled: its offers are removed, offers to it are returned, and the other party
is told (R56). -/
def State.cancelOffer (ending : Port) (s : State) (o : Offer) : State :=
  if o.offerer = ending then (s.removeOffer o.id).appendSettled o .cancelled (onlyPort o.target)
  else (s.returnOffer o).appendSettled o .cancelled (onlyPort o.offerer)

/-- Every open offer of the ending session cancelled: those it made, then those made to it, each in ascending offer id
(R35 step 2, R56). -/
def State.cancelOffers (s : State) (p : Port) : State :=
  let made := s.offers.filter fun o => decide (o.offerer = p)
  let received := s.offers.filter fun o => decide (o.target = p ∧ o.offerer ≠ p)
  (made ++ received).foldl (State.cancelOffer p) s

/-! ### Sessions (R29 to R38) -/

/-- The three ways in which a session ends while the part runs. -/
inductive SessionEnd where
  | lapse | close | replace
deriving DecidableEq, Repr

/-- The state and previous end cause that the end leaves (R35 step 7, R37, R38). -/
def endState : SessionEnd → SessionState
  | .lapse => .lapsed
  | .close => .closed
  | .replace => .lapsed

/-- The previous end cause that the end leaves. -/
def endCause : SessionEnd → EndCause
  | .lapse => .lapsed
  | .close => .closed
  | .replace => .replaced

/-- The engines that the end of a session reaches: those its port holds, and those of the offers made to it, which
return (R35 steps 1 and 2). -/
def State.reachedByEnd (s : State) (p : Port) : List EngineNo :=
  (List.finRange 4).filter fun e =>
    s.holds p (engineResource e) || s.offers.any fun o => decide (o.target = p) && inSet o.set (engineResource e)

/-- Step 1 of a session's end: every engine that the end reaches takes a due tick first (R99), the port's engines are
stopped (with STOPPED records for a close alone), its resources become ORPHANED (FREE for a close), and its held count
becomes 0 (R35, R37, R38, R116, R117). -/
def State.dropHoldings (s : State) (how : SessionEnd) (p : Port) : State :=
  let held := s.heldSet p
  let es := enginesOf held
  let ready := s.catchUpAll (s.reachedByEnd p)
  let stopped :=
    match how with
    | .close => es.foldl (fun s e => State.stopEngine s .stopped e) ready
    | .lapse | .replace => es.foldl State.silenceEngine ready
  let after : LeaseState :=
    match how with
    | .close => .free
    | .lapse | .replace => .orphaned p
  (stopped.letGo held after).withSession p fun x => { x with heldCount := 0 }

/-- Step 4 of a session's end (R131). -/
def State.dropJournalInterest (s : State) (p : Port) : State :=
  (s.withJournal (removeInterest p (fun _ => true) s.journal)).withOpen p
    fun o => { o with rise := 0, fall := 0, mark := none }

/-- Step 5 of a session's end: LEASE_LOST to every other OPEN session, for a lapse or replace that orphaned something
(R35, R37). -/
def State.reportLost (s : State) (how : SessionEnd) (p : Port) (lost : ResourceSet) : State :=
  match how with
  | .close => s
  | .lapse | .replace =>
    if lost = 0 then s else s.append (otherPorts p) s.timeCount (.leaseLost p lost)

/-- Step 7 of a session's end (R35, R37, R38). -/
def State.closeRecord (s : State) (how : SessionEnd) (p : Port) : State :=
  (s.withSession p fun x => { x with state := endState how, previousEnd := endCause how }).withAttn p false

/-- The end of a session, in the seven steps of R35 with the differences of R37 and R38. Its counters keep their values but
for what the records of steps 1 and 2 give to it or push out (R128; DEDUCED, assumption 21). -/
def State.endSession (s : State) (how : SessionEnd) (p : Port) : State :=
  let lost := s.heldSet p
  let s1 := s.dropHoldings how p
  let s2 := s1.cancelOffers p
  let s3 := s2.removeClaims p
  let s4 := s3.dropJournalInterest p
  let s5 := s4.reportLost how p lost
  s5.examine.closeRecord how p

/-- The next session number: one more, and 1 after 65535 (R29). -/
def nextSessionNumber (n : BitVec 16) : BitVec 16 := if n = 0xFFFF then 1 else n + 1

/-- The opening of a session on a port (R33); the attention output is re-evaluated (R140). -/
def State.openRecord (s : State) (p : Port) (period threshold : Nat) : State :=
  (s.withSession p fun x =>
    { state := .opened
        { period := period, remaining := period, threshold := threshold, rise := 0, fall := 0
          ackPoint := s.nextSeq - 1, mark := none }
      number := nextSessionNumber x.number, heldCount := 0, given := 0, acknowledged := 0, lost := 0
      unreportedLost := 0, previousEnd := .none }).reattend (onlyPort p)

/-- The keepalive timer restarts at the full period (R30). -/
def State.restartKeepalive (s : State) (p : Port) : State := s.withOpen p fun o => { o with remaining := o.period }

/-- The session check (R31): the status of a refusal, or none when it passes. -/
def State.sessionCheck (s : State) (p : Port) (number : BitVec 16) : Option Status :=
  match (s.session p).state with
  | .closed => some .noSession
  | .lapsed => some .staleSession
  | .opened _ => if (s.session p).number = number then none else some .staleSession

/-! ### The taking of a request (R159, R161) -/

/-- A status with its payload. -/
structure Reply where
  status : Status
  payload : List Byte
deriving DecidableEq, Repr

/-- A reply without payload. -/
def bare (status : Status) : Reply := { status := status, payload := [] }

/-- A refusal that names a resource: its number and the port its entry names (R176). -/
def State.naming (s : State) (status : Status) (r : Resource) : Reply :=
  { status := status, payload := [BitVec.ofNat 8 r.val, portCodeOrNone (s.entry r).state.named] }

/-- The frame in a port's request slot. -/
def PortUnit.request (u : PortUnit) : Option Frame :=
  match u.state with
  | .pending f _ => some f
  | .idle => none
  | .receiving _ _ => none
  | .answered _ => none

/-- The port after a port in the Arbiter's turn, HP0 after HP2 (R161). -/
def nextPort : Port → Port
  | .hp0 => .hp1
  | .hp1 => .hp2
  | .hp2 => .hp0

/-- The port is PENDING. -/
def State.isPending (s : State) (p : Port) : Bool := (s.port p).request.isSome

/-- The port whose request the Command Arbiter takes next: the first PENDING port after the one served last (R161). -/
def State.arbiterChoice (s : State) : Option Port :=
  let a := nextPort s.servedLast
  let b := nextPort a
  let c := nextPort b
  if s.isPending a then some a else if s.isPending b then some b else if s.isPending c then some c else none

/-- The request that can be taken from the port now: the part is not in reset, and the Arbiter's next port is this
one (R161, R171). -/
def State.taking (s : State) (p : Port) : Option Frame :=
  if s.inReset = none ∧ s.arbiterChoice = some p then (s.port p).request else none

/-- The header of a response to a frame, with the flags of this moment (R142, R159). -/
def State.response (s : State) (p : Port) (tag : Byte) (r : Reply) : Response :=
  { tag := responseTag tag, status := r.status, overrun := (s.port p).overrunLatch, attn := s.attn.get p
    force := s.force.asserted, payload := r.payload }

/-- A response placed in a port: the request slot is emptied, the overrun latch is cleared, and the port is ANSWERED,
or RECEIVING when a further frame is arriving (R159, R161). A stretched read is released and sent (R169). -/
def placeInPort (r : Response) (u : PortUnit) : PortUnit :=
  let st : PortState :=
    match u.state with
    | .pending _ (some incoming) => .receiving incoming (some r)
    | .receiving incoming _ => .receiving incoming (some r)
    | .pending _ none => .answered r
    | .idle => .answered r
    | .answered _ => .answered r
  match u.link with
  | .stretching count _ ended =>
    { u with state := st, overrunLatch := false, sent := filled (responseBytes r) count
             link := if ended then .quiet else .reading }
  | .quiet | .writing | .judging _ | .ignoring | .reading => { u with state := st, overrunLatch := false }

/-- A response built and placed at a port (R159, R161). -/
def State.answer (s : State) (p : Port) (tag : Byte) (r : Reply) : State :=
  s.withPort p (placeInPort (s.response p tag r))

/-- The check of code and length, for a frame of the request's code (R161 check 1, R172). -/
def badLength (rq : Request) (f : Frame) : Bool :=
  decide (f.payload.length ≠ requestLength rq ∨ f.tag = 0xF0 ∨ f.tag = 0xF1)

/-- The checks of code, length and session, then the request's own meaning (R161). -/
def State.checked (s : State) (rq : Request) (p : Port) (f : Frame)
    (body : State → Port → List Byte → State × Reply) : State × Reply :=
  if badLength rq f then (s, bare .badRequest)
  else if hasSessionCheck rq then
    match s.sessionCheck p f.session with
    | some status => (s, bare status)
    | none => body (s.restartKeepalive p) p f.payload
  else body s p f.payload

/-- The taking of a request from a port: one happening (R161). A command that does not fit the request that can be
taken from the port describes nothing the part does, and changes nothing (DESIGN CHOICE, assumption 4). -/
def State.take (s : State) (rq : Request) (p : Port) (body : State → Port → List Byte → State × Reply) : State :=
  match s.taking p with
  | none => s
  | some f =>
    if f.code = requestCode rq then
      let done := (s.served p).checked rq p f body
      done.1.answer p f.tag done.2
    else s

/-- The outcome of a happening: nothing happens while a reset lasts (R171). -/
def State.awake (s : State) (f : State → State) : Host.Outcome State Fault Refusal :=
  .next (if s.inReset = none then f s else s)

end Sys2Proof.Machine
end

