-- ==== Sys2Proof/Machine/Replies.lean ====
section
/-! DEFINITION. The payload of every response (Table 10-7) and of every journal record (Table 10-8). -/

namespace Sys2Proof.Machine

/-- A line number as a byte. -/
def lineByte (l : Line) : Byte := BitVec.ofNat 8 l.val

/-- The generations of a set, in ascending resource number (R9, R176). -/
def State.generations (s : State) (set : ResourceSet) : List Byte :=
  (members set).flatMap fun r => bytesOfNat 2 (s.entry r).generation.toNat

/-- The payload of STATUS (R43). -/
def State.statusPayload (s : State) (p : Port) : List Byte :=
  let u := s.port p
  let x := s.session p
  [resetCauseCode s.resetCause] ++ bytesOfNat 1 u.checkErrors ++ bytesOfNat 1 u.overruns
    ++ bytesOfNat 1 u.framingErrors ++ bytesOfNat 1 u.resyncs ++ [sessionStateCode x.state]
    ++ bytesOfNat 2 x.number.toNat ++ [endCauseCode x.previousEnd, boolCode s.force.asserted]
    ++ bytesOfNat 1 (Config.journalCapacity - s.journal.length) ++ [boolCode s.quiet] ++ bytesOfNat 1 x.heldCount
    ++ bytesOfNat 4 x.given ++ bytesOfNat 4 x.acknowledged ++ bytesOfNat 4 x.lost

/-- The payload of OPEN SESSION: the new number, the cause reported, the orphan count (R33). -/
def openPayload (number : BitVec 16) (cause : EndCause) (orphans : Nat) : List Byte :=
  bytesOfNat 2 number.toNat ++ [endCauseCode cause] ++ bytesOfNat 1 orphans

/-- The payload of TIME (R44). -/
def State.timePayload (s : State) : List Byte := bytesOfNat 4 s.timeCount.toNat ++ [tickUnitCode s.profile.tickUnit]

/-- The offer slot of an offer id: its place in the ascending offer ids (R176). -/
def State.offerSlot (s : State) (id : Byte) : Nat := s.offers.findIdx fun o => decide (o.id = id)

/-- The first byte of a LEASES entry: state, port (3 for none), failsafe value, offer slot (R176). -/
def State.leaseByte (s : State) (r : Resource) : Byte :=
  let x := s.entry r
  let port : Byte :=
    match x.state.named with
    | some p => portCode p
    | none => 3
  let slot : Byte :=
    match x.state with
    | .offered _ id => BitVec.ofNat 8 (s.offerSlot id)
    | .free | .held _ | .orphaned _ => 0
  (leaseStateCode x.state <<< 6) ||| (port <<< 4) ||| (failsafeCode x.failsafe <<< 2) ||| slot

/-- The offer slot table: the ids of the open offers in ascending order, 0 beyond them (R176). -/
def State.offerSlots (s : State) : List Byte :=
  (List.range Config.offerCapacity).map fun i =>
    match s.offers[i]? with
    | some o => o.id
    | none => 0

/-- The payload of LEASES (R25). -/
def State.leasesPayload (s : State) : List Byte :=
  ((List.finRange 36).flatMap fun r => s.leaseByte r :: bytesOfNat 2 (s.entry r).generation.toNat) ++ s.offerSlots

/-- A resource set field (R174). -/
def setBytes (set : ResourceSet) : List Byte := bytesOfNat 5 set.toNat

/-- The payload of ACCEPT (R52). -/
def State.acceptPayload (s : State) (set : ResourceSet) : List Byte := setBytes set ++ s.generations set

/-- A monitor is FAULTED. -/
def isFaulted : Monitor → Bool
  | .faulted => true
  | .idle => false
  | .settling _ => false
  | .watching => false

/-- The byte of a line in READ LINES (R176). -/
def cellByte (c : LineCell) : Byte :=
  levelCode c.raw ||| (levelCode c.filtered <<< 1) ||| (driveCode c.drive <<< 2) ||| (directionCode c.direction <<< 4)
    ||| (boolCode (isFaulted c.monitor) <<< 5)

/-- The payload of READ LINES (R87). -/
def State.linesPayload (s : State) : List Byte := (List.finRange 32).map fun l => cellByte (s.line l)

/-- The fifteen bytes of a configuration (R176). -/
def configBytes (c : EngineConfig) : List Byte :=
  [modeCode c.mode] ++ bytesOfNat 3 c.a ++ bytesOfNat 3 c.b ++ bytesOfNat 2 c.repeatCount
    ++ [lineCodeOrNone c.input, edgeCode c.edge, lineCodeOrNone c.gate, levelCode c.gateLevel, triggerCode c.trigger,
        boolCode c.rearm]

/-- The payload of ENGINE STATUS (R113). -/
def State.enginePayload (s : State) (e : EngineNo) : List Byte :=
  let g := s.engine e
  [engineStateCode g.state, phaseCode g.state, boolCode g.config.isSome]
    ++ (match g.config with
        | some c => configBytes c
        | none => List.replicate 15 0)
    ++ bytesOfNat 4 g.elapsed ++ bytesOfNat 4 g.pulses ++ bytesOfNat 4 g.edges ++ bytesOfNat 4 g.ignored
    ++ [portCodeOrNone (s.holderOf (engineResource e)), levelCode g.out]

/-- The code of a record kind (Table 10-8). -/
def kindCode : RecordBody → Byte
  | .lineEdge _ _ => 0x01
  | .lineFault _ _ _ => 0x02
  | .engineResult _ _ _ _ _ => 0x03
  | .offerMade _ _ _ _ => 0x10
  | .offerSettled _ _ _ => 0x11
  | .claimSettled _ _ _ _ => 0x12
  | .leaseLost _ _ => 0x13
  | .forceChange _ => 0x14
  | .profileChanged _ _ => 0x15

/-- The SOURCE byte of a port. -/
def portSource (p : Port) : Byte := 0x40 + portCode p

/-- The SOURCE byte of a record (R177). -/
def sourceCode : RecordBody → Byte
  | .lineEdge l _ => lineByte l
  | .lineFault l _ _ => lineByte l
  | .engineResult e _ _ _ _ => BitVec.ofNat 8 (32 + e.val)
  | .offerMade p _ _ _ => portSource p
  | .offerSettled p _ _ => portSource p
  | .claimSettled p _ _ _ => portSource p
  | .leaseLost p _ => portSource p
  | .forceChange _ => 0xFF
  | .profileChanged p _ => portSource p

/-- The items of a record's DATA (Table 10-8). -/
def dataItems : RecordBody → List Byte
  | .lineEdge _ level => [levelCode level]
  | .lineFault _ driven sensed => [levelCode driven, levelCode sensed]
  | .engineResult _ mode outcome value aux =>
    [modeCode mode, engineOutcomeCode outcome] ++ bytesOfNat 4 value ++ bytesOfNat 4 aux
  | .offerMade p id set window => [id, portCode p] ++ setBytes set ++ bytesOfNat 2 window
  | .offerSettled _ id outcome => [id, offerOutcomeCode outcome]
  | .claimSettled _ ticket outcome set => [ticket, claimOutcomeCode outcome] ++ setBytes set
  | .leaseLost p set => [portCode p] ++ setBytes set
  | .forceChange asserted => [boolCode asserted]
  | .profileChanged p unit => [portCode p, tickUnitCode unit]

/-- The twenty bytes of a delivered record (R177). -/
def recordBytes (r : Record) : List Byte :=
  bytesOfNat 4 r.seq.toNat ++ bytesOfNat 4 r.time.toNat ++ [kindCode r.body, sourceCode r.body]
    ++ filled (dataItems r.body) 10

/-- The payload of FETCH: header and delivered records (R136, R177). -/
def fetchPayload (delivered : List Record) (pendingAfter unreportedLost : Nat) (mark : Seq) : List Byte :=
  bytesOfNat 1 delivered.length ++ bytesOfNat 1 pendingAfter ++ bytesOfNat 2 unreportedLost ++ bytesOfNat 4 mark.toNat
    ++ delivered.flatMap recordBytes

/-- The payload of GET PROFILE, which is that of SET PROFILE (R148, R176). -/
def profileBytes (f : Profile) : List Byte :=
  [tickUnitCode f.tickUnit, intervalCode f.interval]
    ++ (List.finRange 32).map (fun l => (f.filterCount[l]).zeroExtend 8)
    ++ bytesOfNat 4 ((List.finRange 32).foldl
        (fun n l => if f.outputKind[l] = OutputKind.openDrain then n + 2 ^ l.val else n) 0)

end Sys2Proof.Machine
end

