-- ==== Sys2Proof/Machine/Engines.lean ====
section
/-! DEFINITION. Timing engines: CONFIGURE ENGINE, START ENGINE, STOP ENGINE, ENGINE STATUS, and the ticks
(chapter 6). -/

namespace Sys2Proof.Machine

/-! ### CONFIGURE ENGINE (R101) -/

/-- CONFIGURE ENGINE after the session check (R101). -/
def configureBody (s : State) (p : Port) (pl : List Byte) : State × Reply :=
  match configureOperands pl with
  | none => (s, bare .badArgument)
  | some (e, c) =>
    if !s.holds p (engineResource e) then (s, bare .notHolder)
    else
      let ready := s.catchUp e
      if (ready.engine e).state ≠ .idle then (ready, bare .busy)
      else (ready.withEngine e fun g => { g with config := some c }, bare .ok)

/-- CONFIGURE ENGINE (R101). -/
def execConfigureEngine (p : Port) (s : State) : Host.Outcome State Fault Refusal :=
  s.awake fun s => s.take .configureEngine p configureBody

/-! ### START ENGINE (R102, R104 to R110) -/

/-- The gate of a configuration is open: no gate line is named, or its filtered level is the active level (R104). -/
def State.gateOpen (s : State) (c : EngineConfig) : Bool :=
  match c.gate with
  | none => true
  | some l => decide ((s.line l).filtered = c.gateLevel)

/-- The state in which a run begins (R102). -/
def State.startState (s : State) (c : EngineConfig) : EngineState :=
  match c.mode with
  | .pulseTrain => if s.gateOpen c then .timed .high (ticksAfter s.timeCount c.a) else .gated .high c.a
  | .delayedPulse =>
    match c.trigger with
    | .command => .timed .delay (ticksAfter s.timeCount c.a)
    | .line => .armed none
  | .measureWidth | .measurePeriod => .armed (some (ticksAfter s.timeCount c.a))
  | .countEdges => .timed .counting (ticksAfter s.timeCount c.a)

/-- The four run counters become 0 (R98). -/
def zeroCounters (g : Engine) : Engine := { g with elapsed := 0, pulses := 0, edges := 0, ignored := 0 }

/-- A run begun from IDLE (R102). An increment that the engine has not yet taken stays to be taken, and then counts as
elapsed, since the engine takes it in the run (R99; DESIGN CHOICE, assumption 19). -/
def State.startRun (s : State) (e : EngineNo) (c : EngineConfig) : State :=
  (s.withEngine e zeroCounters).setEngineState e (s.startState c)

/-- The engine is ARMED and waits for a START to fire it (R102, R105). -/
def awaitsStart (g : Engine) : Bool :=
  match g.state, g.config with
  | .armed _, some c => decide (c.mode = .delayedPulse ∧ c.trigger = .command)
  | .armed _, none => false
  | .idle, _ => false
  | .timed _ _, _ => false
  | .measuring _ _, _ => false
  | .gated _ _, _ => false

/-- START ENGINE at an engine that is ready to be looked at: busy, firing, without configuration, or begun (R102). -/
def startReady (s : State) (e : EngineNo) : State × Reply :=
  match (s.engine e).config with
  | none => (s, if (s.engine e).state ≠ .idle then bare .busy else bare .badArgument)
  | some c =>
    if (s.engine e).state = .idle then (s.startRun e c, bare .ok)
    else if awaitsStart (s.engine e) then (s.setEngineState e (.timed .delay (ticksAfter s.timeCount c.a)), bare .ok)
    else (s, bare .busy)

/-- START ENGINE after the session check (R102). -/
def startBody (s : State) (p : Port) (pl : List Byte) : State × Reply :=
  match engineOperand pl with
  | none => (s, bare .badArgument)
  | some e =>
    if !s.holds p (engineResource e) then (s, bare .notHolder)
    else if s.force.asserted then (s, bare .forced)
    else startReady (s.catchUp e) e

/-- START ENGINE (R102). -/
def execStartEngine (p : Port) (s : State) : Host.Outcome State Fault Refusal :=
  s.awake fun s => s.take .startEngine p startBody

/-! ### STOP ENGINE and ENGINE STATUS (R112, R113) -/

/-- STOP ENGINE after the session check (R112). -/
def stopBody (s : State) (p : Port) (pl : List Byte) : State × Reply :=
  match engineOperand pl with
  | none => (s, bare .badArgument)
  | some e =>
    if !s.holds p (engineResource e) then (s, bare .notHolder)
    else ((s.catchUp e).stopEngine .stopped e, bare .ok)

/-- STOP ENGINE (R112). -/
def execStopEngine (p : Port) (s : State) : Host.Outcome State Fault Refusal :=
  s.awake fun s => s.take .stopEngine p stopBody

/-- ENGINE STATUS after the session check (R113). -/
def engineStatusBody (s : State) (_ : Port) (pl : List Byte) : State × Reply :=
  match engineOperand pl with
  | none => (s, bare .badArgument)
  | some e => (s.catchUp e, { status := .ok, payload := (s.catchUp e).enginePayload e })

/-- ENGINE STATUS (R113). -/
def execEngineStatus (p : Port) (s : State) : Host.Outcome State Fault Refusal :=
  s.awake fun s => s.take .engineStatus p engineStatusBody

/-! ### Ticks (R99, R103, R105, R109, R110) -/

/-- The engine takes the next tick it has not yet taken (R99); with none left, nothing happens. -/
def execEngineTick (e : EngineNo) (s : State) : Host.Outcome State Fault Refusal :=
  s.awake fun s => if (s.engine e).taken = s.timeCount then s else s.takeTick e

/-- The engine runs in a mode. -/
def State.runsIn (s : State) (e : EngineNo) (mode : Mode) : Bool :=
  match (s.engine e).config with
  | none => false
  | some c => decide (c.mode = mode)

/-- The engine takes ticks up to and with the one that reaches its end (R99), at most `fuel` of them. -/
def State.takeToEnd (s : State) (e : EngineNo) : Nat → State
  | 0 => s
  | fuel + 1 =>
    if engineEnd (s.engine e).state = some ((s.engine e).taken + 1) then s.takeTick e
    else (s.takeTick e).takeToEnd e fuel

/-- The tick that reaches the end of an engine in a mode is taken, the ticks before it first; nothing happens when the
engine is in another mode or the count has not reached its end (DESIGN CHOICE, assumption 6). -/
def State.endTick (s : State) (e : EngineNo) (mode : Mode) : State :=
  if s.runsIn e mode && s.endDue e then s.takeToEnd e (s.timeCount - (s.engine e).taken).toNat else s

/-- The tick that reaches a PULSE_TRAIN phase end (R103). -/
def execPulseTrainPhaseEnd (e : EngineNo) (s : State) : Host.Outcome State Fault Refusal :=
  s.awake fun s => s.endTick e .pulseTrain

/-- The tick that ends the delay or the pulse of a DELAYED_PULSE run (R105). -/
def execDelayedPulsePhaseEnd (e : EngineNo) (s : State) : Host.Outcome State Fault Refusal :=
  s.awake fun s => s.endTick e .delayedPulse

/-- The tick that reaches the limit end of a measure mode (R109). -/
def execMeasureLimitEnd (e : EngineNo) (s : State) : Host.Outcome State Fault Refusal :=
  s.awake fun s => if s.runsIn e .measureWidth then s.endTick e .measureWidth else s.endTick e .measurePeriod

/-- The tick that ends a COUNT_EDGES window (R110). -/
def execCountWindowEnd (e : EngineNo) (s : State) : Host.Outcome State Fault Refusal :=
  s.awake fun s => s.endTick e .countEdges

/-- The time count rises by one, wrapping after 2^32-1 (R145), once every engine has taken the ticks before it (R127:
timestamps never decrease; DEDUCED, assumption 7). -/
def execTick (s : State) : Host.Outcome State Fault Refusal :=
  s.awake fun s =>
    let settled := (List.finRange 4).foldl State.settleTicks s
    { settled with timeCount := settled.timeCount + 1 }

end Sys2Proof.Machine
end

