-- ==== Sys2Proof/Machine/Journal.lean ====
section
/-! DEFINITION. The Event Journal's own requests: SUBSCRIBE, FETCH, SET ATTENTION (chapter 7). -/

namespace Sys2Proof.Machine

/-! ### SUBSCRIBE (R132) -/

/-- SUBSCRIBE after the session check (R132). -/
def subscribeBody (s : State) (p : Port) (pl : List Byte) : State × Reply :=
  match subscribeOperands pl with
  | none => (s, bare .badArgument)
  | some (rise, fall) => (s.withOpen p fun o => { o with rise := rise, fall := fall }, bare .ok)

/-- SUBSCRIBE (R132). -/
def execSubscribe (p : Port) (s : State) : Host.Outcome State Fault Refusal :=
  s.awake fun s => s.take .subscribe p subscribeBody

/-! ### FETCH (R133 to R137) -/

/-- The serial distance of a sequence number from a session's acknowledgement point (R125, R134). -/
def serialDistance (point n : Seq) : Nat := (n - point).toNat

/-- An acknowledgement number lies after the acknowledgement point and not after the delivered mark (R134). -/
def validAck (o : OpenSession) (n : Seq) : Bool :=
  match o.mark with
  | none => false
  | some m => decide (0 < serialDistance o.ackPoint n ∧ serialDistance o.ackPoint n ≤ serialDistance o.ackPoint m)

/-- A record is covered by an acknowledgement: its number is not after it (R135). -/
def covered (o : OpenSession) (n : Seq) (r : Record) : Bool :=
  decide (serialDistance o.ackPoint r.seq ≤ serialDistance o.ackPoint n)

/-- The acknowledgement of the records up to a number (R135). -/
def State.acknowledge (s : State) (p : Port) (o : OpenSession) (n : Seq) : State :=
  let removed := ((s.records p).filter (covered o n)).length
  let cleared : State :=
    (s.withJournal (removeInterest p (covered o n) s.journal)).withSession p fun x =>
      { x with
        acknowledged := satAdd max32 x.acknowledged removed
        state := .opened { o with ackPoint := n, mark := if o.mark = some n then none else o.mark } }
  cleared.reattend (onlyPort p)

/-- The delivered mark after a delivery: the last number delivered, unless the mark is already later (R136). -/
def markAfter (o : OpenSession) (delivered : List Record) : Option Seq :=
  match delivered.getLast?, o.mark with
  | none, m => m
  | some r, none => some r.seq
  | some r, some m =>
    if serialDistance o.ackPoint r.seq < serialDistance o.ackPoint m then some m else some r.seq

/-- The delivery of up to `m` records (R136). -/
def State.deliver (s : State) (p : Port) (m : Nat) : State × Reply :=
  match s.openFields p with
  | none => (s, bare .ok)
  | some o =>
    let delivered := (s.records p).take m
    let mark := markAfter o delivered
    let marked := (s.withOpen p fun o => { o with mark := mark }).withSession p fun x => { x with unreportedLost := 0 }
    (marked.reattend (onlyPort p),
     { status := .ok
       payload := fetchPayload delivered (s.pendingCount p - delivered.length) (s.session p).unreportedLost
         (mark.getD o.ackPoint) })

/-- FETCH after the session check (R134). -/
def fetchBody (s : State) (p : Port) (pl : List Byte) : State × Reply :=
  match fetchOperands pl, s.openFields p with
  | some f, some o =>
    match f.ack with
    | none => s.deliver p f.maximum
    | some n => if validAck o n then (s.acknowledge p o n).deliver p f.maximum else (s, bare .badArgument)
  | none, _ => (s, bare .badArgument)
  | some _, none => (s, bare .badArgument)

/-- FETCH (R134). -/
def execFetch (p : Port) (s : State) : Host.Outcome State Fault Refusal := s.awake fun s => s.take .fetch p fetchBody

/-! ### SET ATTENTION (R141) -/

/-- SET ATTENTION after the session check (R141). -/
def attentionBody (s : State) (p : Port) (pl : List Byte) : State × Reply :=
  match attentionOperand pl with
  | none => (s, bare .badArgument)
  | some n => ((s.withOpen p fun o => { o with threshold := n }).reattend (onlyPort p), bare .ok)

/-- SET ATTENTION (R141). -/
def execSetAttention (p : Port) (s : State) : Host.Outcome State Fault Refusal :=
  s.awake fun s => s.take .setAttention p attentionBody

end Sys2Proof.Machine
end

