-- ==== Sys2Proof/Machine/Leases.lean ====
section
/-! DEFINITION. The lease table: CLAIM, CANCEL CLAIM, RELEASE, SET FAILSAFE, LEASES, and the expiry of a queued claim
(chapters 1 and 4). -/

namespace Sys2Proof.Machine

/-! ### CLAIM (R12 to R18, R65) -/

/-- A claim granted at once (R14): the wait list is examined when something was newly granted, and the response
carries the generations of the whole set. -/
def grantNow (s : State) (p : Port) (set : ResourceSet) : State × Reply :=
  let granted := s.grant p set
  (if s.newlyGranted p set = 0 then granted else granted.examine,
   { status := .ok, payload := granted.generations set })

/-- The next value of a counter of ids: one more, and 1 after 255 (R46, R63). -/
def nextId (n : Byte) : Byte := if n = 0xFF then 1 else n + 1

/-- The first id from `n` on that is not among those in use; `fuel` bounds the ids skipped (R46, R63). -/
def freeId (used : List Byte) : Nat → Byte → Byte
  | 0, n => n
  | fuel + 1, n => if n ∈ used then freeId used fuel (nextId n) else n

/-- The tickets on the wait list. -/
def State.tickets (s : State) : List Byte := s.waitList.map WaitEntry.ticket

/-- The ticket of the next claim queued (R63). -/
def State.nextTicket (s : State) : Byte := freeId s.tickets s.waitList.length (nextId s.ticketCounter)

/-- A claim offered to the wait list (R65), stopped by resource `r`. -/
def queueClaim (s : State) (p : Port) (o : ClaimOperands) (ms : Nat) (r : Resource) : State × Reply :=
  match s.queuedClaim p with
  | some w => (s, { status := .limit, payload := [w.ticket] })
  | none =>
    let t := s.nextTicket
    ({ s with
        ticketCounter := t
        waitList := s.waitList ++ [{ ticket := t, port := p, set := o.set, adopt := o.adopt, remaining := ms }] },
     { status := .queued, payload := t :: (s.naming .queued r).payload })

/-- CLAIM after the session check (R12 to R18, R65). -/
def claimBody (s : State) (p : Port) (pl : List Byte) : State × Reply :=
  match claimOperands pl with
  | none => (s, bare .badArgument)
  | some o =>
    match s.lowestUnavailable p o.adopt o.set with
    | none => grantNow s p o.set
    | some r =>
      match o.wait with
      | none => (s, s.naming (s.claimRefusal p r) r)
      | some ms => queueClaim s p o ms r

/-- CLAIM (R14). -/
def execClaim (p : Port) (s : State) : Host.Outcome State Fault Refusal := s.awake fun s => s.take .claim p claimBody

/-! ### CANCEL CLAIM and the expiry of a queued claim (R69, R70) -/

/-- CANCEL CLAIM after the session check (R70). -/
def cancelBody (s : State) (p : Port) (pl : List Byte) : State × Reply :=
  match idOperand pl with
  | none => (s, bare .badArgument)
  | some t =>
    match s.ticketEntry t with
    | none => (s, bare .offerGone)
    | some w => if w.port = p then (s.removeTicket t, bare .ok) else (s, bare .offerGone)

/-- CANCEL CLAIM (R70). -/
def execCancelClaim (p : Port) (s : State) : Host.Outcome State Fault Refusal :=
  s.awake fun s => s.take .cancelClaim p cancelBody

/-- A queued claim expires (R69). -/
def State.expireClaim (s : State) (w : WaitEntry) : State :=
  (s.removeTicket w.ticket).append (onlyPort w.port) s.timeCount (.claimSettled w.port w.ticket .expired w.set)

/-- The wait timer of a queued claim runs out (R69); without an entry of that ticket no timer runs (DESIGN CHOICE,
assumption 5). -/
def execClaimExpiry (t : Byte) (s : State) : Host.Outcome State Fault Refusal :=
  s.awake fun s =>
    match s.ticketEntry t with
    | none => s
    | some w => s.expireClaim w

/-! ### RELEASE (R21, R22) -/

/-- A resource is HELD with the port as holder. -/
def State.heldBy (s : State) (p : Port) (r : Resource) : Bool := decide ((s.entry r).state = .held p)

/-- The status of a RELEASE stopped at a resource (R21). -/
def State.releaseRefusal (s : State) (p : Port) (r : Resource) : Status :=
  match (s.entry r).state with
  | .offered h _ => if h = p then .offered else .notHolder
  | .free | .held _ | .orphaned _ => .notHolder

/-- The release of a set (R22). -/
def State.releaseSet (s : State) (p : Port) (set : ResourceSet) : State :=
  let es := enginesOf set
  let stopped := es.foldl (fun s e => State.stopEngine s .stopped e) (s.catchUpAll es)
  ((stopped.letGo set .free).lose p (setSize set)).examine

/-- RELEASE after the session check (R21, R22). -/
def releaseBody (s : State) (p : Port) (pl : List Byte) : State × Reply :=
  match releaseOperands pl with
  | none => (s, bare .badArgument)
  | some set =>
    match (members set).find? fun r => !s.heldBy p r with
    | some r => (s, s.naming (s.releaseRefusal p r) r)
    | none => (s.releaseSet p set, bare .ok)

/-- RELEASE (R22). -/
def execRelease (p : Port) (s : State) : Host.Outcome State Fault Refusal :=
  s.awake fun s => s.take .release p releaseBody

/-! ### SET FAILSAFE (R24) -/

/-- The lowest member of a set that the port does not hold (R2, R3). -/
def State.lowestNotHeld (s : State) (p : Port) (set : ResourceSet) : Option Resource :=
  (members set).find? fun r => !s.holds p r

/-- The failsafe values of a set replaced, and the drives decided again (R11, R24). -/
def State.setFailsafes (s : State) (set : ResourceSet) (pl : List Byte) : State :=
  (s.withEntryOf fun r x =>
    if inSet set r then { x with failsafe := (failsafeAt pl r).getD x.failsafe } else x).redrive set

/-- SET FAILSAFE after the session check (R24). -/
def setFailsafeBody (s : State) (p : Port) (pl : List Byte) : State × Reply :=
  match setFailsafeOperands pl with
  | none => (s, bare .badArgument)
  | some set =>
    match s.lowestNotHeld p set with
    | some r => (s, s.naming .notHolder r)
    | none => (s.setFailsafes set pl, bare .ok)

/-- SET FAILSAFE (R24). -/
def execSetFailsafe (p : Port) (s : State) : Host.Outcome State Fault Refusal :=
  s.awake fun s => s.take .setFailsafe p setFailsafeBody

/-! ### LEASES (R25) -/

/-- LEASES after the session check (R25). -/
def leasesBody (s : State) (_ : Port) (_ : List Byte) : State × Reply :=
  (s, { status := .ok, payload := s.leasesPayload })

/-- LEASES (R25). -/
def execLeases (p : Port) (s : State) : Host.Outcome State Fault Refusal := s.awake fun s => s.take .leases p leasesBody

end Sys2Proof.Machine
end

