-- ==== Sys2Proof/Machine/Edges.lean ====
section
/-! DEFINITION. What a timing engine does with an edge on its input line or gate line (chapter 6), a happening within a
line sample (R79 step 3). -/

namespace Sys2Proof.Machine

/-- The level that an active edge leads to. -/
def activeLevel : Edge → Level
  | .rising => .high
  | .falling => .low

/-- An edge to this level is the active edge of the configuration. -/
def isActive (c : EngineConfig) (level : Level) : Bool := decide (activeLevel c.edge = level)

/-- An edge counted (R105, R107, R108, R110). -/
def State.countEdge (s : State) (e : EngineNo) : State := s.withEngine e fun g => { g with edges := satInc max32 g.edges }

/-- A gate edge at a pulse train (R104). An increment that the engine has not yet taken is taken in the state the edge
leaves, and counts as elapsed when that is RUNNING (R99; DESIGN CHOICE, assumption 19). -/
def State.gateEdge (s : State) (e : EngineNo) (c : EngineConfig) (level : Level) : State :=
  match (s.engine e).state with
  | .timed ph phaseEnd =>
    if c.gateLevel = level then s else s.setEngineState e (.gated ph (phaseEnd - s.timeCount).toNat)
  | .gated ph remainder =>
    if c.gateLevel = level then s.setEngineState e (.timed ph (ticksAfter s.timeCount remainder)) else s
  | .idle | .armed _ | .measuring _ _ => s

/-- An active edge at a line-triggered delayed pulse: a firing while ARMED, an ignored trigger while RUNNING
(R105, R106). -/
def State.triggerEdge (s : State) (e : EngineNo) (c : EngineConfig) : State :=
  match (s.engine e).state with
  | .armed _ => (s.countEdge e).setEngineState e (.timed .delay (ticksAfter s.timeCount c.a))
  | .timed _ _ => s.withEngine e fun g => { g with ignored := satInc max32 g.ignored }
  | .idle | .measuring _ _ | .gated _ _ => s

/-- A measurement closes at an edge: DONE with the time since its opening (R107, R108). -/
def State.closeMeasurement (s : State) (e : EngineNo) (c : EngineConfig) (opened : Count) (after : EngineState) : State :=
  ((s.countEdge e).setEngineState e after).appendResult e c.mode .done (s.timeCount - opened).toNat 0 s.timeCount

/-- An edge at a width measurement (R107). -/
def State.widthEdge (s : State) (e : EngineNo) (c : EngineConfig) (level : Level) : State :=
  match (s.engine e).state with
  | .armed (some limit) =>
    if isActive c level then (s.countEdge e).setEngineState e (.measuring s.timeCount limit) else s
  | .measuring opened _ =>
    s.closeMeasurement e c opened (if c.rearm then .armed (some (ticksAfter s.timeCount c.a)) else .idle)
  | .idle | .armed none | .timed _ _ | .gated _ _ => s

/-- An active edge at a period measurement (R108). -/
def State.periodEdge (s : State) (e : EngineNo) (c : EngineConfig) : State :=
  match (s.engine e).state with
  | .armed (some limit) => (s.countEdge e).setEngineState e (.measuring s.timeCount limit)
  | .measuring opened _ =>
    s.closeMeasurement e c opened
      (if c.rearm then .measuring s.timeCount (ticksAfter s.timeCount c.a) else .idle)
  | .idle | .armed none | .timed _ _ | .gated _ _ => s

/-- An active edge at an edge counter (R110). -/
def State.counterEdge (s : State) (e : EngineNo) : State :=
  match (s.engine e).state with
  | .timed _ _ => s.countEdge e
  | .idle | .armed _ | .measuring _ _ | .gated _ _ => s

/-- What the engine does with an edge on a line its configuration names (R79 step 3). -/
def State.edgeAtEngine (s : State) (l : Line) (level : Level) (e : EngineNo) : State :=
  match (s.engine e).config with
  | none => s
  | some c =>
    match c.mode with
    | .pulseTrain => if c.gate = some l then s.gateEdge e c level else s
    | .delayedPulse => if c.input = some l ∧ isActive c level then s.triggerEdge e c else s
    | .measureWidth => if c.input = some l then s.widthEdge e c level else s
    | .measurePeriod => if c.input = some l ∧ isActive c level then s.periodEdge e c else s
    | .countEdges => if c.input = some l ∧ isActive c level then s.counterEdge e else s

/-- The engine's configuration names the line as input or gate (R79). -/
def namesLine (g : Engine) (l : Line) : Bool :=
  match g.config with
  | none => false
  | some c => decide (c.input = some l ∨ c.gate = some l)

/-- An edge handed to one engine: a due tick is taken first (R99). -/
def State.edgeToEngine (l : Line) (level : Level) (s : State) (e : EngineNo) : State :=
  if namesLine (s.engine e) l then (s.catchUp e).edgeAtEngine l level e else s

end Sys2Proof.Machine
end

