-- ==== Sys2Proof/Machine/Lines.lean ====
section
/-! DEFINITION. Field lines: SET DIRECTION, WRITE LINES, READ LINES, the line sample, the contention monitor, and the
force input (chapter 5). -/

namespace Sys2Proof.Machine

/-! ### SET DIRECTION, WRITE LINES, READ LINES (R85 to R87) -/

/-- The directions of a set of lines replaced, and their drives decided again (R85). -/
def State.setDirections (s : State) (set : ResourceSet) (pl : List Byte) : State :=
  (s.withLines fun l c => if inSet set (lineResource l) then { c with direction := directionAt pl l } else c).redrive set

/-- SET DIRECTION after the session check (R85). A set that names a number above 35 is refused as ill-formed before its
engines are looked at (DESIGN CHOICE, assumption 20). -/
def setDirectionBody (s : State) (p : Port) (pl : List Byte) : State × Reply :=
  match setDirectionSet pl with
  | none => (s, bare .badArgument)
  | some set =>
    match (members set).find? fun r => !isLine r with
    | some r => (s, s.naming .badArgument r)
    | none =>
      match s.lowestNotHeld p set with
      | some r => (s, s.naming .notHolder r)
      | none => (s.setDirections set pl, bare .ok)

/-- SET DIRECTION (R85). -/
def execSetDirection (p : Port) (s : State) : Host.Outcome State Fault Refusal :=
  s.awake fun s => s.take .setDirection p setDirectionBody

/-- The commanded values of the masked lines replaced, and their drives decided again (R86). -/
def State.writeValues (s : State) (mask values : LineSet) : State :=
  (s.withLines fun l c =>
    if mask.getLsbD l then { c with commanded := levelOf (values.getLsbD l) } else c).redrive (ofLines mask)

/-- WRITE LINES after the session check (R86). -/
def writeLinesBody (s : State) (p : Port) (pl : List Byte) : State × Reply :=
  match writeLinesOperands pl with
  | none => (s, bare .badArgument)
  | some (mask, values) =>
    match s.lowestNotHeld p (ofLines mask) with
    | some r => (s, s.naming .notHolder r)
    | none => (s.writeValues mask values, bare .ok)

/-- WRITE LINES (R86). -/
def execWriteLines (p : Port) (s : State) : Host.Outcome State Fault Refusal :=
  s.awake fun s => s.take .writeLines p writeLinesBody

/-- READ LINES after the session check (R87). -/
def readLinesBody (s : State) (_ : Port) (_ : List Byte) : State × Reply :=
  (s, { status := .ok, payload := s.linesPayload })

/-- READ LINES (R87). -/
def execReadLines (p : Port) (s : State) : Host.Outcome State Fault Refusal :=
  s.awake fun s => s.take .readLines p readLinesBody

/-! ### The contention monitor (R89 to R91) -/

/-- The recipients of a LINE_FAULT record: the holder's session, or every session without a holder (R91). -/
def State.faultRecipients (s : State) (l : Line) : PortSet :=
  match s.holderOf (lineResource l) with
  | some p => onlyPort p
  | none => everyPort

/-- The start of a fault episode: the monitor is FAULTED and one LINE_FAULT record is appended (R91). -/
def State.enterFault (s : State) (l : Line) (driven : Level) : State :=
  (s.withLine l fun c => { c with monitor := .faulted }).append (s.faultRecipients l) s.timeCount
    (.lineFault l driven (s.line l).filtered)

/-- The settle count reached 0: the filtered level is compared with the drive (R89). A floating line has nothing to
compare (R88). -/
def State.settleEnd (s : State) (l : Line) : State :=
  match driveLevel (s.line l).drive with
  | none => s.withLine l fun c => { c with monitor := .idle }
  | some driven =>
    if (s.line l).filtered = driven then s.withLine l fun c => { c with monitor := .watching }
    else s.enterFault l driven

/-- The settle step of one line in a sample (R89). -/
def State.settleStep (s : State) (l : Line) : State :=
  match (s.line l).monitor with
  | .settling n => if n ≤ 1 then s.settleEnd l else s.withLine l fun c => { c with monitor := .settling (n - 1) }
  | .idle | .watching | .faulted => s

/-- What the monitor does with an accepted edge on its line (R90). -/
def State.monitorEdge (s : State) (l : Line) : State :=
  match (s.line l).monitor, driveLevel (s.line l).drive with
  | .watching, some driven => if (s.line l).filtered = driven then s else s.enterFault l driven
  | .faulted, some driven =>
    if (s.line l).filtered = driven then s.withLine l fun c => { c with monitor := .watching } else s
  | .watching, none => s
  | .faulted, none => s
  | .idle, _ => s
  | .settling _, _ => s

/-- The settle count of a line reaches 0 (R89): the settle step that brings it there. With a higher count, or outside
SETTLING, the count does not reach 0 now and nothing happens (DESIGN CHOICE, assumption 6). -/
def execMonitorSettleEnd (l : Line) (s : State) : Host.Outcome State Fault Refusal :=
  s.awake fun s =>
    match (s.line l).monitor with
    | .settling n => if n ≤ 1 then s.settleEnd l else s
    | .idle | .watching | .faulted => s

/-! ### The line sample (R77 to R79) -/

/-- The sessions that subscribe to an edge of a line to a level (R79 step 1, R126). -/
def State.edgeRecipients (s : State) (l : Line) (level : Level) : PortSet :=
  PerPort.of fun p =>
    match s.openFields p with
    | none => false
    | some o => match level with
      | .high => o.rise.getLsbD l
      | .low => o.fall.getLsbD l

/-- The edge steps of an accepted change (R79): record, monitor, engines in ascending number. -/
def State.edgeSteps (s : State) (l : Line) (level : Level) : State :=
  let recorded := s.append (s.edgeRecipients l level) s.timeCount (.lineEdge l level)
  (List.finRange 4).foldl (State.edgeToEngine l level) (recorded.monitorEdge l)

/-- The run of samples that a change must last: the filter count, 0 taken as 1 (R78). -/
def State.runLength (s : State) (l : Line) : Nat := max 1 (s.profile.filterCount[l]).toNat

/-- The filter step of one line, with the edge steps of an accepted change (R78). -/
def State.filterStep (s : State) (l : Line) : State :=
  let c := s.line l
  if c.raw = c.filtered then s.withLine l fun c => { c with run := 0 }
  else if s.runLength l = c.run + 1 then
    (s.withLine l fun c => { c with filtered := c.raw, run := 0 }).edgeSteps l c.raw
  else s.withLine l fun c => { c with run := c.run + 1 }

/-- One line taken through a sample: filter and edge steps, then the settle step (R77, R89). -/
def State.sampleLine (s : State) (l : Line) : State := (s.filterStep l).settleStep l

/-- A sample of all lines: every raw level is read, then each line is taken in ascending number (R77). -/
def State.sample (s : State) (levels : LineSet) : State :=
  (List.finRange 32).foldl State.sampleLine (s.withLines fun l c => { c with raw := levelOf (levels.getLsbD l) })

/-- A line sample (R77); the levels come with the command (DESIGN CHOICE, assumption 12). -/
def execLineSample (levels : LineSet) (s : State) : Host.Outcome State Fault Refusal :=
  s.awake fun s => s.sample levels

/-! ### The force input (R93 to R95) -/

/-- The asserted flag changes and the monitor's run count becomes 0 (R93). -/
def State.setForce (s : State) (asserted : Bool) : State := s.withForce { asserted := asserted, run := 0 }

/-- Steps 3 to 5 of an assertion, and steps 2 to 4 of a release: every pin takes its drive, FORCE_CHANGE is appended
for every OPEN session, every contention monitor is entered (R94, R95). -/
def State.forceChanged (s : State) (asserted : Bool) : State :=
  ((s.redrive everyResource).append everyPort s.timeCount (.forceChange asserted)).enterMonitors

/-- The assertion of nFSAFE (R94): engines with a due tick take it first (R99), the flag is set, every running engine
is forced IDLE in ascending number, and the pins, the record and the monitors follow. -/
def State.assertForce (s : State) : State :=
  let flagged := (s.catchUpAll (List.finRange 4)).setForce true
  let forced := (List.finRange 4).foldl (fun s e => State.stopEngine s .forced e) flagged
  forced.forceChanged true

/-- The release of nFSAFE (R95). -/
def State.releaseForce (s : State) : State := (s.setForce false).forceChanged false

/-- nFSAFE is asserted (R94); it has no effect while the flag is set (DESIGN CHOICE, assumption 5). -/
def execFsafeAssertion (s : State) : Host.Outcome State Fault Refusal :=
  s.awake fun s => if s.force.asserted then s else s.assertForce

/-- nFSAFE is released (R95); it has no effect while the flag is clear (DESIGN CHOICE, assumption 5). -/
def execFsafeRelease (s : State) : Host.Outcome State Fault Refusal :=
  s.awake fun s => if s.force.asserted then s.releaseForce else s

/-- The level on nFSAFE agrees with the flag: low with asserted, high with released (R93). -/
def forceAgrees (asserted : Bool) (level : Level) : Bool := decide (asserted = decide (level = .low))

/-- One sample of the nFSAFE monitor (R93). -/
def State.sampleForce (s : State) (level : Level) : State :=
  if forceAgrees s.force.asserted level then s.withForce { s.force with run := 0 }
  else if s.force.run + 1 < 3 then s.withForce { s.force with run := s.force.run + 1 }
  else if s.force.asserted then s.releaseForce
  else s.assertForce

/-- The nFSAFE monitor samples its pin (R93). -/
def execNfsafeMonitorSample (level : Level) (s : State) : Host.Outcome State Fault Refusal :=
  s.awake fun s => s.sampleForce level

end Sys2Proof.Machine
end

