-- ==== Sys2Proof/Machine/Offers.lean ====
section
/-! DEFINITION. Handover offers: OFFER, ACCEPT, DECLINE, WITHDRAW, and the running out of an offer's window
(chapter 3). -/

namespace Sys2Proof.Machine

/-! ### OFFER (R46, R48, R49) -/

/-- The id of the next offer (R46). -/
def State.nextOfferId (s : State) : Byte := freeId (s.offers.map Offer.id) s.offers.length (nextId s.offerCounter)

/-- An offer entered in a table kept in ascending offer id (DESIGN CHOICE, assumption 18). -/
def insertOffer (o : Offer) : List Offer → List Offer
  | [] => [o]
  | x :: rest => if o.id.toNat < x.id.toNat then o :: x :: rest else x :: insertOffer o rest

/-- A resource is OFFERED. -/
def State.isOffered (s : State) (r : Resource) : Bool :=
  match (s.entry r).state with
  | .offered _ _ => true
  | .free | .held _ | .orphaned _ => false

/-- The making of an offer (R49). -/
def State.makeOffer (s : State) (p : Port) (o : OfferOperands) : State :=
  let id := s.nextOfferId
  let ready := s.catchUpAll (enginesOf o.set)
  let entered : State :=
    { ready with
      offerCounter := id
      offers := insertOffer { id := id, offerer := p, target := o.target, set := o.set, remaining := o.window } ready.offers }
  ((entered.withEntries o.set fun x => { x with state := .offered p id }).append (onlyPort o.target) s.timeCount
    (.offerMade p id o.set o.window)).examine

/-- OFFER after the session check (R48, R49). -/
def offerBody (s : State) (p : Port) (pl : List Byte) : State × Reply :=
  match offerOperands p pl with
  | none => (s, bare .badArgument)
  | some o =>
    if !s.isOpen o.target then (s, { status := .noSession, payload := [portCode o.target] })
    else
      match s.lowestNotHeld p o.set with
      | some r => (s, s.naming .notHolder r)
      | none =>
        match (members o.set).find? s.isOffered with
        | some r => (s, s.naming .offered r)
        | none =>
          if Config.offerCapacity ≤ s.offers.length then (s, bare .limit)
          else (s.makeOffer p o, { status := .ok, payload := [s.nextOfferId] })

/-- OFFER (R49). -/
def execOffer (p : Port) (s : State) : Host.Outcome State Fault Refusal := s.awake fun s => s.take .offer p offerBody

/-! ### ACCEPT (R51, R52) -/

/-- The acceptance of an offer (R52). -/
def State.acceptOffer (s : State) (o : Offer) : State :=
  let ready := s.catchUpAll (enginesOf o.set)
  let moved := (((ready.removeOffer o.id).withEntries o.set fun x =>
    { x with state := .held o.target, generation := nextGeneration x.generation }).lose o.offerer (setSize o.set)).gain
    o.target (setSize o.set)
  (moved.redrive o.set).appendSettled o .accepted (onlyPort o.offerer)

/-- A settling request after the session check: its offer is looked up by id and by the role it needs (R51). -/
def settleBody (role : Offer → Port) (settle : State → Offer → State × Reply) (s : State) (p : Port) (pl : List Byte) :
    State × Reply :=
  match idOperand pl with
  | none => (s, bare .badArgument)
  | some id =>
    match s.offer id with
    | none => (s, bare .offerGone)
    | some o => if role o = p then settle s o else (s, bare .offerGone)

/-- ACCEPT of an offer that passes the lookup (R52). -/
def acceptFound (s : State) (o : Offer) : State × Reply :=
  ((s.acceptOffer o).examine, { status := .ok, payload := (s.acceptOffer o).acceptPayload o.set })

/-- ACCEPT (R52). -/
def execAccept (p : Port) (s : State) : Host.Outcome State Fault Refusal :=
  s.awake fun s => s.take .accept p (settleBody Offer.target acceptFound)

/-! ### DECLINE, WITHDRAW and the end of the window (R53, R54, R55) -/

/-- An offer returned to its offerer with an outcome told to some ports, and the wait list examined
(R53, R54, R55). -/
def State.endOffer (s : State) (o : Offer) (outcome : OfferOutcome) (recipients : PortSet) : State :=
  ((s.returnOffer o).appendSettled o outcome recipients).examine

/-- DECLINE of an offer that passes the lookup (R53). -/
def declineFound (s : State) (o : Offer) : State × Reply := (s.endOffer o .declined (onlyPort o.offerer), bare .ok)

/-- DECLINE (R53). -/
def execDecline (p : Port) (s : State) : Host.Outcome State Fault Refusal :=
  s.awake fun s => s.take .decline p (settleBody Offer.target declineFound)

/-- WITHDRAW of an offer that passes the lookup (R54). -/
def withdrawFound (s : State) (o : Offer) : State × Reply := (s.endOffer o .withdrawn (onlyPort o.target), bare .ok)

/-- WITHDRAW (R54). -/
def execWithdraw (p : Port) (s : State) : Host.Outcome State Fault Refusal :=
  s.awake fun s => s.take .withdraw p (settleBody Offer.offerer withdrawFound)

/-- The window of an open offer runs out (R55); without an open offer of that id no timer runs (DESIGN CHOICE,
assumption 5). -/
def execOfferExpiry (id : Byte) (s : State) : Host.Outcome State Fault Refusal :=
  s.awake fun s =>
    match s.offer id with
    | none => s
    | some o => s.endOffer o .expired (eitherPort (onlyPort o.offerer) (onlyPort o.target))

end Sys2Proof.Machine
end

