-- ==== Sys2Proof/Machine/Ports.lean ====
section
/-! DEFINITION. Host ports: the frames, transactions and errors of the SPI and I2C links, and the request of unknown
code (chapter 9). -/

namespace Sys2Proof.Machine

/-! ### Frames at a port (R156 to R158) -/

/-- The incoming frame of a port. -/
def incomingOf : PortState → Option (List Byte)
  | .idle => none
  | .receiving incoming _ => some incoming
  | .pending _ incoming => incoming
  | .answered _ => none

/-- One more byte of a frame arrives (R156). -/
def addByte (b : Byte) : PortState → PortState
  | .idle => .receiving [b] none
  | .answered r => .receiving [b] (some r)
  | .receiving incoming r => .receiving (incoming ++ [b]) r
  | .pending f incoming => .pending f (some (incoming.getD [] ++ [b]))

/-- The incoming frame is discarded (R158). -/
def dropIncoming : PortState → PortState
  | .idle => .idle
  | .answered r => .answered r
  | .receiving _ none => .idle
  | .receiving _ (some r) => .answered r
  | .pending f _ => .pending f none

/-- A framing error counted (R163). -/
def countFraming (u : PortUnit) : PortUnit := { u with framingErrors := satInc 255 u.framingErrors }

/-- A frame is lost: its incoming bytes are discarded and a framing error is counted (R158). -/
def loseFrame (u : PortUnit) : PortUnit := countFraming { u with state := dropIncoming u.state }

/-- A completed frame while PENDING: an overrun (R157). -/
def overrun (u : PortUnit) (f : Frame) : PortUnit :=
  { u with state := .pending f none, overruns := satInc 255 u.overruns, overrunLatch := true }

/-- The frame whose last byte has arrived completes (R157): an overrun while PENDING, a CHECK_ERROR response for a wrong
CHECK byte, a PENDING request for a correct one. -/
def State.completeFrame (s : State) (p : Port) : State :=
  match (s.port p).state with
  | .pending f (some _) => s.withPort p fun u => overrun u f
  | .receiving incoming _ =>
    if checkCorrect incoming then s.withPort p fun u => { u with state := .pending (frameOf incoming) none }
    else
      (s.withPort p fun u => { u with state := .idle, checkErrors := satInc 255 u.checkErrors }).answer p
        (byteAt incoming 0) (bare .checkError)
  | .pending _ none => s
  | .idle => s
  | .answered _ => s

/-- The frame arriving at a port is complete in bytes. -/
def incomingFull (u : PortUnit) : Bool :=
  match incomingOf u.state with
  | none => false
  | some incoming => frameFull incoming

/-- The frame arriving at a port has just received a LEN byte above 48 (R156). -/
def badLenByte (u : PortUnit) : Bool :=
  match incomingOf u.state with
  | none => false
  | some incoming => decide (incoming.length = 5 ∧ Config.maxRequestPayload < (byteAt incoming 4).toNat)

/-- The link of a port changes. -/
def setLink (link : Link) (u : PortUnit) : PortUnit := { u with link := link }

/-- The select of an SPI port falls and 0xB1 arrives: the data output is driven and sends 0x00 (R164, R165). -/
def selectWrite (u : PortUnit) : PortUnit := { u with link := .writing, driven := true, sent := [0x00] }

/-- The select of an SPI port is high: no transaction is in progress, and the data output is undriven (R164). -/
def selectHigh (u : PortUnit) : PortUnit := { u with link := .quiet, driven := false }

/-- An SPI transaction after its bytes: the select goes high, or it stays low, the data output stays driven, and the rest
of the transaction is ignored (R164). -/
def leaveSelect (selectHigh : Bool) (u : PortUnit) : PortUnit :=
  { u with link := if selectHigh then .quiet else .ignoring, driven := !selectHigh }

/-- An SPI port sends 0x00 at a byte position that is not the port's to fill (R164). -/
def sendZero (u : PortUnit) : PortUnit := { u with sent := u.sent ++ [0x00] }

/-- The I2C port's acknowledgement of a byte (R168). -/
def giveAck (acknowledged : Bool) (u : PortUnit) : PortUnit := { u with acks := u.acks ++ [acknowledged] }

/-- A port resynchronised (R167): request, response and incoming frame discarded, latch cleared, RESYNCS counted. -/
def resyncPort (u : PortUnit) : PortUnit :=
  { u with state := .idle, overrunLatch := false, resyncs := satInc 255 u.resyncs, link := .quiet }

/-- The bytes that an SPI transaction has had, when it is neither a write nor a read (R164): a first byte that is not
0xFF is a framing error at once; after a first byte 0xFF nothing is judged before the fourth byte, and there four bytes
0xFF are a resync and any others a framing error. What follows the judgement is ignored. -/
def judgeStart (bytes : List Byte) (u : PortUnit) : PortUnit :=
  if bytes.head? = some 0xFF ∧ bytes.length < 4 then setLink (.judging bytes) u
  else if bytes = [0xFF, 0xFF, 0xFF, 0xFF] then setLink .ignoring (resyncPort u)
  else setLink .ignoring (countFraming u)

/-- One byte of a write frame on SPI (R156, R165): the frame completes at its CHECK byte, or is lost at a LEN above 48,
and what follows is ignored. -/
def State.spiFrameByte (p : Port) (s : State) (b : Byte) : State :=
  let s' := s.withPort p fun u => { u with state := addByte b u.state }
  if badLenByte (s'.port p) then s'.withPort p fun u => setLink .ignoring (loseFrame u)
  else if incomingFull (s'.port p) then (s'.withPort p (setLink .ignoring)).completeFrame p
  else s'

/-- One byte of an SPI transaction in which the port sends 0x00 (R164): a byte of the frame in a write, a byte to be judged
after 0xFF, and otherwise ignored. -/
def State.spiByte (p : Port) (s : State) (b : Byte) : State :=
  (match (s.port p).link with
  | .writing => s.spiFrameByte p b
  | .judging bytes => s.withPort p (judgeStart (bytes ++ [b]))
  | .quiet | .ignoring | .reading | .stretching _ _ _ => s).withPort p sendZero

/-- One data byte of an I2C write transaction to HP2 (R156, R168): a byte after a full frame, and a LEN byte above 48,
lose the frame and are not acknowledged. -/
def State.i2cByte (s : State) (b : Byte) : State :=
  if (s.port .hp2).link ≠ .writing then s.withPort .hp2 (giveAck false)
  else if incomingFull (s.port .hp2) then s.withPort .hp2 fun u => giveAck false (setLink .ignoring (loseFrame u))
  else
    let s' := s.withPort .hp2 fun u => { u with state := addByte b u.state }
    if badLenByte (s'.port .hp2) then s'.withPort .hp2 fun u => giveAck false (setLink .ignoring (loseFrame u))
    else s'.withPort .hp2 (giveAck true)

/-- What is counted when a transaction ends before the fourth byte after it began with 0xFF: one framing error (R164). -/
def failStart (u : PortUnit) : PortUnit :=
  match u.link with
  | .judging _ => countFraming u
  | .quiet | .writing | .ignoring | .reading | .stretching _ _ _ => u

/-- The select of an SPI port goes high: a frame that has not completed is lost, even before its first byte
(R158, R165), and a transaction not yet judged is a framing error (R164). -/
def State.spiEnd (s : State) (p : Port) : State :=
  match (s.port p).link with
  | .writing => s.withPort p fun u => selectHigh (loseFrame u)
  | .quiet | .judging _ | .ignoring | .reading | .stretching _ _ _ => s.withPort p fun u => selectHigh (failStart u)

/-- A STOP or repeated START on the I2C bus: a full frame completes, a shorter one is lost, and a write without a data
byte is an address probe (R168). -/
def State.i2cEnd (s : State) : State :=
  match (s.port .hp2).link with
  | .writing =>
    if incomingOf (s.port .hp2).state = none then s.withPort .hp2 (setLink .quiet)
    else if incomingFull (s.port .hp2) then (s.withPort .hp2 (setLink .quiet)).completeFrame .hp2
    else s.withPort .hp2 fun u => setLink .quiet (loseFrame u)
  | .quiet | .judging _ | .ignoring | .reading | .stretching _ _ _ => s.withPort .hp2 (setLink .quiet)

/-! ### What a read sends (R160) -/

/-- What a port sends to a read, before the fill. -/
def readContent : PortState → List Byte
  | .answered r => responseBytes r
  | .receiving _ (some r) => responseBytes r
  | .receiving _ none => [empty]
  | .idle => [empty]
  | .pending _ _ => [notReady]

/-- An I2C read sends `count` bytes and changes nothing else at the port (R160, R169). -/
def sendRead (count : Nat) (u : PortUnit) : PortUnit := { u with sent := filled (readContent u.state) count }

/-- An SPI read sends 0x00 during the direction byte and `count` bytes after it, and changes nothing else at the port
(R160, R164, R166). -/
def sendSpiRead (count : Nat) (u : PortUnit) : PortUnit := { u with sent := 0x00 :: filled (readContent u.state) count }

/-! ### SPI transactions (R164 to R166) -/

/-- An SPI write transaction: the select falls (which ends any transaction before), the bytes after 0xB1 are taken as a
frame, and the select may go high after them (R165; DESIGN CHOICE, assumption 9). -/
def execSpiWriteTransaction (p : SpiPort) (bytes : List Byte) (selectHigh : Bool) (s : State) :
    Host.Outcome State Fault Refusal :=
  s.awake fun s =>
    let s' := bytes.foldl (State.spiByte p.port) ((s.spiEnd p.port).withPort p.port selectWrite)
    if selectHigh then s'.spiEnd p.port else s'

/-- An SPI read transaction, whose select may go high after its bytes (R166): the state is judged at the direction
byte. -/
def execSpiReadTransaction (p : SpiPort) (read : SpiRead) (s : State) : Host.Outcome State Fault Refusal :=
  s.awake fun s => (s.spiEnd p.port).withPort p.port fun u => leaveSelect read.selectHigh (sendSpiRead read.count u)

/-- The select of an SPI port falls, and the first byte is still to come (R164). -/
def selectStart (u : PortUnit) : PortUnit := { u with link := .judging [], driven := true, sent := [] }

/-- An SPI transaction that begins neither a write, nor a read, nor a resync, whose select may go high after its bytes
(R164): the select falls, which ends any transaction before, and the bytes are judged as they arrive. Bytes 0xFF, fewer
than four, with the select still low leave the transaction to be judged, and FRAME_COMPLETE carries its next bytes; bytes
that begin a write, a read or a resync change nothing (DESIGN CHOICE, assumption 9). -/
def execSpiFramingError (p : SpiPort) (sent : SpiBytes) (s : State) : Host.Outcome State Fault Refusal :=
  s.awake fun s =>
    if invalidSpiStart sent.bytes then
      let s' := sent.bytes.foldl (State.spiByte p.port) ((s.spiEnd p.port).withPort p.port selectStart)
      if sent.selectHigh then s'.spiEnd p.port else s'
    else s

/-! ### Resync (R167) -/

/-- The port that a resync event resyncs (R167). -/
def resyncedPort : ResyncEvent → Port
  | .spi p _ _ => p.port
  | .generalCall _ => .hp2

/-- What a port sends and acknowledges in the transaction that resyncs it, with the bytes after the resync: 0x00 for
every byte on SPI, whose select may go high after them (R164), and on I2C two acknowledgements and no more (R170). -/
def resyncOutputs (event : ResyncEvent) (u : PortUnit) : PortUnit :=
  match event with
  | .spi _ more selectHigh => leaveSelect selectHigh { u with sent := List.replicate (4 + more) 0x00 }
  | .generalCall more => { u with sent := [], acks := true :: true :: List.replicate more false }

/-- What a resync event ends at its port first: the select goes low anew, so that an SPI transaction not yet judged has
ended and is counted by R164 (DESIGN CHOICE, assumption 9). -/
def beforeResync (event : ResyncEvent) (u : PortUnit) : PortUnit :=
  match event with
  | .spi _ _ _ => failStart u
  | .generalCall _ => u

/-- A resync of a port (R167). It is taken in every state of the link: where HP2 stretches SCL and no general call can be
made, it still resyncs, and ends the stretch with nothing sent; and a write in progress is discarded uncounted by step 3 of
R167, where its general call as an I2C_WRITE_TRANSACTION ends that write first (DESIGN CHOICE, assumptions 9 and 10). -/
def execResync (event : ResyncEvent) (s : State) : Host.Outcome State Fault Refusal :=
  s.awake fun s => s.withPort (resyncedPort event) fun u => resyncOutputs event (resyncPort (beforeResync event u))

/-! ### Completion and loss of the frame in progress (R157, R158) -/

/-- The transaction in progress is not being read or ignored: its bytes can still change the port. -/
def takesBytes (link : Link) : Bool :=
  match link with
  | .writing | .judging _ => true
  | .quiet | .ignoring | .reading | .stretching _ _ _ => false

/-- The rest of a frame arrives in the write transaction in progress and the frame completes (R157): on SPI at its
CHECK byte, on I2C with the end of the transaction after it. In an SPI transaction that began with 0xFF the bytes are its
next ones, judged at the fourth (R164). Without such a transaction in progress nothing happens, and a frame still short of
bytes goes on arriving (DESIGN CHOICE, assumption 9). -/
def execFrameComplete (p : Port) (rest : List Byte) (s : State) : Host.Outcome State Fault Refusal :=
  s.awake fun s =>
    if takesBytes (s.port p).link then
      match p with
      | .hp0 | .hp1 => rest.foldl (State.spiByte p) s
      | .hp2 =>
        let s' := rest.foldl State.i2cByte s
        if (s'.port .hp2).link = .writing ∧ incomingFull (s'.port .hp2) then s'.i2cEnd else s'
    else s

/-- The write transaction in progress on the I2C bus ends, or is abandoned, before its frame completes (R158); without a
data byte it is an address probe (R168). Where the CHECK byte has arrived, the loss is that of a byte beyond the frame's
length, since the end of the transaction there completes the frame, as FRAME_COMPLETE says (DESIGN CHOICE, assumption 10). -/
def loseI2cFrame (u : PortUnit) : PortUnit :=
  if incomingOf u.state = none then setLink .quiet u else setLink .quiet (loseFrame u)

/-- The transaction in progress ends, or is abandoned: a frame that has not completed is lost (R158), and on SPI the
select is high again, which is a framing error where the transaction was still to be judged (R164). A transaction that is
being ignored or read ends without a count; none can end while HP2
stretches SCL (DESIGN CHOICE, assumptions 9 and 10). -/
def execFrameLost (p : Port) (s : State) : Host.Outcome State Fault Refusal :=
  s.awake fun s =>
    match (s.port p).link with
    | .quiet | .stretching _ _ _ => s
    | .writing =>
      match p with
      | .hp0 | .hp1 => s.spiEnd p
      | .hp2 => s.withPort .hp2 loseI2cFrame
    | .judging _ | .ignoring | .reading =>
      match p with
      | .hp0 | .hp1 => s.spiEnd p
      | .hp2 => s.i2cEnd

/-! ### I2C transactions (R168 to R170) -/

/-- The port holds SCL low, so no START can be made on the bus (R169). -/
def isStretching (link : Link) : Bool :=
  match link with
  | .stretching _ _ _ => true
  | .quiet | .writing | .judging _ | .ignoring | .reading => false

/-- A transaction on the I2C bus in which HP2 sends nothing and gives some acknowledgements, the address first. -/
def onlyAcks (acks : List Bool) (u : PortUnit) : PortUnit := { u with sent := [], acks := acks }

/-- The general call: 0x5B resyncs HP2 and is acknowledged, any other byte has no effect (R170). The link is quiet in it:
it is no transaction addressed to HP2 for the watch on a stuck SCL (DESIGN CHOICE, assumption 10). -/
def State.generalCall (s : State) : List Byte → State
  | [] => s.withPort .hp2 (onlyAcks [true])
  | b :: rest =>
    if b = 0x5B then s.withPort .hp2 fun u => onlyAcks (true :: true :: rest.map fun _ => false) (resyncPort u)
    else s.withPort .hp2 (onlyAcks (true :: false :: rest.map fun _ => false))

/-- An I2C write transaction (R168, R170): its START ends the transaction before it; at the port's address the data
bytes are taken as a frame, at address 0 they are a general call, and other addresses are not answered. While the port
stretches SCL no START can be made (DESIGN CHOICE, assumption 10). -/
def execI2cWriteTransaction (address : BitVec 7) (bytes : List Byte) (ended : Bool) (s : State) :
    Host.Outcome State Fault Refusal :=
  s.awake fun s =>
    if isStretching (s.port .hp2).link then s
    else if address = s.i2cAddress then
      let s' := bytes.foldl State.i2cByte (s.i2cEnd.withPort .hp2 fun u => onlyAcks [true] (setLink .writing u))
      if ended then s'.i2cEnd else s'
    else if address = 0 then s.i2cEnd.generalCall bytes
    else s.i2cEnd.withPort .hp2 (onlyAcks [false])

/-- An I2C read transaction (R169): its START ends the transaction before it; the port acknowledges its own address and no
other, and then stretches SCL while it is PENDING, or sends at once. While it stretches no START can be made
(DESIGN CHOICE, assumption 10). -/
def execI2cReadTransaction (address : BitVec 7) (count : Nat) (ended : Bool) (s : State) :
    Host.Outcome State Fault Refusal :=
  s.awake fun s =>
    if isStretching (s.port .hp2).link then s
    else if address = s.i2cAddress then
      let s' := s.i2cEnd.withPort .hp2 (onlyAcks [true])
      if s'.isPending .hp2 then s'.withPort .hp2 (setLink (.stretching count Config.stretchLimitMs ended))
      else s'.withPort .hp2 fun u => setLink (if ended then .quiet else .reading) (sendRead count u)
    else s.i2cEnd.withPort .hp2 (onlyAcks [false])

/-- The stretch limit runs out (R169): SCL is released and NOT_READY is sent; the request stays PENDING. -/
def execStretchLimit (s : State) : Host.Outcome State Fault Refusal :=
  s.awake fun s =>
    match (s.port .hp2).link with
    | .stretching count _ ended =>
      s.withPort .hp2 fun u =>
        { u with sent := filled [notReady] count, link := if ended then .quiet else .reading }
    | .quiet | .writing | .judging _ | .ignoring | .reading => s

/-- SCL held low by another party for 25 ms while a transaction addressed to HP2 is in progress aborts it (R170); the
port's own stretch does not count (DEDUCED, assumption 10). -/
def execStuckSclAbort (s : State) : Host.Outcome State Fault Refusal :=
  s.awake fun s =>
    match (s.port .hp2).link with
    | .writing => s.withPort .hp2 fun u => setLink .quiet (loseFrame u)
    | .reading | .ignoring => s.withPort .hp2 fun u => setLink .quiet (countFraming u)
    | .quiet | .judging _ | .stretching _ _ _ => s

/-! ### A request whose code is unknown (R161) -/

/-- A request of unknown code is taken by the Command Arbiter itself and answered BAD_REQUEST (R161). -/
def execUnknownCodeRequest (p : Port) (s : State) : Host.Outcome State Fault Refusal :=
  s.awake fun s =>
    match s.taking p with
    | none => s
    | some f =>
      if requestOf f.code = none then (s.served p).answer p f.tag (bare .badRequest) else s

end Sys2Proof.Machine
end

