-- ==== Sys2Proof/Machine/ProfileStore.lean ====
section
/-! DEFINITION. The Profile Store: SET PROFILE and GET PROFILE (chapter 8). -/

namespace Sys2Proof.Machine

/-- Every line re-seeded: its run count becomes 0 (R80). -/
def State.reseed (s : State) : State := s.withLines fun _ c => { c with run := 0 }

/-- The change of profile (R150 to R153): the profile is replaced, every line is re-seeded, every drive is decided
again, every monitor is entered, and PROFILE_CHANGED is appended for every OPEN session. The time count keeps its
value (R151). -/
def State.changeProfile (s : State) (p : Port) (f : Profile) : State :=
  ((((s.withProfile f).reseed).redrive everyResource).enterMonitors).append everyPort s.timeCount
    (.profileChanged p f.tickUnit)

/-- SET PROFILE after the session check (R149, R150). -/
def setProfileBody (s : State) (p : Port) (pl : List Byte) : State × Reply :=
  match profileOperands pl with
  | none => (s, bare .badArgument)
  | some f => if s.quiet then (s.changeProfile p f, bare .ok) else (s, bare .notQuiet)

/-- SET PROFILE (R150). -/
def execSetProfile (p : Port) (s : State) : Host.Outcome State Fault Refusal :=
  s.awake fun s => s.take .setProfile p setProfileBody

/-- GET PROFILE after the session check (R148). -/
def getProfileBody (s : State) (_ : Port) (_ : List Byte) : State × Reply :=
  (s, { status := .ok, payload := profileBytes s.profile })

/-- GET PROFILE (R148). -/
def execGetProfile (p : Port) (s : State) : Host.Outcome State Fault Refusal :=
  s.awake fun s => s.take .getProfile p getProfileBody

end Sys2Proof.Machine
end

