-- ==== Sys2Proof/Machine/Reset.lean ====
section
/-! DEFINITION. Reset (R171, R41), and what the part does by itself while no command waits. -/

namespace Sys2Proof.Machine

/-! ### Reset (R171) -/

/-- A port while the reset lasts: requests, responses and transactions are gone without a count, the SPI data output is
undriven, and nothing is sent or acknowledged. -/
def silentPort (u : PortUnit) : PortUnit :=
  { u with state := .idle, link := .quiet, driven := false, sent := [], acks := [] }

/-- A reset begins (R171): every line floats, every TOn drives LOW, every attention output is deasserted, and the ports
hold nothing. -/
def State.beginReset (s : State) (cause : ResetCause) : State :=
  { (s.withLines fun _ c => { c with drive := .float }).withEngines fun _ g => { g with out := .low } with
    inReset := some cause
    attn := ⟨false, false, false⟩
    ports := PerPort.of fun p => silentPort (s.port p) }

/-- nRST held low for a time (R171): below 1 µs it is ignored, from 5 µs it resets, and between the two a free value
says whether it does (DESIGN CHOICE, assumption 3). A reset in progress goes on. -/
def State.resetByPin (s : State) (nanoseconds : Nat) : State :=
  if s.inReset ≠ none then s
  else if nanoseconds < Config.resetPulseIgnoredNs then s
  else if Config.resetPulseTakenNs ≤ nanoseconds then s.beginReset .pin
  else if Config.shortPulseResets s.freeCount then { s.beginReset .pin with freeCount := s.freeCount + 1 }
  else { s with freeCount := s.freeCount + 1 }

/-- POR, or nRST low, begins a reset (R171). The supply rising makes the cause POWER_ON even during a reset from
nRST. -/
def execReset (event : ResetEvent) (s : State) : Host.Outcome State Fault Refusal :=
  .next (match event with
    | .powerOn => s.beginReset .powerOn
    | .pinLow nanoseconds => s.resetByPin nanoseconds)

/-- The reset ends (R171): every block takes its reset values, the straps and pins are read, the cause is recorded. Out
of reset there is none to end (assumption 14). -/
def execResetEnd (pins : ResetPins) (s : State) : Host.Outcome State Fault Refusal :=
  .next (match s.inReset with
    | none => s
    | some cause => State.afterReset cause pins s.freeCount s.pending)

/-! ### While no command waits (R30, R47, R64, R161, R169; assumption 1) -/

/-- The command that takes the request a frame makes. -/
def takingOf (p : Port) (f : Frame) : Instr :=
  match requestOf f.code with
  | none => .unknownCodeRequest p
  | some .status => .status p
  | some .openSession => .openSession p
  | some .closeSession => .closeSession p
  | some .ping => .ping p
  | some .time => .time p
  | some .claim => .claim p
  | some .cancelClaim => .cancelClaim p
  | some .release => .release p
  | some .setFailsafe => .setFailsafe p
  | some .leases => .leases p
  | some .offer => .offer p
  | some .accept => .accept p
  | some .decline => .decline p
  | some .withdraw => .withdraw p
  | some .setDirection => .setDirection p
  | some .writeLines => .writeLines p
  | some .readLines => .readLines p
  | some .configureEngine => .configureEngine p
  | some .startEngine => .startEngine p
  | some .stopEngine => .stopEngine p
  | some .engineStatus => .engineStatus p
  | some .subscribe => .subscribe p
  | some .fetch => .fetch p
  | some .setAttention => .setAttention p
  | some .setProfile => .setProfile p
  | some .getProfile => .getProfile p

/-- The request that the Command Arbiter takes by itself, as a command (R161). -/
def State.arbiterCommand (s : State) : Option Instr :=
  match s.arbiterChoice with
  | none => none
  | some p => (s.port p).request.map (takingOf p)

/-- One millisecond of a session's keepalive timer (R30). -/
def countKeepalive (x : Session) : Session :=
  match x.state with
  | .opened o => { x with state := .opened { o with remaining := o.remaining - 1 } }
  | .closed => x
  | .lapsed => x

/-- One millisecond of a stretch (R169). -/
def countStretch (u : PortUnit) : PortUnit :=
  match u.link with
  | .stretching count remaining ended => { u with link := .stretching count (remaining - 1) ended }
  | .quiet | .writing | .judging _ | .ignoring | .reading => u

/-- One millisecond passes for every millisecond timer (R30, R47, R64, R169). -/
def State.millisecond (s : State) : State :=
  { s with
    sessions := PerPort.of fun p => countKeepalive (s.session p)
    offers := s.offers.map fun o => { o with remaining := o.remaining - 1 }
    waitList := s.waitList.map fun w => { w with remaining := w.remaining - 1 }
    ports := PerPort.of fun p => countStretch (s.port p) }

/-- The session's keepalive timer has run out. -/
def State.keepaliveOut (s : State) (p : Port) : Bool :=
  match s.openFields p with
  | none => false
  | some o => decide (o.remaining = 0)

/-- The stretch limit has run out. -/
def stretchOut (link : Link) : Bool :=
  match link with
  | .stretching _ remaining _ => decide (remaining = 0)
  | .quiet | .writing | .judging _ | .ignoring | .reading => false

/-- The happenings of the timers that have run out: lapses by port, then offer windows by id, then queued claims from
the oldest, then the stretch limit (near together, either may be taken first: R40). -/
def State.timersOut (s : State) : List Instr :=
  (allPorts.filter s.keepaliveOut).map Instr.lapse
    ++ (s.offers.filter fun o => decide (o.remaining = 0)).map (fun o => Instr.offerExpiry o.id)
    ++ (s.waitList.filter fun w => decide (w.remaining = 0)).map (fun w => Instr.claimExpiry w.ticket)
    ++ (if stretchOut (s.port .hp2).link then [Instr.stretchLimit] else [])

/-- What the part does while no command waits (DESIGN CHOICE, assumption 1):
the Command Arbiter takes a PENDING request, or else one
millisecond passes, and the happenings of the timers that run out in it begin to wait. In reset nothing happens. -/
def State.alone (s : State) : State :=
  if s.inReset ≠ none then s
  else
    match s.arbiterCommand with
    | some c => { s with pending := [c] }
    | none => { s.millisecond with pending := s.millisecond.timersOut }

end Sys2Proof.Machine
end

