-- ==== Sys2Proof/Machine/Sessions.lean ====
section
/-! DEFINITION. Sessions: STATUS, OPEN SESSION, CLOSE SESSION, PING, TIME, and the lapse (chapter 2). -/

namespace Sys2Proof.Machine

/-- STATUS after its check of code and length (R43). -/
def statusBody (s : State) (p : Port) (pl : List Byte) : State × Reply :=
  match statusOperands pl with
  | none => (s, bare .badArgument)
  | some clear =>
    (if clear then
      s.withPort p fun u => { u with checkErrors := 0, overruns := 0, framingErrors := 0, resyncs := 0 }
     else s,
     { status := .ok, payload := s.statusPayload p })

/-- STATUS (R43). -/
def execStatus (p : Port) (s : State) : Host.Outcome State Fault Refusal := s.awake fun s => s.take .status p statusBody

/-- A session opened on a record that is CLOSED or LAPSED, with the response (R33). -/
def openAndReport (s : State) (p : Port) (o : OpenOperands) : State × Reply :=
  (s.openRecord p o.period o.threshold,
   { status := .ok
     payload := openPayload (nextSessionNumber (s.session p).number) (s.session p).previousEnd (s.orphanCount p) })

/-- OPEN SESSION after its check of code and length (R33, R34, R38). -/
def openBody (s : State) (p : Port) (pl : List Byte) : State × Reply :=
  match openOperands pl with
  | none => (s, bare .badArgument)
  | some o =>
    if s.isOpen p then
      if o.replace then openAndReport (s.endSession .replace p) p o else (s, bare .sessionOpen)
    else openAndReport s p o

/-- OPEN SESSION (R33). -/
def execOpenSession (p : Port) (s : State) : Host.Outcome State Fault Refusal :=
  s.awake fun s => s.take .openSession p openBody

/-- CLOSE SESSION after the session check (R37). -/
def closeBody (s : State) (p : Port) (_ : List Byte) : State × Reply := (s.endSession .close p, bare .ok)

/-- CLOSE SESSION (R37). -/
def execCloseSession (p : Port) (s : State) : Host.Outcome State Fault Refusal :=
  s.awake fun s => s.take .closeSession p closeBody

/-- PING after the session check: nothing more (R42). -/
def pingBody (s : State) (_ : Port) (_ : List Byte) : State × Reply := (s, bare .ok)

/-- PING (R42). -/
def execPing (p : Port) (s : State) : Host.Outcome State Fault Refusal := s.awake fun s => s.take .ping p pingBody

/-- TIME after its check of code and length (R44). -/
def timeBody (s : State) (_ : Port) (_ : List Byte) : State × Reply := (s, { status := .ok, payload := s.timePayload })

/-- TIME (R44). -/
def execTime (p : Port) (s : State) : Host.Outcome State Fault Refusal := s.awake fun s => s.take .time p timeBody

/-- The keepalive timer of a session runs out (R35); no timer runs unless the session is OPEN (R30; DESIGN
CHOICE, assumption 5). -/
def execLapse (p : Port) (s : State) : Host.Outcome State Fault Refusal :=
  s.awake fun s => if s.isOpen p then s.endSession .lapse p else s

end Sys2Proof.Machine
end

