-- ==== Sys2Proof/Machine/Dispatch.lean ====
section
/-! DEFINITION. Each command and its meaning, one arm for each row of spec/opcode_table.json. -/

namespace Sys2Proof.Machine

def exec (i : Instr) (s : State) : Host.Outcome State Fault Refusal :=
  match i with
  | .status p => Sys2Proof.Machine.execStatus p s
  | .openSession p => Sys2Proof.Machine.execOpenSession p s
  | .closeSession p => Sys2Proof.Machine.execCloseSession p s
  | .ping p => Sys2Proof.Machine.execPing p s
  | .time p => Sys2Proof.Machine.execTime p s
  | .claim p => Sys2Proof.Machine.execClaim p s
  | .cancelClaim p => Sys2Proof.Machine.execCancelClaim p s
  | .release p => Sys2Proof.Machine.execRelease p s
  | .setFailsafe p => Sys2Proof.Machine.execSetFailsafe p s
  | .leases p => Sys2Proof.Machine.execLeases p s
  | .offer p => Sys2Proof.Machine.execOffer p s
  | .accept p => Sys2Proof.Machine.execAccept p s
  | .decline p => Sys2Proof.Machine.execDecline p s
  | .withdraw p => Sys2Proof.Machine.execWithdraw p s
  | .setDirection p => Sys2Proof.Machine.execSetDirection p s
  | .writeLines p => Sys2Proof.Machine.execWriteLines p s
  | .readLines p => Sys2Proof.Machine.execReadLines p s
  | .configureEngine p => Sys2Proof.Machine.execConfigureEngine p s
  | .startEngine p => Sys2Proof.Machine.execStartEngine p s
  | .stopEngine p => Sys2Proof.Machine.execStopEngine p s
  | .engineStatus p => Sys2Proof.Machine.execEngineStatus p s
  | .subscribe p => Sys2Proof.Machine.execSubscribe p s
  | .fetch p => Sys2Proof.Machine.execFetch p s
  | .setAttention p => Sys2Proof.Machine.execSetAttention p s
  | .setProfile p => Sys2Proof.Machine.execSetProfile p s
  | .getProfile p => Sys2Proof.Machine.execGetProfile p s
  | .unknownCodeRequest p => Sys2Proof.Machine.execUnknownCodeRequest p s
  | .lapse p => Sys2Proof.Machine.execLapse p s
  | .offerExpiry id => Sys2Proof.Machine.execOfferExpiry id s
  | .claimExpiry ticket => Sys2Proof.Machine.execClaimExpiry ticket s
  | .tick => Sys2Proof.Machine.execTick s
  | .engineTick e => Sys2Proof.Machine.execEngineTick e s
  | .pulseTrainPhaseEnd e => Sys2Proof.Machine.execPulseTrainPhaseEnd e s
  | .delayedPulsePhaseEnd e => Sys2Proof.Machine.execDelayedPulsePhaseEnd e s
  | .measureLimitEnd e => Sys2Proof.Machine.execMeasureLimitEnd e s
  | .countWindowEnd e => Sys2Proof.Machine.execCountWindowEnd e s
  | .lineSample levels => Sys2Proof.Machine.execLineSample levels s
  | .monitorSettleEnd l => Sys2Proof.Machine.execMonitorSettleEnd l s
  | .fsafeAssertion => Sys2Proof.Machine.execFsafeAssertion s
  | .fsafeRelease => Sys2Proof.Machine.execFsafeRelease s
  | .spiWriteTransaction p bytes selectHigh => Sys2Proof.Machine.execSpiWriteTransaction p bytes selectHigh s
  | .spiReadTransaction p read => Sys2Proof.Machine.execSpiReadTransaction p read s
  | .spiFramingError p sent => Sys2Proof.Machine.execSpiFramingError p sent s
  | .resync event => Sys2Proof.Machine.execResync event s
  | .frameComplete p rest => Sys2Proof.Machine.execFrameComplete p rest s
  | .frameLost p => Sys2Proof.Machine.execFrameLost p s
  | .i2cWriteTransaction address bytes ended => Sys2Proof.Machine.execI2cWriteTransaction address bytes ended s
  | .i2cReadTransaction address count ended => Sys2Proof.Machine.execI2cReadTransaction address count ended s
  | .stretchLimit => Sys2Proof.Machine.execStretchLimit s
  | .stuckSclAbort => Sys2Proof.Machine.execStuckSclAbort s
  | .reset event => Sys2Proof.Machine.execReset event s
  | .resetEnd pins => Sys2Proof.Machine.execResetEnd pins s
  | .nfsafeMonitorSample level => Sys2Proof.Machine.execNfsafeMonitorSample level s

end Sys2Proof.Machine
end

