-- ==== Sys2Proof/Safety.lean ====
section
/-! DEFINITION. What the claims speak of: a request ready to be taken and its answer, what a happening leaves alone, and
the invariants of the hub's tables. -/

namespace Sys2Proof.Safety

open Sys2Proof.Machine

/-! ### A request and its answer (R159, R161, R172) -/

/-- The Arbiter's next request is the frame `f` of port `p`, its code is the request's, and it passes the check of code
and length (R161 check 1). -/
def Ready (s : State) (rq : Request) (p : Port) (f : Frame) : Prop :=
  s.taking p = some f ∧ f.code = requestCode rq ∧ f.payload.length = requestLength rq ∧ f.tag ≠ 0xF0 ∧ f.tag ≠ 0xF1

/-- The frame passes the session check of its port (R31). -/
def Passes (s : State) (p : Port) (f : Frame) : Prop := s.isOpen p = true ∧ (s.session p).number = f.session

/-- The response to a frame of port `p`, with the latch as it was before and the flags as they are after (R142, R159). -/
def responseTo (s t : State) (p : Port) (f : Frame) (st : Status) (payload : List Byte) : Response :=
  { tag := if f.tag = 0xF0 ∨ f.tag = 0xF1 then 0 else f.tag, status := st, overrun := (s.port p).overrunLatch
    attn := t.attn.get p, force := t.force.asserted, payload := payload }

/-- A port after a response is placed in it: ANSWERED, or RECEIVING when a further frame is arriving; the request slot
is empty, the latch is clear, and a stretched read is released and sent (R159, R161, R169). -/
def placed (r : Response) (u : PortUnit) : PortUnit :=
  { u with
    state := match u.state with
      | .pending _ (some incoming) => .receiving incoming (some r)
      | .receiving incoming _ => .receiving incoming (some r)
      | .pending _ none => .answered r
      | .idle => .answered r
      | .answered _ => .answered r
    overrunLatch := false
    link := match u.link with
      | .stretching _ _ ended => if ended then .quiet else .reading
      | .quiet => .quiet
      | .writing => .writing
      | .judging bytes => .judging bytes
      | .ignoring => .ignoring
      | .reading => .reading
    sent := match u.link with
      | .stretching count _ _ => filled (responseBytes r) count
      | .quiet => u.sent
      | .writing => u.sent
      | .judging _ => u.sent
      | .ignoring => u.sent
      | .reading => u.sent }

/-- The request of port `p` was answered, no other port was touched, and the Arbiter's pointer names `p` (R161). -/
def Answered (s t : State) (p : Port) (f : Frame) (st : Status) (payload : List Byte) : Prop :=
  t.servedLast = p ∧ t.port p = placed (responseTo s t p f st payload) (s.port p) ∧ ∀ q, q ≠ p → t.port q = s.port q

/-- A session record whose keepalive timer is at its full period again (R30). -/
def restarted (x : Session) : Session :=
  match x.state with
  | .opened o => { x with state := .opened { o with remaining := o.period } }
  | .closed => x
  | .lapsed => x

/-- Of the session records, only the keepalive timer of port `p` was restarted (R30). -/
def OnlyRestarted (s t : State) (p : Port) : Prop :=
  t.session p = restarted (s.session p) ∧ ∀ q, q ≠ p → t.session q = s.session q

/-- The command by which a request is taken from a port. -/
def commandOf (p : Port) : Request → Instr
  | .status => .status p
  | .openSession => .openSession p
  | .closeSession => .closeSession p
  | .ping => .ping p
  | .time => .time p
  | .claim => .claim p
  | .cancelClaim => .cancelClaim p
  | .release => .release p
  | .setFailsafe => .setFailsafe p
  | .leases => .leases p
  | .offer => .offer p
  | .accept => .accept p
  | .decline => .decline p
  | .withdraw => .withdraw p
  | .setDirection => .setDirection p
  | .writeLines => .writeLines p
  | .readLines => .readLines p
  | .configureEngine => .configureEngine p
  | .startEngine => .startEngine p
  | .stopEngine => .stopEngine p
  | .engineStatus => .engineStatus p
  | .subscribe => .subscribe p
  | .fetch => .fetch p
  | .setAttention => .setAttention p
  | .setProfile => .setProfile p
  | .getProfile => .getProfile p

/-- The session check refuses the frame with a status: NO_SESSION for a CLOSED record, STALE_SESSION for a LAPSED one and
for another session number (R31). -/
def RefusedBySession (s : State) (p : Port) (f : Frame) (st : Status) : Prop :=
  ((s.session p).state = .closed ∧ st = .noSession) ∨ ((s.session p).state = .lapsed ∧ st = .staleSession) ∨
    (s.isOpen p = true ∧ (s.session p).number ≠ f.session ∧ st = .staleSession)

/-- The payload that names a resource: its number and the port its entry names, 0xFF for none (R176). -/
def namesResource (s : State) (r : Resource) (payload : List Byte) : Prop :=
  payload = [BitVec.ofNat 8 r.val,
    match (s.entry r).state with
    | .free => 0xFF
    | .held q => portCode q
    | .offered q _ => portCode q
    | .orphaned q => portCode q]

/-- Resource `r` is the lowest-numbered member of a set that has a property (R3). -/
def LowestWith (set : ResourceSet) (bad : Resource → Prop) (r : Resource) : Prop :=
  inSet set r = true ∧ bad r ∧ ∀ k : Resource, inSet set k = true → bad k → r ≤ k

/-- How many ports the Arbiter looks at before port `p`, HP0 after HP2, when it served `last` last (R161). -/
def looksBefore (last p : Port) : Nat := ((portCode p).toNat + 2 - (portCode last).toNat) % 3

/-! ### What a happening leaves alone -/

/-- The lease table, the offer table, the wait list and their counters are as they were. -/
def SameTables (s t : State) : Prop :=
  t.leases = s.leases ∧ t.offers = s.offers ∧ t.offerCounter = s.offerCounter ∧ t.waitList = s.waitList ∧
    t.ticketCounter = s.ticketCounter

/-- The session records are as they were. -/
def SameSessions (s t : State) : Prop := t.sessions = s.sessions

/-- The line cells and the engines are as they were. -/
def SameField (s t : State) : Prop := t.lines = s.lines ∧ t.engines = s.engines

/-- The journal, its sequence counter and the attention outputs are as they were. -/
def SameJournal (s t : State) : Prop := t.journal = s.journal ∧ t.nextSeq = s.nextSeq ∧ t.attn = s.attn

/-- The ports and the Arbiter's pointer are as they were. -/
def SamePorts (s t : State) : Prop := t.ports = s.ports ∧ t.servedLast = s.servedLast

/-- The reset state, the straps' address, the model's count of free values and the queue are as they were. -/
def SameControl (s t : State) : Prop :=
  t.resetCause = s.resetCause ∧ t.inReset = s.inReset ∧ t.i2cAddress = s.i2cAddress ∧ t.freeCount = s.freeCount ∧
    t.pending = s.pending

/-- The force input's monitor, the time count, the profile and the reset state are as they were. -/
def SameRest (s t : State) : Prop :=
  t.force = s.force ∧ t.timeCount = s.timeCount ∧ t.profile = s.profile ∧ SameControl s t

/-- What a session keeps through other parties' happenings: everything but its journal counters and delivery state,
which records of its own move (R127 to R129, R133). -/
def sessionFrame (x : Session) : Session :=
  { x with
    given := 0, acknowledged := 0, lost := 0, unreportedLost := 0
    state := match x.state with
      | .opened o => .opened { o with ackPoint := 0, mark := none }
      | .closed => .closed
      | .lapsed => .lapsed }

/-- Of the session records, only journal counters and delivery states moved. -/
def OnlyJournalMoved (s t : State) : Prop := ∀ q, sessionFrame (t.session q) = sessionFrame (s.session q)

/-- Of the session records, the keepalive timer of port `p` was restarted and journal counters and delivery states
moved. -/
def RestartedAside (s t : State) (p : Port) : Prop :=
  sessionFrame (t.session p) = sessionFrame (restarted (s.session p)) ∧
    ∀ q, q ≠ p → sessionFrame (t.session q) = sessionFrame (s.session q)

/-- No lease table, line, engine, journal or other part of the hub but sessions and ports changed. -/
def OnlyAnswered (s t : State) (p : Port) : Prop :=
  OnlyRestarted s t p ∧ SameTables s t ∧ SameField s t ∧ SameJournal s t ∧ SameRest s t

/-- Nothing but the port that was answered changed. -/
def NothingBeside (s t : State) : Prop :=
  SameSessions s t ∧ SameTables s t ∧ SameField s t ∧ SameJournal s t ∧ SameRest s t

/-- The journal and the sequence counter after one record was offered for the ports `ps`, of which those that `isOpen`
names have an OPEN session (R126 to R128): without one nothing is appended; otherwise the record stands at the newest
end with the next sequence number and their interest, after the oldest record made room in a full journal. -/
def withRecord (isOpen : Port → Bool) (journal : List Record × Seq) (ps : Port → Bool) (time : Count)
    (body : RecordBody) : List Record × Seq :=
  if (ps .hp0 && isOpen .hp0) || (ps .hp1 && isOpen .hp1) || (ps .hp2 && isOpen .hp2) then
    ((if journal.1.length < 128 then journal.1 else journal.1.tail) ++
        [{ seq := journal.2, time := time, body := body
           interest := ⟨ps .hp0 && isOpen .hp0, ps .hp1 && isOpen .hp1, ps .hp2 && isOpen .hp2⟩ }],
      journal.2 + 1)
  else journal

/-- One record was offered to the journal for the ports `ps` (R126 to R128). -/
def Appended (s t : State) (ps : Port → Bool) (time : Count) (body : RecordBody) : Prop :=
  (t.journal, t.nextSeq) = withRecord s.isOpen (s.journal, s.nextSeq) ps time body

/-- The journal and the sequence counter after records were offered one after another, each for its own ports, all at
one time count (R127). -/
def withRecords (isOpen : Port → Bool) (journal : List Record × Seq) (time : Count)
    (records : List ((Port → Bool) × RecordBody)) : List Record × Seq :=
  records.foldl (fun j x => withRecord isOpen j x.1 time x.2) journal

/-- The journal without the interest of port `p`: a record left without interest is freed (R130, R131). -/
def withoutInterest (p : Port) (journal : List Record) : List Record :=
  journal.flatMap fun r =>
    if r.interest.get p then
      if isNoPort (r.interest.set p false) then [] else [{ r with interest := r.interest.set p false }]
    else [r]

/-- The journal holds at most 128 records, each with interest, and only OPEN sessions are interested (R124). -/
def JournalWf (s : State) : Prop :=
  s.journal.length ≤ Config.journalCapacity ∧
    ∀ r ∈ s.journal, isNoPort r.interest = false ∧ ∀ p, r.interest.get p = true → s.isOpen p = true

/-- The records that a happening appends stand at the newest end and carry its time count; those before them are records
of before, in their order (R127: timestamps never decrease). -/
def StampedNow (s t : State) : Prop :=
  ∃ kept new, t.journal = kept ++ new ∧ (∀ r ∈ new, r.time = s.timeCount) ∧
    (kept.map fun r => (r.seq, r.time, r.body)).Sublist (s.journal.map fun r => (r.seq, r.time, r.body))

/-- Only port `p` changed, by `f`; the Arbiter's pointer stays. -/
def OnlyPort (s t : State) (p : Port) (f : PortUnit → PortUnit) : Prop :=
  t.port p = f (s.port p) ∧ (∀ q, q ≠ p → t.port q = s.port q) ∧ t.servedLast = s.servedLast

/-- Nothing but the ports changed. -/
def BesidePorts (s t : State) : Prop :=
  SameSessions s t ∧ SameTables s t ∧ SameField s t ∧ SameJournal s t ∧ SameRest s t

/-! ### Leases (R8, R13, R15, R66, R84, R88) -/

/-- A resource is available to a claim of port `p` (R13). -/
def Available (s : State) (p : Port) (adopt : Bool) (r : Resource) : Prop :=
  (s.entry r).state = .free ∨ s.holds p r = true ∨ (adopt = true ∧ ∃ q, (s.entry r).state = .orphaned q)

/-- The generation after a grant (R8). -/
def generationAfter (g : BitVec 16) : BitVec 16 := if g = 65535 then 1 else g + 1

/-- The lease entry of a resource is `x`, or a queued claim to which it was available with that entry has taken it in
this happening (R66, R67). -/
def EntryIsOrGranted (s t : State) (r : Resource) (x : LeaseEntry) : Prop :=
  t.entry r = x ∨
    ∃ w ∈ s.waitList, w ∉ t.waitList ∧ inSet w.set r = true ∧
      (x.state.holder = none ∧ ((∃ q, x.state = .orphaned q) → w.adopt = true)) ∧
      t.entry r = { x with state := .held w.port, generation := generationAfter x.generation }

/-- Each queued claim waits for at least one resource (R62). -/
def Blocked (s : State) : Prop :=
  ∀ w ∈ s.waitList, ∃ r, inSet w.set r = true ∧ ¬Available s w.port w.adopt r

/-- A line cell whose drive was decided again: a changed drive enters the monitor (R84, R88). -/
def decidedAgain (t : State) (l : Line) (c : LineCell) : LineCell :=
  if t.effectiveDrive l = c.drive then c
  else
    { c with
      drive := t.effectiveDrive l
      monitor := match t.effectiveDrive l with
        | .low => .settling ((t.profile.filterCount[l]).toNat + 2)
        | .high => .settling ((t.profile.filterCount[l]).toNat + 2)
        | .float => .idle }

/-- A line cell whose monitor was entered whatever its drive was (R88, R94, R95, R152). -/
def enteredAnew (t : State) (l : Line) (c : LineCell) : LineCell :=
  { c with
    drive := t.effectiveDrive l
    monitor := match t.effectiveDrive l with
      | .low => .settling ((t.profile.filterCount[l]).toNat + 2)
      | .high => .settling ((t.profile.filterCount[l]).toNat + 2)
      | .float => .idle }

/-- A line cell seeded from a failsafe value (R15). -/
def seeded (f : Failsafe) (c : LineCell) : LineCell :=
  match f with
  | .driveLow => { c with commanded := .low, direction := .output }
  | .driveHigh => { c with commanded := .high, direction := .output }
  | .float => { c with direction := .input }

/-- Lines and engines of resources whose generation did not rise are as they were; a line newly granted is seeded and
its drive decided again, and an engine newly granted keeps all but its pin (R15, R16). -/
def OnlyGrantsInField (s t : State) : Prop :=
  (∀ l, t.line l =
      if (t.entry (lineResource l)).generation = (s.entry (lineResource l)).generation then s.line l
      else decidedAgain t l (seeded (s.entry (lineResource l)).failsafe (s.line l))) ∧
    ∀ e, t.engine e =
      if (t.entry (engineResource e)).generation = (s.entry (engineResource e)).generation then s.engine e
      else { s.engine e with out := t.engineDrive e }

/-- A session record beside its held count and its journal fields. -/
def besideCounts (x : Session) : Session := { sessionFrame x with heldCount := 0 }

/-- Of the session records, held counts, journal counters and delivery states moved, and the keepalive timer of port
`p` was restarted. -/
def RestartedBesideCounts (s t : State) (p : Port) : Prop :=
  besideCounts (t.session p) = besideCounts (restarted (s.session p)) ∧
    ∀ q, q ≠ p → besideCounts (t.session q) = besideCounts (s.session q)

/-- The value after one more step of a counter of ids (R46, R63). -/
def nextValue (n : Byte) : Byte := if n = 255 then 1 else n + 1

/-- The counter was advanced once, and then past each id in use, to `id` (R46, R63). -/
def Allocated (counter : Byte) (used : List Byte) (id : Byte) : Prop :=
  ∃ k : Nat, k ≤ used.length ∧ id = nextValue^[k + 1] counter ∧ id ∉ used ∧ ∀ j, j < k → nextValue^[j + 1] counter ∈ used

/-- A queued claim was granted (R67, R68): its entry is gone, what its port did not hold is HELD by it under the next
generation with its line seeded, the held count rises by as many, and CLAIM_SETTLED(GRANTED) is offered to the claimant. -/
def QueuedGrant (s t : State) (w : WaitEntry) : Prop :=
  t.waitList = s.waitList.filter (fun x => decide (x.ticket ≠ w.ticket)) ∧
    (∀ r, t.entry r =
      if inSet w.set r && !s.holds w.port r then
        { s.entry r with state := .held w.port, generation := generationAfter (s.entry r).generation }
      else s.entry r) ∧
    OnlyGrantsInField s t ∧
    Appended s t (fun q => decide (q = w.port)) s.timeCount (.claimSettled w.port w.ticket .granted w.set) ∧
    (t.session w.port).heldCount =
      (s.session w.port).heldCount + ((List.finRange 36).filter fun r => inSet w.set r && !s.holds w.port r).length ∧
    (∀ q, q ≠ w.port → (t.session q).heldCount = (s.session q).heldCount) ∧
    (∀ q, besideCounts (t.session q) = besideCounts (s.session q)) ∧ t.offers = s.offers ∧
    t.offerCounter = s.offerCounter ∧ t.ticketCounter = s.ticketCounter ∧ SameRest s t ∧ SamePorts s t

/-! ### The end of a session (R35, R37, R38) -/

/-- Nothing of port `p` is left: it holds nothing, is party to no offer, waits for nothing, and no record carries its
session's interest. -/
def Gone (t : State) (p : Port) : Prop :=
  (∀ r, t.holds p r = false) ∧ (∀ o ∈ t.offers, o.offerer ≠ p ∧ o.target ≠ p) ∧ (∀ w ∈ t.waitList, w.port ≠ p) ∧
    (∀ r ∈ t.journal, r.interest.get p = false) ∧ (t.session p).heldCount = 0

/-- Every engine that port `p` held is IDLE. -/
def EnginesStopped (s t : State) (p : Port) : Prop :=
  ∀ e, s.holds p (engineResource e) = true → (t.engine e).state = .idle

/-- The lease entry of a resource after steps 1 and 2 of a session's end: what the port held takes the state `after`,
what was offered to it returns to its offerer (R35, R37). -/
def entryAfterEnd (s : State) (p : Port) (after : LeaseState) (r : Resource) : LeaseEntry :=
  { s.entry r with
    state := match (s.entry r).state with
      | .held q => if q = p then after else .held q
      | .offered q id =>
        if q = p then after
        else match s.offer id with
          | some o => if o.target = p then .held q else .offered q id
          | none => .offered q id
      | .free => .free
      | .orphaned q => .orphaned q }

/-- What the end of the session of port `p` leaves, with `after` as the state of what it held (R35, R37, R38). -/
def Ended (s t : State) (p : Port) (after : LeaseState) : Prop :=
  Gone t p ∧ (∀ r, EntryIsOrGranted s t r (entryAfterEnd s p after r)) ∧ EnginesStopped s t p ∧
    (∀ q, q ≠ p → besideCounts (t.session q) = besideCounts (s.session q)) ∧
    t.offers = s.offers.filter (fun o => decide (o.offerer ≠ p ∧ o.target ≠ p)) ∧ t.offerCounter = s.offerCounter ∧
    t.ticketCounter = s.ticketCounter ∧ (∀ w ∈ t.waitList, w ∈ s.waitList) ∧
    (∀ l, s.holds p (lineResource l) = true → (t.line l).drive = t.effectiveDrive l) ∧
    (∀ l, s.holds p (lineResource l) = true →
      (t.entry (lineResource l)).generation = (s.entry (lineResource l)).generation →
      t.line l = decidedAgain t l (s.line l)) ∧
    (∀ l, s.holds p (lineResource l) = false →
      (t.entry (lineResource l)).generation = (s.entry (lineResource l)).generation → t.line l = s.line l) ∧
    (∀ e, s.holds p (engineResource e) = true →
      t.engine e = { s.engine e with state := .idle, out := t.engineDrive e }) ∧
    (∀ e, s.holds p (engineResource e) = false →
      (t.entry (engineResource e)).generation = (s.entry (engineResource e)).generation → t.engine e = s.engine e) ∧
    SameRest s t

/-! ### Samples (R77, R78, R89, R90) -/

/-- The filtered level and run count after a sample that reads `pin` (R78). -/
def filterResult (count : BitVec 4) (c : LineCell) (pin : Level) : Level × Nat :=
  if pin = c.filtered then (c.filtered, 0)
  else if c.run + 1 = (if count = 0 then 1 else count.toNat) then (pin, 0)
  else (c.filtered, c.run + 1)

/-- The monitor after a sample that leaves the line at a filtered level (R89, R90). -/
def monitorResult (c : LineCell) (filtered : Level) : Monitor :=
  match c.monitor, driveLevel c.drive with
  | .idle, _ => .idle
  | .settling n, some d => if n ≤ 1 then (if filtered = d then .watching else .faulted) else .settling (n - 1)
  | .settling n, none => if n ≤ 1 then .idle else .settling (n - 1)
  | .watching, some d => if filtered ≠ c.filtered ∧ filtered ≠ d then .faulted else .watching
  | .faulted, some d => if filtered ≠ c.filtered ∧ filtered = d then .watching else .faulted
  | .watching, none => .watching
  | .faulted, none => .faulted

/-- The level on the pin of a line in a sample. -/
def pinLevel (levels : LineSet) (l : Line) : Level := if levels.getLsbD l then .high else .low

/-- The filtered level of a line after a sample (R78). -/
def sampledLevel (s : State) (levels : LineSet) (l : Line) : Level :=
  (filterResult s.profile.filterCount[l] (s.line l) (pinLevel levels l)).1

/-- The sample accepts an edge on the line (R78, R79). -/
def EdgeAccepted (s : State) (levels : LineSet) (l : Line) : Prop := sampledLevel s levels l ≠ (s.line l).filtered

/-- An edge on the line reaches the engine: its configuration names the line as input or gate (R79). -/
def EdgeReaches (g : Engine) (l : Line) : Prop := ∃ c, g.config = some c ∧ (c.input = some l ∨ c.gate = some l)

/-- The LINE_EDGE record of an edge to a level, for the sessions subscribed to it (R79 step 1). -/
def edgeRecord (s : State) (l : Line) (level : Level) : (Port → Bool) × RecordBody :=
  (fun p => match s.openFields p with
    | none => false
    | some o => if level = .high then o.rise.getLsbD l else o.fall.getLsbD l, .lineEdge l level)

/-- The LINE_FAULT record of a line that is sensed at a level, for its holder, or for every session without one (R91);
none for a line that floats or agrees with its drive. -/
def faultRecord (s : State) (l : Line) (sensed : Level) : List ((Port → Bool) × RecordBody) :=
  match driveLevel (s.line l).drive with
  | none => []
  | some d =>
    if sensed = d then []
    else [(fun p => s.holds p (lineResource l) || !controlled (s.entry (lineResource l)).state, .lineFault l d sensed)]

/-! ### Engines (R99) -/

/-- No end of an engine's phase or limit waits to be taken: what reaches the engine acts on it as it stands (R99). -/
def NoEndDue (s : State) (e : EngineNo) : Prop := s.endDue e = false

/-- The tick that the engine takes next is the one that reaches its end, and it is the present count. -/
def EndNow (s : State) (e : EngineNo) : Prop :=
  s.inReset = none ∧ (s.engine e).taken + 1 = s.timeCount ∧ engineEnd (s.engine e).state = some s.timeCount

/-- No engine lags the time count by more than the tick of the present count (R99, R127). -/
def TicksNear (s : State) : Prop := ∀ e, (s.engine e).taken = s.timeCount ∨ (s.engine e).taken + 1 = s.timeCount

/-- Engine `e` alone changed among the engines, and no line cell. -/
def OnlyEngine (s t : State) (e : EngineNo) : Prop :=
  t.lines = s.lines ∧ ∀ k, k ≠ e → t.engine k = s.engine k

/-- The holder's port of an engine. -/
def holderIs (s : State) (e : EngineNo) (p : Port) : Bool := s.holds p (engineResource e)

/-- Value and aux of a run that is ended from outside (R115). -/
def partialResult (g : Engine) (mode : Mode) (now : Count) : Nat × Nat :=
  match mode with
  | .pulseTrain => (g.pulses, 0)
  | .delayedPulse => (g.pulses, g.ignored)
  | .measureWidth => (match g.state with
    | .measuring opened _ => (now - opened).toNat
    | .idle => 0
    | .armed _ => 0
    | .timed _ _ => 0
    | .gated _ _ => 0, 0)
  | .measurePeriod => (match g.state with
    | .measuring opened _ => (now - opened).toNat
    | .idle => 0
    | .armed _ => 0
    | .timed _ _ => 0
    | .gated _ _ => 0, 0)
  | .countEdges => (g.edges, 0)

/-- The records of a happening that ends the runs of engines from outside: one for each engine of a list that is not
IDLE, with the partial value of its run, for its own ports (R115). -/
def runsEnded (s : State) (outcome : EngineOutcome) (ps : EngineNo → Port → Bool) (es : List EngineNo) :
    List ((Port → Bool) × RecordBody) :=
  es.filterMap fun e =>
    if (s.engine e).state = .idle then none
    else
      (s.engine e).config.map fun c =>
        (ps e,
          .engineResult e c.mode outcome (partialResult (s.engine e) c.mode s.timeCount).1
            (partialResult (s.engine e) c.mode s.timeCount).2)

/-- The STOPPED records of a happening that takes a set of resources out of the hands of port `p`, in ascending engine
number (R22, R37, R116). -/
def stopResults (s : State) (p : Port) (set : ResourceSet) : List ((Port → Bool) × RecordBody) :=
  runsEnded s .stopped (fun _ q => decide (q = p)) ((List.finRange 4).filter fun e => inSet set (engineResource e))

/-- The FORCED records of an assertion, each for its engine's holder, in ascending engine number (R94 step 2, R118). -/
def forcedResults (s : State) : List ((Port → Bool) × RecordBody) := runsEnded s .forced (holderIs s) (List.finRange 4)

/-- The time count at which the measurement of an engine opened (R107, R108). -/
def openingOf : EngineState → Option Count
  | .measuring opening _ => some opening
  | .idle => none
  | .armed _ => none
  | .timed _ _ => none
  | .gated _ _ => none

/-- The DONE record that an engine makes of an edge on its input line when no end is due: of a width or a period that is
being measured (R107, R108). -/
def edgeResult (s : State) (l : Line) (level : Level) (e : EngineNo) : Option ((Port → Bool) × RecordBody) :=
  match (s.engine e).config, openingOf (s.engine e).state with
  | some c, some opening =>
    if c.input = some l ∧
        (c.mode = .measureWidth ∨ c.mode = .measurePeriod ∧ c.edge = if level = .high then .rising else .falling) then
      some (holderIs s e, .engineResult e c.mode .done (s.timeCount - opening).toNat 0)
    else none
  | some _, none => none
  | none, _ => none

/-- The records that a sample makes of one line, in their order: of an accepted edge its LINE_EDGE record, a LINE_FAULT
when the monitor was watching, and the engines' results in ascending number; then a LINE_FAULT when the settle count
ends and the line differs from its drive (R79, R89, R90). -/
def sampleRecords (s : State) (levels : LineSet) (l : Line) : List ((Port → Bool) × RecordBody) :=
  let level := sampledLevel s levels l
  (if level = (s.line l).filtered then []
    else
      edgeRecord s l level :: (if (s.line l).monitor = .watching then faultRecord s l level else [])
        ++ (List.finRange 4).filterMap (edgeResult s l level))
    ++ match (s.line l).monitor with
      | .settling n => if n ≤ 1 then faultRecord s l level else []
      | .idle => []
      | .watching => []
      | .faulted => []

/-- An engine that has taken the tick of this count: one more elapsed tick, saturating (R99). -/
def ticked (g : Engine) (now : Count) : Engine :=
  { g with taken := now, elapsed := if g.elapsed < 4294967295 then g.elapsed + 1 else g.elapsed }

/-- The time count a number of ticks later (R99). -/
def later (t : Count) (n : Nat) : Count := t + BitVec.ofNat 32 n

/-- An engine's happening: besides the engine, the journal and what its records move, nothing changed. -/
def EngineHappening (s t : State) (e : EngineNo) : Prop :=
  OnlyEngine s t e ∧ OnlyJournalMoved s t ∧ SameTables s t ∧ SameRest s t ∧ SamePorts s t

/-- The result record of an engine, offered to its holder's session (R115). -/
def ResultMade (s t : State) (e : EngineNo) (mode : Mode) (outcome : EngineOutcome) (value aux : Nat) (time : Count) : Prop :=
  Appended s t (holderIs s e) time (.engineResult e mode outcome value aux)

/-- No record was made. -/
def NoRecord (s t : State) : Prop := t.journal = s.journal ∧ t.nextSeq = s.nextSeq

/-! ### The records of a session's end (R35, R37, R38, R56) -/

/-- The OFFER_SETTLED(CANCELLED) records of a session's end: for the offers it made, to their targets, and then for those
made to it, to their offerers, each in ascending offer id (R35 step 2, R56). -/
def cancellations (s : State) (p : Port) : List ((Port → Bool) × RecordBody) :=
  ((s.offers.filter fun o => decide (o.offerer = p)).map fun o =>
      (fun q => decide (q = o.target), .offerSettled o.offerer o.id .cancelled))
    ++ ((s.offers.filter fun o => decide (o.target = p)).map fun o =>
      (fun q => decide (q = o.offerer), .offerSettled o.offerer o.id .cancelled))

/-- The records of a session's end before its interest is removed: the STOPPED records of a close, then the cancellations
(R35 steps 1 and 2, R37). -/
def endRecords (s : State) (p : Port) (closes : Bool) : List ((Port → Bool) × RecordBody) :=
  (if closes then stopResults s p (s.heldSet p) else []) ++ cancellations s p

/-- The journal after steps 1 to 5 of the end of the session of port `p`: the STOPPED records of a close, the cancellations,
then the session's interest removed from all of them and all before, then LEASE_LOST for a lapse or a replace that orphaned
something (R35, R37, R38). -/
def endJournal (s : State) (p : Port) (closes : Bool) : List Record × Seq :=
  let told := withRecords s.isOpen (s.journal, s.nextSeq) s.timeCount (endRecords s p closes)
  let left := (withoutInterest p told.1, told.2)
  if closes = true ∨ s.heldSet p = 0 then left
  else withRecord s.isOpen left (fun q => decide (q ≠ p)) s.timeCount (.leaseLost p (s.heldSet p))

/-- The journal after the end of the session of port `p` in which no queued claim was granted. -/
def EndRecorded (s t : State) (p : Port) (closes : Bool) : Prop :=
  t.waitList = s.waitList.filter (fun w => decide (w.port ≠ p)) → (t.journal, t.nextSeq) = endJournal s p closes

/-- The journal counters that the end of the session of port `p` leaves in its record. They keep their values, but for
the STOPPED records of a close, which are given to it, and for the records in which it was interested that made room for
those of its end, which are lost (R35, R37, R128, R129). -/
def EndCounted (s t : State) (p : Port) (closes : Bool) : Prop :=
  let evicted :=
    ((s.journal.take (s.journal.length + (endRecords s p closes).length - 128)).filter fun r => r.interest.get p).length
  (t.session p).acknowledged = (s.session p).acknowledged ∧
    (t.session p).given =
      (satInc 4294967295)^[if closes then (stopResults s p (s.heldSet p)).length else 0] (s.session p).given ∧
    (JournalWf s →
      (t.session p).lost = (satInc 4294967295)^[evicted] (s.session p).lost ∧
      (t.session p).unreportedLost = (satInc 65535)^[evicted] (s.session p).unreportedLost)

/-! ### What the steps before an examination leave (R14, R22, R35, R52, R66) -/

/-- Beside the ports, `t` is the examination of the wait list of `u`, which grants oldest first and records every grant
(R66 to R68). -/
def ExaminedTo (u t : State) : Prop := t = { u.examine with ports := t.ports }

/-- Beside the ports, and the record and the attention output of port `p`, `t` is the examination of the wait list of `u`
(R35 steps 6 and 7). -/
def ExaminedBeside (u t : State) (p : Port) : Prop :=
  t = { u.examine with ports := t.ports, sessions := t.sessions, attn := t.attn } ∧
    ∀ q, q ≠ p → t.session q = u.examine.session q ∧ t.attn.get q = u.examine.attn.get q

/-- What a CLAIM granted at once leaves before the examination (R14, R15). -/
def ClaimLeaves (s u : State) (p : Port) (set : ResourceSet) : Prop :=
  (∀ r, u.entry r =
      if inSet set r && !s.holds p r then
        { s.entry r with state := .held p, generation := generationAfter (s.entry r).generation }
      else s.entry r) ∧
    OnlyGrantsInField s u ∧ SameJournal s u ∧
    u.session p =
      { restarted (s.session p) with
        heldCount :=
          (s.session p).heldCount + ((List.finRange 36).filter fun r => inSet set r && !s.holds p r).length } ∧
    (∀ q, q ≠ p → u.session q = s.session q) ∧ u.waitList = s.waitList ∧ u.ticketCounter = s.ticketCounter ∧
    u.offers = s.offers ∧ u.offerCounter = s.offerCounter ∧ SameRest s u

/-- What steps 1 to 3 of a RELEASE leave (R22). -/
def ReleaseLeaves (s u : State) (p : Port) (set : ResourceSet) : Prop :=
  (u.journal, u.nextSeq) = withRecords s.isOpen (s.journal, s.nextSeq) s.timeCount (stopResults s p set) ∧
    (∀ r, u.entry r = if inSet set r then { s.entry r with state := .free } else s.entry r) ∧
    (∀ l, u.line l = if inSet set (lineResource l) then decidedAgain u l (s.line l) else s.line l) ∧
    (∀ e, u.engine e =
      if inSet set (engineResource e) then { s.engine e with state := .idle, out := u.engineDrive e } else s.engine e) ∧
    sessionFrame (u.session p) =
      { sessionFrame (restarted (s.session p)) with heldCount := (s.session p).heldCount - (members set).length } ∧
    (∀ q, q ≠ p → sessionFrame (u.session q) = sessionFrame (s.session q)) ∧ u.waitList = s.waitList ∧
    u.ticketCounter = s.ticketCounter ∧ u.offers = s.offers ∧ u.offerCounter = s.offerCounter ∧ SameRest s u

/-- What the steps of an ACCEPT before the examination leave (R52). -/
def AcceptLeaves (s u : State) (p : Port) (o : Offer) : Prop :=
  Appended s u (fun q => decide (q = o.offerer)) s.timeCount (.offerSettled o.offerer o.id .accepted) ∧
    (∀ r, u.entry r =
      if inSet o.set r then
        { s.entry r with state := .held p, generation := generationAfter (s.entry r).generation }
      else s.entry r) ∧
    (∀ l, u.line l = if inSet o.set (lineResource l) then decidedAgain u l (s.line l) else s.line l) ∧
    (∀ e, u.engine e =
      if inSet o.set (engineResource e) then { s.engine e with out := u.engineDrive e } else s.engine e) ∧
    sessionFrame (u.session p) =
      { sessionFrame (restarted (s.session p)) with heldCount := (s.session p).heldCount + (members o.set).length } ∧
    sessionFrame (u.session o.offerer) =
      { sessionFrame (s.session o.offerer) with
        heldCount := (s.session o.offerer).heldCount - (members o.set).length } ∧
    (∀ q, q ≠ p → q ≠ o.offerer → sessionFrame (u.session q) = sessionFrame (s.session q)) ∧
    u.offers = s.offers.filter (fun x => decide (x.id ≠ o.id)) ∧ u.offerCounter = s.offerCounter ∧
    u.waitList = s.waitList ∧ u.ticketCounter = s.ticketCounter ∧ SameRest s u

/-- What steps 1 to 5 of the end of the session of port `p` leave, with `after` as the state of what it held
(R35, R37, R38). -/
def EndLeaves (s u : State) (p : Port) (after : LeaseState) (closes : Bool) : Prop :=
  (u.journal, u.nextSeq) = endJournal s p closes ∧ (∀ r, u.entry r = entryAfterEnd s p after r) ∧
    (∀ l, u.line l = if s.holds p (lineResource l) then decidedAgain u l (s.line l) else s.line l) ∧
    (∀ e, u.engine e =
      if s.holds p (engineResource e) then { s.engine e with state := .idle, out := u.engineDrive e } else s.engine e) ∧
    u.isOpen p = true ∧ (u.session p).heldCount = 0 ∧
    (∀ q, q ≠ p → sessionFrame (u.session q) = sessionFrame (s.session q)) ∧
    u.offers = s.offers.filter (fun o => decide (o.offerer ≠ p ∧ o.target ≠ p)) ∧ u.offerCounter = s.offerCounter ∧
    u.waitList = s.waitList.filter (fun w => decide (w.port ≠ p)) ∧ u.ticketCounter = s.ticketCounter ∧ SameRest s u

/-! ### Frames at a port (R156, R157) -/

/-- The bytes are a whole request frame: LEN is at most 48 and exactly LEN + 6 bytes are there (R156). -/
def WholeFrame (bytes : List Byte) : Prop :=
  5 < bytes.length ∧ (byteAt bytes 4).toNat ≤ 48 ∧ bytes.length = (byteAt bytes 4).toNat + 6

/-- The frame that the bytes of a whole frame spell (R172). -/
def spelled (bytes : List Byte) : Frame :=
  { tag := byteAt bytes 0, code := byteAt bytes 1, session := byteAt bytes 2 ++ byteAt bytes 3
    payload := (bytes.drop 5).take (byteAt bytes 4).toNat }

/-- The CHECK byte of a whole frame is the CRC of the bytes before it (R173). -/
def GoodCheck (bytes : List Byte) : Prop := byteAt bytes (bytes.length - 1) = crc (bytes.take (bytes.length - 1))

/-- The port's state and slots after a whole frame completed that found no request PENDING: the request is PENDING, or
a CHECK_ERROR response is held (R157). -/
def completed (u : PortUnit) (bytes : List Byte) (attn force : Bool) : PortUnit :=
  if byteAt bytes (bytes.length - 1) = crc (bytes.take (bytes.length - 1)) then { u with state := .pending (spelled bytes) none }
  else
    { u with
      state := .answered
        { tag := if byteAt bytes 0 = 0xF0 ∨ byteAt bytes 0 = 0xF1 then 0 else byteAt bytes 0, status := .checkError
          overrun := u.overrunLatch, attn := attn, force := force, payload := [] }
      overrunLatch := false
      checkErrors := satInc 255 u.checkErrors }

/-! ### Reset values (R4, R28, R45, R62, R76, R93, R98, R124, R145, R147, R155, R161, R168, R171) -/

/-- The state in which a reset of a cause leaves the part, with the levels that were on its pins. -/
def AtReset (t : State) (cause : ResetCause) (pins : ResetPins) : Prop :=
  (∀ r : Resource, t.entry r =
      { state := .free, generation := 0, failsafe := if r.val < 32 then .float else .driveLow }) ∧
    (∀ p, t.session p =
      { state := .closed, number := 0, heldCount := 0, given := 0, acknowledged := 0, lost := 0, unreportedLost := 0
        previousEnd := .reset }) ∧
    t.offers = [] ∧ t.offerCounter = 0 ∧ t.waitList = [] ∧ t.ticketCounter = 0 ∧
    (∀ l, t.line l =
      { raw := pinLevel pins.lines l, run := 0, filtered := pinLevel pins.lines l, direction := .input, commanded := .low
        monitor := .idle, drive := .float }) ∧
    t.force = { asserted := decide (pins.nFsafe = .low), run := 0 } ∧
    (∀ e, (t.engine e).state = .idle ∧ (t.engine e).config = none ∧ (t.engine e).elapsed = 0 ∧ (t.engine e).pulses = 0 ∧
      (t.engine e).edges = 0 ∧ (t.engine e).ignored = 0 ∧ (t.engine e).out = .low) ∧
    t.timeCount = 0 ∧ t.profile.tickUnit = .us10 ∧ t.profile.interval = .ms1 ∧
    (∀ l : Line, t.profile.filterCount[l] = 3 ∧ t.profile.outputKind[l] = .pushPull) ∧
    t.journal = [] ∧ t.nextSeq = 1 ∧ (∀ p, t.attn.get p = false) ∧
    (∀ p, (t.port p).state = .idle ∧ (t.port p).overrunLatch = false ∧ (t.port p).checkErrors = 0 ∧
      (t.port p).overruns = 0 ∧ (t.port p).framingErrors = 0 ∧ (t.port p).resyncs = 0) ∧
    ((t.port .hp0).link = if pins.select0Low then .ignoring else .quiet) ∧ (t.port .hp0).driven = pins.select0Low ∧
    ((t.port .hp1).link = if pins.select1Low then .ignoring else .quiet) ∧ (t.port .hp1).driven = pins.select1Low ∧
    (t.port .hp2).link = .quiet ∧ (t.port .hp2).driven = false ∧ (∀ p, (t.port p).sent = [] ∧ (t.port p).acks = []) ∧
    t.servedLast = .hp2 ∧ t.resetCause = cause ∧ t.inReset = none ∧
    t.i2cAddress.toNat = 0x2C + pins.straps.toNat

/-! ### Invariants (R5, R7, R45, R62, R83, R98, R114, R124, R129, R140) -/

/-- For every OPEN session whose counters have not saturated, given equals acknowledged plus lost plus pending
(R129). -/
def CountersBalance (s : State) : Prop :=
  ∀ p, s.isOpen p = true → (s.session p).given < max32 →
    (s.session p).given = (s.session p).acknowledged + (s.session p).lost + s.pendingCount p

/-- Out of reset every attention output has the level of R140; in reset every one is deasserted (R171). -/
def AttentionExact (s : State) : Prop := ∀ p, s.attn.get p = (s.inReset.isNone && s.attentionDue p)

/-- Every holder's session is OPEN (R5). -/
def HoldersOpen (s : State) : Prop := ∀ r p, s.holds p r = true → s.isOpen p = true

/-- The held count of a session is the number of resources whose holder is its port (R7). -/
def CountsHeld (s : State) : Prop :=
  ∀ p, (s.session p).heldCount = ((List.finRange 36).filter fun r => s.holds p r).length

/-- A resource belongs to the set of an open offer of that id by that offerer. -/
def inOffer (s : State) (r : Resource) (offerer : Port) (id : Byte) : Prop :=
  ∃ o ∈ s.offers, o.id = id ∧ o.offerer = offerer ∧ inSet o.set r = true

/-- The offer table and the OFFERED entries imply each other: at most 4 offers, in ascending id, none 0; parties that
differ and are OPEN; sets that are not empty; and a resource OFFERED exactly as the one offer that names it
says (R45). -/
def OffersWf (s : State) : Prop :=
  s.offers.length ≤ Config.offerCapacity ∧ (s.offers.map Offer.id).Pairwise (· < ·) ∧
    (∀ o ∈ s.offers, o.id ≠ 0 ∧ o.target ≠ o.offerer ∧ s.isOpen o.offerer = true ∧ s.isOpen o.target = true ∧ o.set ≠ 0 ∧
      ∀ r, inSet o.set r = true → (s.entry r).state = .offered o.offerer o.id) ∧
    ∀ r p id, (s.entry r).state = .offered p id → inOffer s r p id

/-- The wait list: at most one entry of a port, distinct tickets, none 0, sets that are not empty, ports that are
OPEN, and for each entry a resource that is not available to it (R62). -/
def WaitWf (s : State) : Prop :=
  (s.waitList.map WaitEntry.port).Nodup ∧ (s.waitList.map WaitEntry.ticket).Nodup ∧
    (∀ w ∈ s.waitList, w.ticket ≠ 0 ∧ w.set ≠ 0 ∧ s.isOpen w.port = true) ∧ Blocked s

/-- An engine that is not IDLE has a holder, and nFSAFE is not asserted (R98). -/
def EnginesHeld (s : State) : Prop :=
  ∀ e, (s.engine e).state ≠ .idle → s.force.asserted = false ∧ controlled (s.entry (engineResource e)).state = true

/-- Every pin has the drive of R83 and R114; in reset every line floats and every TOn drives LOW (R171). -/
def PinsExact (s : State) : Prop :=
  (∀ l, (s.line l).drive = if s.inReset.isNone then s.effectiveDrive l else .float) ∧
    ∀ e, (s.engine e).out = if s.inReset.isNone then s.engineDrive e else .low

/-- No engine's failsafe value is FLOAT (R10). -/
def EngineFailsafes (s : State) : Prop := ∀ e, (s.entry (engineResource e)).failsafe ≠ .float

/-- The lease tables agree with one another (R5, R7, R45, R62) and with the engines (R98). -/
def LeasesWf (s : State) : Prop := HoldersOpen s ∧ CountsHeld s ∧ OffersWf s ∧ WaitWf s ∧ EnginesHeld s

/-! ### What the statements of single commands name -/

/-- The byte of a request's payload that holds flags, with the number of flags it defines. -/
def flagByte : Request → Option (Nat × Nat)
  | .status => some (0, 1)
  | .openSession => some (3, 1)
  | .claim => some (5, 2)
  | .configureEngine => some (15, 1)
  | .fetch => some (0, 1)
  | .closeSession => none
  | .ping => none
  | .time => none
  | .cancelClaim => none
  | .release => none
  | .setFailsafe => none
  | .leases => none
  | .offer => none
  | .accept => none
  | .decline => none
  | .withdraw => none
  | .setDirection => none
  | .writeLines => none
  | .readLines => none
  | .startEngine => none
  | .stopEngine => none
  | .engineStatus => none
  | .subscribe => none
  | .setAttention => none
  | .setProfile => none
  | .getProfile => none

/-- The part of a session record that an opening sets (R29, R33). -/
def opened (s t : State) (p : Port) (period threshold : Nat) : Session :=
  { state := .opened
      { period := period, remaining := period, threshold := threshold, rise := 0, fall := 0, ackPoint := t.nextSeq - 1
        mark := none }
    number := if (s.session p).number = 65535 then 1 else (s.session p).number + 1
    heldCount := 0, given := 0, acknowledged := 0, lost := 0, unreportedLost := 0, previousEnd := .none }

/-- The number of resources ORPHANED with the port as last holder. -/
def orphansOf (s : State) (p : Port) : Nat :=
  ((List.finRange 36).filter fun r => decide ((s.entry r).state = .orphaned p)).length

/-- The status of a claim stopped at a resource (Table 1-3). -/
def StoppedClaim (s : State) (p : Port) (r : Resource) (st : Status) : Prop :=
  ((∃ q, (s.entry r).state = .held q) ∧ st = .heldByOther) ∨ ((∃ q, (s.entry r).state = .orphaned q) ∧ st = .orphaned) ∨
    ∃ q id, (s.entry r).state = .offered q id ∧
      ((∃ o ∈ s.offers, o.id = id ∧ o.target = p) ∧ st = .offered ∨
        (∀ o ∈ s.offers, o.id = id → o.target ≠ p) ∧ st = .heldByOther)

/-- The failsafe value that a two-bit code names. -/
def NamesFailsafe (code : Nat) (v : Failsafe) : Prop :=
  (code = 0 ∧ v = .driveLow) ∨ (code = 1 ∧ v = .driveHigh) ∨ (code = 2 ∧ v = .float)

/-- The offer `o` has returned to its offerer: the entry is gone, its resources are HELD by the offerer and otherwise
as they were, and one OFFER_SETTLED record with the outcome was offered to the ports `ps`. -/
def Returned (s t : State) (o : Offer) (outcome : OfferOutcome) (ps : Port → Bool) : Prop :=
  t.offers = s.offers.filter (fun x => decide (x.id ≠ o.id)) ∧
    (∀ r, t.entry r = if inSet o.set r then { s.entry r with state := .held o.offerer } else s.entry r) ∧
    Appended s t ps s.timeCount (.offerSettled o.offerer o.id outcome) ∧ t.waitList = s.waitList ∧
    t.offerCounter = s.offerCounter ∧ t.ticketCounter = s.ticketCounter ∧ SameField s t ∧ SameRest s t

/-- What an assertion or a release of nFSAFE leaves beside engines, lines and journal (R94, R95). -/
def ForceMoved (s t : State) (asserted : Bool) : Prop :=
  t.force = { asserted := asserted, run := 0 } ∧ (∀ l, t.line l = enteredAnew t l (s.line l)) ∧ OnlyJournalMoved s t ∧
    SameTables s t ∧ t.timeCount = s.timeCount ∧ t.profile = s.profile ∧ SameControl s t ∧ SamePorts s t

/-- The configuration that the payload of CONFIGURE ENGINE carries, field by field (R101, R175). -/
def CarriesConfig (payload : List Byte) (c : EngineConfig) : Prop :=
  fieldAt payload 1 1 = (modeCode c.mode).toNat ∧ fieldAt payload 2 3 = c.a ∧ fieldAt payload 5 3 = c.b ∧
    fieldAt payload 8 2 = c.repeatCount ∧ byteAt payload 10 = lineCodeOrNone c.input ∧
    byteAt payload 11 = edgeCode c.edge ∧ byteAt payload 12 = lineCodeOrNone c.gate ∧
    byteAt payload 13 = levelCode c.gateLevel ∧ byteAt payload 14 = triggerCode c.trigger ∧
    byteAt payload 15 = boolCode c.rearm

/-- A configuration satisfies every entry of Table 6-2 for its mode (R100). -/
def GoodConfig (c : EngineConfig) : Prop :=
  1 ≤ c.a ∧ 1 ≤ c.b ∧
    (c.mode = .pulseTrain → c.input = none ∧ c.trigger = .command) ∧
    (c.mode = .delayedPulse → c.gate = none ∧ (c.trigger = .line ↔ c.input ≠ none)) ∧
    (c.mode = .measureWidth ∨ c.mode = .measurePeriod ∨ c.mode = .countEdges →
      c.input ≠ none ∧ c.gate = none ∧ c.trigger = .command)

/-- The state in which a run of a configuration begins (R102). -/
def begun (s : State) (c : EngineConfig) : EngineState :=
  match c.mode with
  | .pulseTrain =>
    match c.gate with
    | none => .timed .high (later s.timeCount c.a)
    | some l => if (s.line l).filtered = c.gateLevel then .timed .high (later s.timeCount c.a) else .gated .high c.a
  | .delayedPulse => if c.trigger = .command then .timed .delay (later s.timeCount c.a) else .armed none
  | .measureWidth => .armed (some (later s.timeCount c.a))
  | .measurePeriod => .armed (some (later s.timeCount c.a))
  | .countEdges => .timed .counting (later s.timeCount c.a)

/-- The engine is a DELAYED_PULSE engine with trigger COMMAND that is ARMED: a START fires it (R102). -/
def Fires (g : Engine) (c : EngineConfig) : Prop :=
  c.mode = .delayedPulse ∧ c.trigger = .command ∧ ∃ limit, g.state = .armed limit

/-- One more edge counted, saturating (R98). -/
def edgeCounted (g : Engine) : Engine :=
  { g with edges := if g.edges < 4294967295 then g.edges + 1 else g.edges }

/-- The serial distance of a sequence number from a session's acknowledgement point (R125). -/
def distance (o : OpenSession) (n : Seq) : Nat := (n - o.ackPoint).toNat

/-- An acknowledgement number lies after the acknowledgement point and not after the delivered mark (R134). -/
def GoodAck (o : OpenSession) (n : Seq) : Prop :=
  ∃ m, o.mark = some m ∧ 0 < distance o n ∧ distance o n ≤ distance o m

/-- The delivered mark after a delivery of records: the last one's number, unless the mark is later, by the distance
from the acknowledgement point; without records it stays (R136). -/
def markDelivered (o : OpenSession) (records : List Record) : Option Seq :=
  match records.getLast?, o.mark with
  | none, m => m
  | some r, none => some r.seq
  | some r, some m => if distance o r.seq < distance o m then some m else some r.seq

/-- A response's payload carries a delivery: the count, how many are still pending, the unreported loss, the mark, and
the records (R136, R177). -/
def deliveryPayload (delivered : List Record) (left lost : Nat) (mark : Seq) : List Byte :=
  bytesOfNat 1 delivered.length ++ bytesOfNat 1 left ++ bytesOfNat 2 lost ++ bytesOfNat 4 mark.toNat
    ++ delivered.flatMap recordBytes

/-- The payload of a complete profile carries every field in its range (R149, R175). -/
def LegalProfile (payload : List Byte) : Prop :=
  (byteAt payload 0).toNat ≤ 3 ∧ (byteAt payload 1).toNat ≤ 3 ∧ ∀ l : Line, (byteAt payload (2 + l.val)).toNat ≤ 15

/-- A profile is the one a payload carries, field by field (R148, R175). -/
def CarriesProfile (payload : List Byte) (x : Profile) : Prop :=
  payload.length = 38 ∧ byteAt payload 0 = tickUnitCode x.tickUnit ∧ byteAt payload 1 = intervalCode x.interval ∧
    (∀ l : Line, (byteAt payload (2 + l.val)).toNat = (x.filterCount[l]).toNat) ∧
    ∀ l : Line, (fieldAt payload 34 4).testBit l.val = true ↔ x.outputKind[l] = .openDrain

/-- No frame is arriving at the port, and no SPI transaction there is still to be judged (R164). -/
def NoFrameArriving (u : PortUnit) : Prop :=
  u.link ≠ .writing ∧ (∀ bytes, u.link ≠ .judging bytes) ∧
    ((∃ f, u.state = .pending f none) ∨ u.state = .idle ∨ ∃ r, u.state = .answered r)

/-- The port after a whole frame has completed at it: an overrun while a request is PENDING, else the completed frame
(R157). -/
def afterFrame (s : State) (p : Port) (frame : List Byte) (link : Link) : PortUnit :=
  match (s.port p).request with
  | some f =>
    { s.port p with
      state := .pending f none, overrunLatch := true, link := link
      overruns := if (s.port p).overruns < 255 then (s.port p).overruns + 1 else (s.port p).overruns }
  | none => { completed (s.port p) frame (s.attn.get p) s.force.asserted with link := link }

/-- The port after a frame was lost at it: the request or response it holds is still held, and one framing error is
counted (R158). -/
def afterLoss (u : PortUnit) : PortUnit :=
  { u with
    state := match u.state with
      | .pending f _ => .pending f none
      | .receiving _ (some r) => .answered r
      | .receiving _ none => .idle
      | .answered r => .answered r
      | .idle => .idle
    framingErrors := if u.framingErrors < 255 then u.framingErrors + 1 else u.framingErrors
    link := .quiet }

/-- The port while the bytes of a frame have arrived (R156). -/
def arriving (u : PortUnit) (bytes : List Byte) : PortState :=
  match u.state with
  | .pending f _ => .pending f (some bytes)
  | .answered r => .receiving bytes (some r)
  | .receiving _ r => .receiving bytes r
  | .idle => .receiving bytes none

/-- What a port sends to a read that begins now, before the fill (R160). -/
def sentNow (u : PortUnit) : List Byte :=
  match u.state with
  | .answered r => responseBytes r
  | .pending _ _ => [0xF0]
  | .idle => [0xF1]
  | .receiving _ (some r) => responseBytes r
  | .receiving _ none => [0xF1]

/-- The outputs of an SPI port in a transaction other than a read, with its data output driven while the select is low:
`n` bytes, each 0x00 (R164). -/
def spiZeros (selectHigh : Bool) (n : Nat) (u : PortUnit) : PortUnit :=
  { u with driven := !selectHigh, sent := List.replicate n 0 }

/-- The acknowledgements of an I2C write of `n` bytes all taken, the address first. -/
def allAcked (n : Nat) : List Bool := List.replicate (n + 1) true

/-- The bytes of the frame that is arriving at the port. -/
def arrived (u : PortUnit) : List Byte :=
  match u.state with
  | .pending _ (some bytes) => bytes
  | .receiving bytes _ => bytes
  | .pending _ none => []
  | .idle => []
  | .answered _ => []

/-- The START of a command on the I2C bus first ends the write in progress at HP2: the command does what it does on the
state in which exactly a frame has completed, a shorter one is lost, or an address probe is over (R168). -/
def I2cEndedFirst (s : State) (c : Instr) : Prop :=
  ∃ u, exec c s = exec c u ∧ BesidePorts s u ∧
    (WholeFrame (arrived (s.port .hp2)) →
      OnlyPort s u .hp2 (fun x => afterFrame s .hp2 (arrived x) .quiet)) ∧
    (arrived (s.port .hp2) ≠ [] →
      ((arrived (s.port .hp2)).length < 5 ∨
        (arrived (s.port .hp2)).length < (byteAt (arrived (s.port .hp2)) 4).toNat + 6) → OnlyPort s u .hp2 afterLoss) ∧
    (NoFrameArriving { s.port .hp2 with link := .quiet } → OnlyPort s u .hp2 (fun x => { x with link := .quiet }))

/-- The port after an SPI transaction of it was judged a framing error: one is counted, and the port's state, slots and
latch are as they were (R164). -/
def afterFailedStart (u : PortUnit) : PortUnit :=
  { u with framingErrors := if u.framingErrors < 255 then u.framingErrors + 1 else u.framingErrors }

/-- The port after a resync of it (R167). -/
def afterResync (u : PortUnit) : PortUnit :=
  { u with
    state := .idle, overrunLatch := false, resyncs := if u.resyncs < 255 then u.resyncs + 1 else u.resyncs }

/-- The select of a command at an SPI port first rises on the transaction in progress there: the command does what it does on
the state in which the frame of a write is lost, or a transaction still to be judged is counted, and the data output is
undriven (R158, R164, R165). -/
def SpiEndedFirst (s : State) (p : Port) (c : Instr) : Prop :=
  ∃ u, exec c s = exec c u ∧ BesidePorts s u ∧
    ((s.port p).link = .writing → OnlyPort s u p (fun x => { afterLoss x with driven := false })) ∧
    ∀ bytes, (s.port p).link = .judging bytes →
      OnlyPort s u p (fun x => { afterFailedStart x with link := .quiet, driven := false })

end Sys2Proof.Safety
end

