-- ==== Sys2Proof/Certificates/Slice0/Obligations.lean ====
section
/-! DEFINITION. The statements for the provers: what the manual's numbered rules say of the hub's commands. -/

open Sys2Proof Sys2Proof.Machine Sys2Proof.Safety

/-! ### The step and the path of a request (chapter 9) -/

/-- A step runs the command at the front of the queue on the state with the queue's rest. -/
def Obligations.StepRunsFrontCommand : Prop :=
  ∀ (c : Instr) (rest : List Instr) (s : State), s.pending = c :: rest → step s = exec c { s with pending := rest }

/-- The model's choice (log entry 1): with no command waiting, a part in reset stands still; otherwise the Arbiter's
next request is taken, or one millisecond passes for every millisecond timer, and the happenings of the timers that
run out begin to wait. -/
def Obligations.IdleStepLetsTimePass : Prop :=
  ∀ s : State, s.pending = [] →
    ∃ t, step s = .next t ∧
      (s.inReset ≠ none → t = s) ∧
      (∀ p f, s.taking p = some f →
        ∃ c, t = { s with pending := [c] } ∧ (∀ rq, f.code = requestCode rq → c = commandOf p rq) ∧
          ((∀ rq, f.code ≠ requestCode rq) → c = .unknownCodeRequest p)) ∧
      (s.inReset = none → (∀ p, (s.port p).request = none) →
        (∀ p o, s.openFields p = some o →
          t.openFields p = some { o with remaining := o.remaining - 1 } ∧ (Instr.lapse p ∈ t.pending ↔ o.remaining ≤ 1)) ∧
        t.offers = s.offers.map (fun o => { o with remaining := o.remaining - 1 }) ∧
        (∀ o ∈ s.offers, o.remaining ≤ 1 → Instr.offerExpiry o.id ∈ t.pending) ∧
        t.waitList = s.waitList.map (fun w => { w with remaining := w.remaining - 1 }) ∧
        (∀ w ∈ s.waitList, w.remaining ≤ 1 → Instr.claimExpiry w.ticket ∈ t.pending) ∧
        t.leases = s.leases ∧ SameField s t ∧ SameJournal s t ∧ t.timeCount = s.timeCount ∧ t.force = s.force ∧
        t.profile = s.profile)

/-- Every command completes in every state, and leaves the queue alone (that no command stops the part is the model's
inference: the manual names no stop, log entry 13). -/
def Obligations.EveryCommandCompletes : Prop :=
  ∀ (c : Instr) (s : State), ∃ t, exec c s = .next t ∧ t.pending = s.pending

/-- While a reset lasts the part makes no happenings: every command but those of the reset leaves the state as it is.
And the model's choice (log entry 4): a request command that does not fit the request the Arbiter takes next from its
port does so too. -/
def Obligations.CommandsThatDoNothing : Prop :=
  (∀ (c : Instr) (s : State), s.inReset ≠ none → (∀ ev, c ≠ .reset ev) → (∀ pins, c ≠ .resetEnd pins) →
    exec c s = .next s) ∧
  ∀ (s : State) (rq : Request) (p : Port), (∀ f, s.taking p = some f → f.code ≠ requestCode rq) →
    exec (commandOf p rq) s = .next s

/-- The Arbiter takes the request of the first PENDING port after the one it served last, and of no other. -/
def Obligations.ArbiterTakesInTurn : Prop :=
  ∀ s : State, s.inReset = none → (∃ p, (s.port p).request ≠ none) →
    ∃ p f, s.taking p = some f ∧ (s.port p).request = some f ∧ (∀ q g, s.taking q = some g → q = p) ∧
      ∀ q, q ≠ p → (s.port q).request ≠ none → looksBefore s.servedLast p < looksBefore s.servedLast q

/-- The session check of every request but STATUS, TIME and OPEN SESSION: refused, the request has no effect beside its
answer; passed, the keepalive timer is at its full period again; and a PING that passes does nothing more. -/
def Obligations.SessionCheckAndPing : Prop :=
  ∀ (s : State) (rq : Request) (p : Port) (f : Frame), rq ≠ .status → rq ≠ .time → rq ≠ .openSession → Ready s rq p f →
    (∀ st, RefusedBySession s p f st →
      ∃ t, exec (commandOf p rq) s = .next t ∧ Answered s t p f st [] ∧ NothingBeside s t) ∧
    (Passes s p f →
      ∃ t, exec (commandOf p rq) s = .next t ∧
        (rq ≠ .closeSession → ∀ o, s.openFields p = some o →
          ∃ o', t.openFields p = some o' ∧ o'.period = o.period ∧ o'.remaining = o.period) ∧
        (rq = .ping → Answered s t p f .ok [] ∧ OnlyAnswered s t p))

/-- A wrong length or a forbidden tag is BAD_REQUEST with no effect, an unknown code is too, and a flag byte with a bit
that no table defines is BAD_ARGUMENT (for STATUS the model's reading of R174, log entry 15); so is a SET DIRECTION whose
set names a number above 35, whatever engines it names beside it (that it then names no engine is the model's choice,
log entry 20). -/
def Obligations.MalformedRequestsRefused : Prop :=
  (∀ (s : State) (rq : Request) (p : Port) (f : Frame), s.taking p = some f → f.code = requestCode rq →
    (f.payload.length ≠ requestLength rq ∨ f.tag = 0xF0 ∨ f.tag = 0xF1) →
    ∃ t, exec (commandOf p rq) s = .next t ∧ Answered s t p f .badRequest [] ∧ NothingBeside s t) ∧
  (∀ (s : State) (p : Port) (f : Frame), s.taking p = some f → (∀ rq, f.code ≠ requestCode rq) →
    ∃ t, exec (.unknownCodeRequest p) s = .next t ∧ Answered s t p f .badRequest [] ∧ NothingBeside s t) ∧
  (∀ (s : State) (p : Port) (f : Frame), Ready s .setDirection p f → Passes s p f → 2 ^ 36 ≤ fieldAt f.payload 0 5 →
    ∃ t, exec (.setDirection p) s = .next t ∧ Answered s t p f .badArgument [] ∧ OnlyAnswered s t p) ∧
  ∀ (s : State) (rq : Request) (p : Port) (f : Frame), Ready s rq p f → (rq ≠ .status → rq ≠ .openSession → Passes s p f) →
    ∀ at_ k, flagByte rq = some (at_, k) → 2 ^ k ≤ (byteAt f.payload at_).toNat →
    ∃ t, exec (commandOf p rq) s = .next t ∧ Answered s t p f .badArgument [] ∧
      (if rq = .status ∨ rq = .openSession then NothingBeside s t else OnlyAnswered s t p)

/-! ### Sessions (chapter 2) -/

/-- STATUS needs no session and reports the part as it stands; CLEAR zeroes the four counters of its port after their
values are placed, and nothing else changes. -/
def Obligations.StatusReported : Prop :=
  ∀ (s : State) (p : Port) (f : Frame), Ready s .status p f → ∀ clear : Bool, f.payload = [boolCode clear] →
    ∃ t, exec (.status p) s = .next t ∧ t.servedLast = p ∧ (∀ q, q ≠ p → t.port q = s.port q) ∧
      t.port p =
        placed
          (responseTo s t p f .ok
            ([resetCauseCode s.resetCause] ++ bytesOfNat 1 (s.port p).checkErrors ++ bytesOfNat 1 (s.port p).overruns
              ++ bytesOfNat 1 (s.port p).framingErrors ++ bytesOfNat 1 (s.port p).resyncs
              ++ [sessionStateCode (s.session p).state] ++ bytesOfNat 2 (s.session p).number.toNat
              ++ [endCauseCode (s.session p).previousEnd, boolCode s.force.asserted]
              ++ bytesOfNat 1 (128 - s.journal.length)
              ++ [boolCode (decide ((∀ r, (s.entry r).state = .free) ∧ s.waitList = []))]
              ++ bytesOfNat 1 (s.session p).heldCount ++ bytesOfNat 4 (s.session p).given
              ++ bytesOfNat 4 (s.session p).acknowledged ++ bytesOfNat 4 (s.session p).lost))
          (if clear then { s.port p with checkErrors := 0, overruns := 0, framingErrors := 0, resyncs := 0 }
            else s.port p) ∧
      NothingBeside s t

/-- OPEN SESSION on a record that is CLOSED or LAPSED opens a session whatever REPLACE is; arguments out of range are
BAD_ARGUMENT without effect, even on an OPEN record; with an OPEN record and REPLACE clear it is SESSION_OPEN. -/
def Obligations.SessionOpened : Prop :=
  ∀ (s : State) (p : Port) (f : Frame), Ready s .openSession p f →
    let period := fieldAt f.payload 0 2
    let threshold := fieldAt f.payload 2 1
    let legal := 10 ≤ period ∧ period ≤ 60000 ∧ 1 ≤ threshold ∧ threshold ≤ 128
    ((byteAt f.payload 3).toNat ≤ 1 → legal → s.isOpen p = false →
      ∃ t, exec (.openSession p) s = .next t ∧
        Answered s t p f .ok
          (bytesOfNat 2 (t.session p).number.toNat ++ [endCauseCode (s.session p).previousEnd] ++
            bytesOfNat 1 (orphansOf s p)) ∧
        t.session p = opened s t p period threshold ∧ (∀ q, q ≠ p → t.session q = s.session q) ∧
        (JournalWf s → t.pendingCount p = 0 ∧ t.attn.get p = false) ∧ (∀ q, q ≠ p → t.attn.get q = s.attn.get q) ∧
        t.journal = s.journal ∧ t.nextSeq = s.nextSeq ∧ SameTables s t ∧ SameField s t ∧ SameRest s t) ∧
    (¬legal → ∃ t, exec (.openSession p) s = .next t ∧ Answered s t p f .badArgument [] ∧ NothingBeside s t) ∧
    (legal → s.isOpen p = true → byteAt f.payload 3 = 0 →
      ∃ t, exec (.openSession p) s = .next t ∧ Answered s t p f .sessionOpen [] ∧ NothingBeside s t)

/-- OPEN SESSION with REPLACE on an OPEN record ends the old session as a lapse does, with the cancellations and the
LEASE_LOST record of a lapse, and opens a new one in the same happening, reporting REPLACED and the orphans that are
left. -/
def Obligations.SessionReplaced : Prop :=
  ∀ (s : State) (p : Port) (f : Frame), Ready s .openSession p f → OffersWf s → s.isOpen p = true →
    let period := fieldAt f.payload 0 2
    let threshold := fieldAt f.payload 2 1
    10 ≤ period → period ≤ 60000 → 1 ≤ threshold → threshold ≤ 128 → byteAt f.payload 3 = 1 →
      ∃ t, exec (.openSession p) s = .next t ∧
        Answered s t p f .ok (bytesOfNat 2 (t.session p).number.toNat ++ [3] ++ bytesOfNat 1 (orphansOf t p)) ∧
        t.session p = opened s t p period threshold ∧ t.attn.get p = false ∧
        ((∀ e ∈ s.reachedByEnd p, NoEndDue s e) →
          Ended s t p (.orphaned p) ∧ EndRecorded s t p false ∧
          ∃ u, EndLeaves s u p (.orphaned p) false ∧ ExaminedBeside u t p)

/-- A lapse and a CLOSE SESSION end a session: what its port held is ORPHANED (FREE at a close) or goes to a queued
claim, its engines are IDLE, its offers are cancelled, its claim and its journal interest are gone, and its record is
LAPSED (CLOSED). The parties of its offers are told of the cancellations; a lapse that orphans something is reported to
the other OPEN sessions; the STOPPED records of a close use their sequence numbers and are freed at once. The wait list is
examined (as WaitListExamined says) in the state that these steps leave. Its journal counters keep their values, but for what the records of its own end give to it and push out (the model's inference, log
entry 21; the LAPSE command is the running out of the timer itself: the model's choice, log entry 5). -/
def Obligations.SessionEnds : Prop :=
  (∀ (s : State) (p : Port), s.inReset = none → s.isOpen p = true → OffersWf s →
    ∃ t, exec (.lapse p) s = .next t ∧
      ((∀ e ∈ s.reachedByEnd p, NoEndDue s e) →
        Ended s t p (.orphaned p) ∧ EndRecorded s t p false ∧ EndCounted s t p false ∧
        ∃ u, EndLeaves s u p (.orphaned p) false ∧ ExaminedBeside u t p) ∧ SamePorts s t ∧
      (t.session p).state = .lapsed ∧ (t.session p).previousEnd = .lapsed ∧
      (t.session p).number = (s.session p).number ∧ t.attn.get p = false ∧
      (s.waitList = [] → (∃ r, s.holds p r = true) → (∃ q, q ≠ p ∧ s.isOpen q = true) →
        t.journal.getLast? =
          some
            { seq := t.nextSeq - 1, time := s.timeCount, body := .leaseLost p (s.heldSet p)
              interest := PerPort.of fun q => decide (q ≠ p) && s.isOpen q })) ∧
  ∀ (s : State) (p : Port) (f : Frame), Ready s .closeSession p f → Passes s p f → OffersWf s →
    ∃ t, exec (.closeSession p) s = .next t ∧ Answered s t p f .ok [] ∧
      ((∀ e ∈ s.reachedByEnd p, NoEndDue s e) →
        Ended s t p .free ∧ EndRecorded s t p true ∧ EndCounted s t p true ∧
        ∃ u, EndLeaves s u p .free true ∧ ExaminedBeside u t p) ∧ (t.session p).state = .closed ∧
      (t.session p).previousEnd = .closed ∧ (t.session p).number = (s.session p).number ∧ t.attn.get p = false

/-! ### Leases (chapter 1) -/

/-- LEASES reports all 36 entries in ascending number, and the offer slots; READ LINES reports, for each line in
ascending order, the raw and filtered levels, the drive of its pin, the direction and the fault flag. Both restart the
keepalive timer and change nothing else. -/
def Obligations.LeasesAndLinesRead : Prop :=
  (∀ (s : State) (p : Port) (f : Frame), Ready s .leases p f → Passes s p f →
    ∃ t, exec (.leases p) s = .next t ∧ ∃ payload, Answered s t p f .ok payload ∧ OnlyAnswered s t p ∧
      payload.length = 112 ∧
      (OffersWf s → ∀ r : Resource,
        (byteAt payload (3 * r.val)).toNat / 64 = (leaseStateCode (s.entry r).state).toNat ∧
        (byteAt payload (3 * r.val)).toNat / 16 % 4 =
          (match (s.entry r).state with
            | .free => 3
            | .held q => (portCode q).toNat
            | .offered q _ => (portCode q).toNat
            | .orphaned q => (portCode q).toNat) ∧
        (byteAt payload (3 * r.val)).toNat / 4 % 4 = (failsafeCode (s.entry r).failsafe).toNat ∧
        fieldAt payload (3 * r.val + 1) 2 = (s.entry r).generation.toNat ∧
        (∀ q id, (s.entry r).state = .offered q id →
          byteAt payload (108 + (byteAt payload (3 * r.val)).toNat % 4) = id) ∧
        ((∀ q id, (s.entry r).state ≠ .offered q id) → (byteAt payload (3 * r.val)).toNat % 4 = 0)) ∧
      ∀ i : Fin 4, byteAt payload (108 + i.val) = ((s.offers[i.val]?).map Offer.id).getD 0) ∧
  ∀ (s : State) (p : Port) (f : Frame), Ready s .readLines p f → Passes s p f →
    ∃ t, exec (.readLines p) s = .next t ∧ ∃ payload, Answered s t p f .ok payload ∧ OnlyAnswered s t p ∧
      payload.length = 32 ∧
      ∀ l : Line,
        (byteAt payload l.val).toNat =
          (levelCode (s.line l).raw).toNat + 2 * (levelCode (s.line l).filtered).toNat +
            4 * (driveCode (s.line l).drive).toNat + 16 * (directionCode (s.line l).direction).toNat +
            32 * (if (s.line l).monitor = .faulted then 1 else 0)

/-- A CLAIM of available resources is granted at once: what the port does not hold becomes HELD by it under the next
generation, with its failsafe value kept and its line seeded; what it holds already is untouched; then, if anything was
granted, the wait list is examined (as WaitListExamined says) in the state that the grant leaves, so that no queued claim
is left whose whole set is available. -/
def Obligations.ClaimGranted : Prop :=
  ∀ (s : State) (p : Port) (f : Frame), Ready s .claim p f → Passes s p f →
    ∀ set : ResourceSet, set.toNat = fieldAt f.payload 0 5 → set ≠ 0 → (byteAt f.payload 5).toNat < 4 →
      ((byteAt f.payload 5).getLsbD 1 = true → 1 ≤ fieldAt f.payload 6 2 ∧ fieldAt f.payload 6 2 ≤ 60000) →
      (∀ r, inSet set r = true → Available s p ((byteAt f.payload 5).getLsbD 0) r) →
      ∃ t, exec (.claim p) s = .next t ∧
        Answered s t p f .ok ((members set).flatMap fun r => bytesOfNat 2 (t.entry r).generation.toNat) ∧
        (∀ r, inSet set r = true →
          t.entry r =
            if s.holds p r then s.entry r
            else { s.entry r with state := .held p, generation := generationAfter (s.entry r).generation }) ∧
        (∀ r, inSet set r = false → EntryIsOrGranted s t r (s.entry r)) ∧
        OnlyGrantsInField s t ∧ t.offers = s.offers ∧ t.offerCounter = s.offerCounter ∧
        t.ticketCounter = s.ticketCounter ∧ RestartedBesideCounts s t p ∧ SameRest s t ∧
        t.waitList.Sublist s.waitList ∧ (WaitWf s → Blocked t) ∧
        (t.waitList = s.waitList →
          SameJournal s t ∧
          t.session p =
            { restarted (s.session p) with
              heldCount := (s.session p).heldCount +
                ((List.finRange 36).filter fun r => inSet set r && !s.holds p r).length } ∧
          ∀ q, q ≠ p → t.session q = s.session q) ∧
        ∃ u, ClaimLeaves s u p set ∧
          ((∃ r, inSet set r = true ∧ s.holds p r = false) → ExaminedTo u t) ∧
          ((∀ r, inSet set r = true → s.holds p r = true) → t = { u with ports := t.ports })

/-- A CLAIM with an unavailable resource changes no entry. Without WAIT it is refused with the status of the lowest
such resource, which it names; with WAIT it is queued under a new ticket, or refused with LIMIT when the port has a
queued claim. Arguments out of range are BAD_ARGUMENT. -/
def Obligations.ClaimNotGranted : Prop :=
  ∀ (s : State) (p : Port) (f : Frame), Ready s .claim p f → Passes s p f →
    let flags := byteAt f.payload 5
    let ms := fieldAt f.payload 6 2
    let legalWait := flags.getLsbD 1 = true → 1 ≤ ms ∧ ms ≤ 60000
    (flags.toNat < 4 → (2 ^ 36 ≤ fieldAt f.payload 0 5 ∨ fieldAt f.payload 0 5 = 0 ∨ ¬legalWait) →
      ∃ t, exec (.claim p) s = .next t ∧ Answered s t p f .badArgument [] ∧ OnlyAnswered s t p) ∧
    ∀ set : ResourceSet, set.toNat = fieldAt f.payload 0 5 → set ≠ 0 → flags.toNat < 4 → legalWait →
      ∀ r, LowestWith set (fun k => ¬Available s p (flags.getLsbD 0) k) r →
        (flags.getLsbD 1 = false → OffersWf s →
          ∃ t, exec (.claim p) s = .next t ∧ ∃ st payload, StoppedClaim s p r st ∧ namesResource s r payload ∧
            Answered s t p f st payload ∧ OnlyAnswered s t p) ∧
        (flags.getLsbD 1 = true → (∃ w ∈ s.waitList, w.port = p) →
          ∃ w ∈ s.waitList, w.port = p ∧ ∃ t, exec (.claim p) s = .next t ∧
            Answered s t p f .limit [w.ticket] ∧ OnlyAnswered s t p) ∧
        (flags.getLsbD 1 = true → WaitWf s → (∀ w ∈ s.waitList, w.port ≠ p) →
          ∃ t, exec (.claim p) s = .next t ∧ ∃ payload, namesResource s r payload ∧
            Answered s t p f .queued (t.ticketCounter :: payload) ∧
            Allocated s.ticketCounter (s.waitList.map WaitEntry.ticket) t.ticketCounter ∧
            t.waitList =
              s.waitList ++
                [{ ticket := t.ticketCounter, port := p, set := set, adopt := flags.getLsbD 0, remaining := ms }] ∧
            t.leases = s.leases ∧ t.offers = s.offers ∧ t.offerCounter = s.offerCounter ∧ OnlyRestarted s t p ∧
            SameField s t ∧ SameJournal s t ∧ SameRest s t)

/-- RELEASE of a set that the port holds as HELD: every member becomes FREE with its generation and failsafe value
kept, or goes on to a queued claim; its engines are stopped, each with its STOPPED record, and no other run is touched;
then the wait list is examined (as WaitListExamined says) in the state that this leaves, so that no queued claim is left
whose whole set is available. -/
def Obligations.Released : Prop :=
  ∀ (s : State) (p : Port) (f : Frame), Ready s .release p f → Passes s p f →
    ∀ set : ResourceSet, set.toNat = fieldAt f.payload 0 5 → set ≠ 0 →
      (∀ r, inSet set r = true → (s.entry r).state = .held p) → (∀ e ∈ enginesOf set, NoEndDue s e) →
      ∃ t, exec (.release p) s = .next t ∧ Answered s t p f .ok [] ∧
        (∀ r, EntryIsOrGranted s t r (if inSet set r then { s.entry r with state := .free } else s.entry r)) ∧
        (∀ e, inSet set (engineResource e) = true →
          t.engine e = { s.engine e with state := .idle, out := t.engineDrive e }) ∧
        (∀ e, inSet set (engineResource e) = false →
          (t.entry (engineResource e)).generation = (s.entry (engineResource e)).generation → t.engine e = s.engine e) ∧
        (∀ l, inSet set (lineResource l) = true →
          (t.line l).drive = t.effectiveDrive l ∧
          ((t.entry (lineResource l)).state = .free → t.line l = decidedAgain t l (s.line l))) ∧
        (∀ l, inSet set (lineResource l) = false →
          (t.entry (lineResource l)).generation = (s.entry (lineResource l)).generation → t.line l = s.line l) ∧
        t.offers = s.offers ∧ t.offerCounter = s.offerCounter ∧ t.ticketCounter = s.ticketCounter ∧
        RestartedBesideCounts s t p ∧ SameRest s t ∧
        t.waitList.Sublist s.waitList ∧ (WaitWf s → Blocked t) ∧
        (t.waitList = s.waitList → (∀ e, inSet set (engineResource e) = true → (s.engine e).state = .idle) →
          SameJournal s t ∧
          t.session p =
            { restarted (s.session p) with heldCount := (s.session p).heldCount - (members set).length } ∧
          ∀ q, q ≠ p → t.session q = s.session q) ∧
        (t.waitList = s.waitList →
          (t.journal, t.nextSeq) = withRecords s.isOpen (s.journal, s.nextSeq) s.timeCount (stopResults s p set) ∧
          (t.session p).heldCount = (s.session p).heldCount - (members set).length ∧
          ∀ q, q ≠ p → (t.session q).heldCount = (s.session q).heldCount) ∧
        ∃ u, ReleaseLeaves s u p set ∧ ExaminedTo u t

/-- RELEASE stops at the first member, in ascending number, that is not HELD by the requester: OFFERED when the
requester has offered it, NOT_HOLDER otherwise, naming it; an ill-formed or empty set is BAD_ARGUMENT. Nothing
changes. -/
def Obligations.ReleaseRefused : Prop :=
  ∀ (s : State) (p : Port) (f : Frame), Ready s .release p f → Passes s p f →
    ((2 ^ 36 ≤ fieldAt f.payload 0 5 ∨ fieldAt f.payload 0 5 = 0) →
      ∃ t, exec (.release p) s = .next t ∧ Answered s t p f .badArgument [] ∧ OnlyAnswered s t p) ∧
    ∀ set : ResourceSet, set.toNat = fieldAt f.payload 0 5 →
      ∀ r, LowestWith set (fun k => (s.entry k).state ≠ .held p) r →
        ∃ t, exec (.release p) s = .next t ∧ ∃ payload, namesResource s r payload ∧
          Answered s t p f (if s.holds p r then .offered else .notHolder) payload ∧ OnlyAnswered s t p

/-- SET FAILSAFE replaces the failsafe value of every member and decides their drives again; a value that is not legal
for its member and an ill-formed or empty set are BAD_ARGUMENT, and the lowest member that the port does not hold is
NOT_HOLDER. -/
def Obligations.FailsafeSet : Prop :=
  ∀ (s : State) (p : Port) (f : Frame), Ready s .setFailsafe p f → Passes s p f →
    ((2 ^ 36 ≤ fieldAt f.payload 0 5 ∨ fieldAt f.payload 0 5 = 0 ∨
        ∃ r : Resource, (fieldAt f.payload 0 5).testBit r.val = true ∧
          (fieldAt f.payload 5 9 / 4 ^ r.val % 4 = 3 ∨ (32 ≤ r.val ∧ fieldAt f.payload 5 9 / 4 ^ r.val % 4 = 2))) →
      ∃ t, exec (.setFailsafe p) s = .next t ∧ Answered s t p f .badArgument [] ∧ OnlyAnswered s t p) ∧
    ∀ set : ResourceSet, set.toNat = fieldAt f.payload 0 5 → set ≠ 0 →
      (∀ r : Resource, inSet set r = true →
        fieldAt f.payload 5 9 / 4 ^ r.val % 4 ≠ 3 ∧ (32 ≤ r.val → fieldAt f.payload 5 9 / 4 ^ r.val % 4 ≠ 2)) →
      (∀ r, LowestWith set (fun k => s.holds p k = false) r →
        ∃ t, exec (.setFailsafe p) s = .next t ∧ ∃ payload, namesResource s r payload ∧
          Answered s t p f .notHolder payload ∧ OnlyAnswered s t p) ∧
      ((∀ r, inSet set r = true → s.holds p r = true) →
        ∃ t, exec (.setFailsafe p) s = .next t ∧ Answered s t p f .ok [] ∧
          (∀ r, inSet set r = true →
            (t.entry r).state = (s.entry r).state ∧ (t.entry r).generation = (s.entry r).generation ∧
            NamesFailsafe (fieldAt f.payload 5 9 / 4 ^ r.val % 4) (t.entry r).failsafe) ∧
          (∀ r, inSet set r = false → t.entry r = s.entry r) ∧
          (∀ l, t.line l = if inSet set (lineResource l) then decidedAgain t l (s.line l) else s.line l) ∧
          (∀ e, t.engine e =
            if inSet set (engineResource e) then { s.engine e with out := t.engineDrive e } else s.engine e) ∧
          OnlyRestarted s t p ∧ t.offers = s.offers ∧ t.offerCounter = s.offerCounter ∧ t.waitList = s.waitList ∧
          t.ticketCounter = s.ticketCounter ∧ SameJournal s t ∧ SameRest s t)

/-! ### Waiting claims (chapter 4) -/

/-- The expiry of a queued claim removes its entry and records CLAIM_SETTLED(EXPIRED) for the claimant; CANCEL CLAIM
removes the requester's entry without a record, and answers OFFER_GONE for any other ticket and BAD_ARGUMENT for 0 (the
CLAIM_EXPIRY command is the running out of the timer itself: the model's choice, log entry 5). -/
def Obligations.QueuedClaimEnds : Prop :=
  (∀ (s : State) (ticket : Byte), s.inReset = none → ∀ w, s.ticketEntry ticket = some w →
    ∃ t, exec (.claimExpiry ticket) s = .next t ∧
      t.waitList = s.waitList.filter (fun x => decide (x.ticket ≠ ticket)) ∧
      Appended s t (fun q => decide (q = w.port)) s.timeCount (.claimSettled w.port ticket .expired w.set) ∧
      OnlyJournalMoved s t ∧ t.leases = s.leases ∧ t.offers = s.offers ∧ t.offerCounter = s.offerCounter ∧
      t.ticketCounter = s.ticketCounter ∧ SameField s t ∧ SameRest s t ∧ SamePorts s t) ∧
  ∀ (s : State) (p : Port) (f : Frame), Ready s .cancelClaim p f → Passes s p f →
    (byteAt f.payload 0 = 0 →
      ∃ t, exec (.cancelClaim p) s = .next t ∧ Answered s t p f .badArgument [] ∧ OnlyAnswered s t p) ∧
    (byteAt f.payload 0 ≠ 0 → (∀ w ∈ s.waitList, w.ticket = byteAt f.payload 0 → w.port ≠ p) →
      ∃ t, exec (.cancelClaim p) s = .next t ∧ Answered s t p f .offerGone [] ∧ OnlyAnswered s t p) ∧
    (byteAt f.payload 0 ≠ 0 → (s.waitList.map WaitEntry.ticket).Nodup →
      (∃ w ∈ s.waitList, w.ticket = byteAt f.payload 0 ∧ w.port = p) →
      ∃ t, exec (.cancelClaim p) s = .next t ∧ Answered s t p f .ok [] ∧
        t.waitList = s.waitList.filter (fun x => decide (x.ticket ≠ byteAt f.payload 0)) ∧ OnlyRestarted s t p ∧
        t.leases = s.leases ∧ t.offers = s.offers ∧ t.offerCounter = s.offerCounter ∧
        t.ticketCounter = s.ticketCounter ∧ SameField s t ∧ SameJournal s t ∧ SameRest s t)

/-- The examination of the wait list grants every entry whose whole set is available when its turn comes, oldest first:
the oldest entry whose set is available is granted, with a CLAIM_SETTLED(GRANTED) record for its claimant, and the rest
follows as the examination of the state that this leaves. No entry is left whose set is available; when none is, nothing
changes. -/
def Obligations.WaitListExamined : Prop :=
  ∀ s : State,
    (Blocked s → s.examine = s) ∧
    (∀ r, EntryIsOrGranted s s.examine r (s.entry r)) ∧ OnlyGrantsInField s s.examine ∧
    s.examine.waitList.Sublist s.waitList ∧
    ((s.waitList.map WaitEntry.port).Nodup → (s.waitList.map WaitEntry.ticket).Nodup →
      Blocked s.examine ∧
      (∀ w ∈ s.waitList, w ∉ s.examine.waitList → ∀ r, inSet w.set r = true → s.examine.holds w.port r = true) ∧
      ∀ before w younger, s.waitList = before ++ w :: younger →
        (∀ v ∈ before, ∃ r, inSet v.set r = true ∧ ¬Available s v.port v.adopt r) →
        (∀ r, inSet w.set r = true → Available s w.port w.adopt r) →
        w ∉ s.examine.waitList ∧ QueuedGrant s (s.grantQueued w) w ∧ s.examine = (s.grantQueued w).examine)

/-! ### Offers (chapter 3) -/

/-- OFFER of resources that the port holds as HELD to another port with an OPEN session: a new entry, OFFERED resources
that are otherwise as they were, an OFFER_MADE record for the target, and the id as answer. -/
def Obligations.OfferMade : Prop :=
  ∀ (s : State) (p : Port) (f : Frame) (target : Port), Ready s .offer p f → Passes s p f →
    ∀ set : ResourceSet, set.toNat = fieldAt f.payload 0 5 → set ≠ 0 → fieldAt f.payload 5 1 = (portCode target).toNat →
      target ≠ p → 1 ≤ fieldAt f.payload 6 2 → fieldAt f.payload 6 2 ≤ 10000 → s.isOpen target = true →
      (∀ r, inSet set r = true → (s.entry r).state = .held p) → s.offers.length < 4 → Blocked s →
      (∀ e ∈ enginesOf set, NoEndDue s e) →
      ∃ t, exec (.offer p) s = .next t ∧ Answered s t p f .ok [t.offerCounter] ∧
        Allocated s.offerCounter (s.offers.map Offer.id) t.offerCounter ∧
        (∃ before after, s.offers = before ++ after ∧
          t.offers =
            before ++
              { id := t.offerCounter, offerer := p, target := target, set := set, remaining := fieldAt f.payload 6 2 } ::
                after) ∧
        (∀ r, t.entry r = if inSet set r then { s.entry r with state := .offered p t.offerCounter } else s.entry r) ∧
        Appended s t (fun q => decide (q = target)) s.timeCount
          (.offerMade p t.offerCounter set (fieldAt f.payload 6 2)) ∧
        RestartedAside s t p ∧ t.waitList = s.waitList ∧ t.ticketCounter = s.ticketCounter ∧ SameField s t ∧
        SameRest s t

/-- OFFER's checks after the session check, in their order, each with its status and what it names; a refused OFFER
changes nothing. -/
def Obligations.OfferRefused : Prop :=
  ∀ (s : State) (p : Port) (f : Frame), Ready s .offer p f → Passes s p f →
    let window := fieldAt f.payload 6 2
    ((2 ^ 36 ≤ fieldAt f.payload 0 5 ∨ fieldAt f.payload 0 5 = 0 ∨ window = 0 ∨ 10000 < window ∨
        2 < fieldAt f.payload 5 1 ∨ fieldAt f.payload 5 1 = (portCode p).toNat) →
      ∃ t, exec (.offer p) s = .next t ∧ Answered s t p f .badArgument [] ∧ OnlyAnswered s t p) ∧
    ∀ set : ResourceSet, set.toNat = fieldAt f.payload 0 5 → set ≠ 0 → 1 ≤ window → window ≤ 10000 →
      ∀ target : Port, fieldAt f.payload 5 1 = (portCode target).toNat → target ≠ p →
        (s.isOpen target = false →
          ∃ t, exec (.offer p) s = .next t ∧ Answered s t p f .noSession [portCode target] ∧ OnlyAnswered s t p) ∧
        (s.isOpen target = true → ∀ r, LowestWith set (fun k => s.holds p k = false) r →
          ∃ t, exec (.offer p) s = .next t ∧ ∃ payload, namesResource s r payload ∧
            Answered s t p f .notHolder payload ∧ OnlyAnswered s t p) ∧
        (s.isOpen target = true → (∀ r, inSet set r = true → s.holds p r = true) →
          ∀ r, LowestWith set (fun k => (s.entry k).state ≠ .held p) r →
            ∃ t, exec (.offer p) s = .next t ∧ ∃ payload, namesResource s r payload ∧
              Answered s t p f .offered payload ∧ OnlyAnswered s t p) ∧
        (s.isOpen target = true → (∀ r, inSet set r = true → (s.entry r).state = .held p) → 4 ≤ s.offers.length →
          ∃ t, exec (.offer p) s = .next t ∧ Answered s t p f .limit [] ∧ OnlyAnswered s t p)

/-- ACCEPT by the target: every resource of the offer is HELD by it under the next generation, the held counts follow,
no pin, cell or run moves, the offerer is told, and the answer carries the set and its generations; then the wait list
is examined (as WaitListExamined says) in the state that this leaves, so that no queued claim is left whose whole set is
available. -/
def Obligations.OfferAccepted : Prop :=
  ∀ (s : State) (p : Port) (f : Frame), Ready s .accept p f → Passes s p f → OffersWf s →
    byteAt f.payload 0 ≠ 0 → ∀ o, s.offer (byteAt f.payload 0) = some o → o.target = p →
      (∀ e ∈ enginesOf o.set, NoEndDue s e) →
      ∃ t, exec (.accept p) s = .next t ∧
        Answered s t p f .ok
          (bytesOfNat 5 o.set.toNat ++ (members o.set).flatMap fun r => bytesOfNat 2 (t.entry r).generation.toNat) ∧
        (∀ r, inSet o.set r = true →
          t.entry r = { s.entry r with state := .held p, generation := generationAfter (s.entry r).generation }) ∧
        (∀ r, inSet o.set r = false → EntryIsOrGranted s t r (s.entry r)) ∧
        t.offers = s.offers.filter (fun x => decide (x.id ≠ o.id)) ∧ t.offerCounter = s.offerCounter ∧
        t.ticketCounter = s.ticketCounter ∧
        (PinsExact s → ∀ l, inSet o.set (lineResource l) = true → t.line l = s.line l) ∧
        (PinsExact s → ∀ e, inSet o.set (engineResource e) = true → t.engine e = s.engine e) ∧
        RestartedBesideCounts s t p ∧ SameRest s t ∧
        t.waitList.Sublist s.waitList ∧ (WaitWf s → Blocked t) ∧
        (t.waitList = s.waitList →
          Appended s t (fun q => decide (q = o.offerer)) s.timeCount (.offerSettled o.offerer o.id .accepted) ∧
          (t.session p).heldCount = (s.session p).heldCount + (members o.set).length ∧
          (t.session o.offerer).heldCount = (s.session o.offerer).heldCount - (members o.set).length ∧
          (PinsExact s → SameField s t)) ∧
        ∃ u, AcceptLeaves s u p o ∧ ExaminedTo u t

/-- DECLINE by the target, WITHDRAW by the offerer and the end of the window each return the offer to its offerer and
tell the offerer, the target, or both (the OFFER_EXPIRY command is the end of the window itself: the model's choice, log
entry 5). -/
def Obligations.OfferReturned : Prop :=
  ∀ s : State, OffersWf s → Blocked s →
    (∀ (p : Port) (f : Frame), Ready s .decline p f → Passes s p f → byteAt f.payload 0 ≠ 0 →
      ∀ o, s.offer (byteAt f.payload 0) = some o → o.target = p → (∀ e ∈ enginesOf o.set, NoEndDue s e) →
        ∃ t, exec (.decline p) s = .next t ∧ Answered s t p f .ok [] ∧
          Returned s t o .declined (fun q => decide (q = o.offerer)) ∧ RestartedAside s t p) ∧
    (∀ (p : Port) (f : Frame), Ready s .withdraw p f → Passes s p f → byteAt f.payload 0 ≠ 0 →
      ∀ o, s.offer (byteAt f.payload 0) = some o → o.offerer = p → (∀ e ∈ enginesOf o.set, NoEndDue s e) →
        ∃ t, exec (.withdraw p) s = .next t ∧ Answered s t p f .ok [] ∧
          Returned s t o .withdrawn (fun q => decide (q = o.target)) ∧ RestartedAside s t p) ∧
    (s.inReset = none → ∀ (id : Byte) (o : Offer), s.offer id = some o →
      (∀ e ∈ enginesOf o.set, NoEndDue s e) →
      ∃ t, exec (.offerExpiry id) s = .next t ∧
        Returned s t o .expired (fun q => decide (q = o.offerer ∨ q = o.target)) ∧ OnlyJournalMoved s t ∧
        SamePorts s t)

/-- ACCEPT, DECLINE and WITHDRAW look their offer up by id and role: BAD_ARGUMENT for id 0, OFFER_GONE when no open
offer has the id or the requester is not the party needed; neither changes anything. What passes the lookup is
answered OK. -/
def Obligations.OfferLookedUp : Prop :=
  ∀ (s : State) (p : Port) (f : Frame) (rq : Request), (rq = .accept ∨ rq = .decline ∨ rq = .withdraw) → Ready s rq p f →
    Passes s p f →
    (byteAt f.payload 0 = 0 →
      ∃ t, exec (commandOf p rq) s = .next t ∧ Answered s t p f .badArgument [] ∧ OnlyAnswered s t p) ∧
    (byteAt f.payload 0 ≠ 0 →
      (∀ o ∈ s.offers, o.id = byteAt f.payload 0 → (if rq = .withdraw then o.offerer else o.target) ≠ p) →
      ∃ t, exec (commandOf p rq) s = .next t ∧ Answered s t p f .offerGone [] ∧ OnlyAnswered s t p) ∧
    (byteAt f.payload 0 ≠ 0 → ∀ o, s.offer (byteAt f.payload 0) = some o →
      (if rq = .withdraw then o.offerer else o.target) = p →
      ∃ t, exec (commandOf p rq) s = .next t ∧ ∃ payload, Answered s t p f .ok payload)

/-! ### Lines (chapter 5) -/

/-- SET DIRECTION replaces the directions of a set of lines that the port holds, and decides their drives again; an
ill-formed or empty set is BAD_ARGUMENT, an engine in a well-formed one is BAD_ARGUMENT naming the lowest, and the lowest
line that the port does not hold is NOT_HOLDER. -/
def Obligations.DirectionSet : Prop :=
  ∀ (s : State) (p : Port) (f : Frame), Ready s .setDirection p f → Passes s p f →
    (((2 ^ 36 ≤ fieldAt f.payload 0 5 ∧ fieldAt f.payload 0 5 / 2 ^ 32 % 16 = 0) ∨ fieldAt f.payload 0 5 = 0) →
      ∃ t, exec (.setDirection p) s = .next t ∧ Answered s t p f .badArgument [] ∧ OnlyAnswered s t p) ∧
    ∀ set : ResourceSet, set.toNat = fieldAt f.payload 0 5 → set ≠ 0 →
      (∀ r, LowestWith set (fun k => 32 ≤ k.val) r →
        ∃ t, exec (.setDirection p) s = .next t ∧ ∃ payload, namesResource s r payload ∧
          Answered s t p f .badArgument payload ∧ OnlyAnswered s t p) ∧
      ((∀ r, inSet set r = true → r.val < 32) →
        (∀ r, LowestWith set (fun k => s.holds p k = false) r →
          ∃ t, exec (.setDirection p) s = .next t ∧ ∃ payload, namesResource s r payload ∧
            Answered s t p f .notHolder payload ∧ OnlyAnswered s t p) ∧
        ((∀ r, inSet set r = true → s.holds p r = true) →
          ∃ t, exec (.setDirection p) s = .next t ∧ Answered s t p f .ok [] ∧
            (∀ l, t.line l =
              if inSet set (lineResource l) then
                decidedAgain t l
                  { s.line l with direction := if (fieldAt f.payload 5 4).testBit l.val then .output else .input }
              else s.line l) ∧
            t.engines = s.engines ∧ OnlyRestarted s t p ∧ SameTables s t ∧ SameJournal s t ∧ SameRest s t))

/-- WRITE LINES replaces the commanded values of the masked lines that the port holds, and decides their drives
again. -/
def Obligations.LinesWritten : Prop :=
  ∀ (s : State) (p : Port) (f : Frame), Ready s .writeLines p f → Passes s p f →
    (fieldAt f.payload 0 4 = 0 →
      ∃ t, exec (.writeLines p) s = .next t ∧ Answered s t p f .badArgument [] ∧ OnlyAnswered s t p) ∧
    (∀ l : Line, (fieldAt f.payload 0 4).testBit l.val = true → s.holds p (lineResource l) = false →
      (∀ k : Line, (fieldAt f.payload 0 4).testBit k.val = true → s.holds p (lineResource k) = false → l ≤ k) →
      ∃ t, exec (.writeLines p) s = .next t ∧ ∃ payload, namesResource s (lineResource l) payload ∧
        Answered s t p f .notHolder payload ∧ OnlyAnswered s t p) ∧
    (fieldAt f.payload 0 4 ≠ 0 →
      (∀ l : Line, (fieldAt f.payload 0 4).testBit l.val = true → s.holds p (lineResource l) = true) →
      ∃ t, exec (.writeLines p) s = .next t ∧ Answered s t p f .ok [] ∧
        (∀ l, t.line l =
          if (fieldAt f.payload 0 4).testBit l.val then
            decidedAgain t l
              { s.line l with commanded := if (fieldAt f.payload 4 4).testBit l.val then .high else .low }
          else s.line l) ∧
        t.engines = s.engines ∧ OnlyRestarted s t p ∧ SameTables s t ∧ SameJournal s t ∧ SameRest s t)

/-- What a pin drives, case by case: under force or without a holder the failsafe value, otherwise an output line's
commanded value or a float; HIGH is a float on an open-drain line; an engine's pin follows its run. -/
def Obligations.DriveDecided : Prop :=
  ∀ s : State,
    (∀ l : Line,
      let entry := s.entry (lineResource l)
      let up := if s.profile.outputKind[l] = .openDrain then Drive.float else .high
      let forced := s.force.asserted = true ∨ entry.state = .free ∨ ∃ q, entry.state = .orphaned q
      (forced → entry.failsafe = .driveLow → s.effectiveDrive l = .low) ∧
      (forced → entry.failsafe = .driveHigh → s.effectiveDrive l = up) ∧
      (forced → entry.failsafe = .float → s.effectiveDrive l = .float) ∧
      (¬forced → (s.line l).direction = .output → (s.line l).commanded = .low → s.effectiveDrive l = .low) ∧
      (¬forced → (s.line l).direction = .output → (s.line l).commanded = .high → s.effectiveDrive l = up) ∧
      (¬forced → (s.line l).direction = .input → s.effectiveDrive l = .float)) ∧
    ∀ e : EngineNo,
      let entry := s.entry (engineResource e)
      let forced := s.force.asserted = true ∨ entry.state = .free ∨ ∃ q, entry.state = .orphaned q
      (forced → (s.engineDrive e = .high ↔ entry.failsafe = .driveHigh)) ∧
      (¬forced → (s.engineDrive e = .high ↔
        ∃ t, (s.engine e).state = .timed .high t ∨ (s.engine e).state = .timed .pulse t))

/-- A line sample reads every pin, takes every line through its filter and its monitor, and moves no direction,
commanded value, drive, lease or session (that a settle count which ends on a floating line leaves its monitor IDLE is
the model's reading of a state that no run reaches, log entry 16). -/
def Obligations.LinesSampled : Prop :=
  ∀ (s : State) (levels : LineSet), s.inReset = none →
    ∃ t, exec (.lineSample levels) s = .next t ∧
      (∀ l : Line,
        t.line l =
          { s.line l with
            raw := pinLevel levels l
            filtered := (filterResult s.profile.filterCount[l] (s.line l) (pinLevel levels l)).1
            run := (filterResult s.profile.filterCount[l] (s.line l) (pinLevel levels l)).2
            monitor :=
              monitorResult (s.line l) (filterResult s.profile.filterCount[l] (s.line l) (pinLevel levels l)).1 }) ∧
      (∀ e, (t.engine e).config = (s.engine e).config) ∧ OnlyJournalMoved s t ∧ SameTables s t ∧ SameRest s t ∧
      SamePorts s t

/-- A sample hands the edges it accepts on, one line after another in ascending number: each is recorded for the sessions
subscribed to it; then a monitor that was watching and now disagrees records a fault for the holder, or for every session
without one; then the engines that name the line take the edge, in ascending number, each with its result; last, a settle
count that ends on a line at odds with its drive records a fault. No other record is made, and no other engine moves. (The
records are stated where no end is due at an engine that takes an edge; what a due end does is DueTickTakenFirst's.) -/
def Obligations.LineEdgeHandedOn : Prop :=
  ∀ (s : State) (levels : LineSet), s.inReset = none →
    ∃ t, exec (.lineSample levels) s = .next t ∧
      (∀ e, (∀ l, EdgeAccepted s levels l → ¬EdgeReaches (s.engine e) l) → t.engine e = s.engine e) ∧
      (∀ e l, EdgeAccepted s levels l → EdgeReaches (s.engine e) l →
        (∀ k, k ≠ l → EdgeAccepted s levels k → ¬EdgeReaches (s.engine e) k) →
        t.engine e = (State.edgeToEngine l (pinLevel levels l) s e).engine e) ∧
      ((∀ e l, EdgeAccepted s levels l → EdgeReaches (s.engine e) l →
          NoEndDue s e ∧ ∀ k, k ≠ l → EdgeAccepted s levels k → ¬EdgeReaches (s.engine e) k) →
        (t.journal, t.nextSeq) =
          withRecords s.isOpen (s.journal, s.nextSeq) s.timeCount
            ((List.finRange 32).flatMap (sampleRecords s levels)))

/-- When the settle count of a line reaches 0 its filtered level is compared with its drive: agreement is WATCHING, and
a difference is FAULTED with one LINE_FAULT record (as a command of its own: the model's choice, log entry 6). -/
def Obligations.MonitorSettles : Prop :=
  ∀ (s : State) (l : Line) (d : Level) (n : Nat), s.inReset = none → (s.line l).monitor = .settling n → n ≤ 1 →
    driveLevel (s.line l).drive = some d →
    ∃ t, exec (.monitorSettleEnd l) s = .next t ∧
      t.line l = { s.line l with monitor := if (s.line l).filtered = d then .watching else .faulted } ∧
      (∀ k, k ≠ l → t.line k = s.line k) ∧
      ((s.line l).filtered = d → NoRecord s t) ∧
      ((s.line l).filtered ≠ d →
        Appended s t (fun p => s.holds p (lineResource l) || !controlled (s.entry (lineResource l)).state) s.timeCount
          (.lineFault l d (s.line l).filtered)) ∧
      t.engines = s.engines ∧ OnlyJournalMoved s t ∧ SameTables s t ∧ SameRest s t ∧ SamePorts s t

/-- The assertion of nFSAFE, by command or at the third disagreeing sample, forces every engine IDLE, each with its FORCED
result for its holder, in ascending number, puts every pin at its failsafe value, records FORCE_CHANGE for every OPEN
session after them and enters every monitor (that the command is not checked against the run count is the model's choice,
log entry 5). -/
def Obligations.ForceAsserted : Prop :=
  ∀ (s : State) (c : Instr), s.inReset = none → s.force.asserted = false → (∀ e, NoEndDue s e) →
    (c = .fsafeAssertion ∨ (c = .nfsafeMonitorSample .low ∧ s.force.run = 2)) →
    ∃ t, exec c s = .next t ∧ ForceMoved s t true ∧
      (∀ e, t.engine e = { s.engine e with state := .idle, out := t.engineDrive e }) ∧
      (t.journal, t.nextSeq) =
        withRecords s.isOpen (s.journal, s.nextSeq) s.timeCount
          (forcedResults s ++ [(fun _ => true, .forceChange true)])

/-- The release of nFSAFE, by command or at the third disagreeing sample, gives every pin its drive again; a sample that
agrees with the flag clears the run count, and one that disagrees raises it; a command that finds the flag already
there does nothing (that, and that the commands are not checked against the run count, is the model's choice, log
entry 5). -/
def Obligations.ForceReleasedAndSampled : Prop :=
  (∀ (s : State) (c : Instr), s.inReset = none → s.force.asserted = true →
    (c = .fsafeRelease ∨ (c = .nfsafeMonitorSample .high ∧ s.force.run = 2)) →
    ∃ t, exec c s = .next t ∧ ForceMoved s t false ∧ (∀ e, t.engine e = { s.engine e with out := t.engineDrive e }) ∧
      Appended s t (fun _ => true) s.timeCount (.forceChange false)) ∧
  (∀ (s : State) (level : Level), s.inReset = none → s.force.run ≤ 2 →
    ((s.force.asserted = true ↔ level = .low) →
      exec (.nfsafeMonitorSample level) s = .next { s with force := { s.force with run := 0 } }) ∧
    (¬(s.force.asserted = true ↔ level = .low) → s.force.run < 2 →
      exec (.nfsafeMonitorSample level) s = .next { s with force := { s.force with run := s.force.run + 1 } })) ∧
  ∀ s : State, (s.force.asserted = true → exec .fsafeAssertion s = .next s) ∧
    (s.force.asserted = false → exec .fsafeRelease s = .next s)

/-! ### Engines (chapter 6) -/

/-- CONFIGURE ENGINE replaces the whole configuration of an IDLE engine that the port holds; its checks refuse an engine
number above 3 or a configuration that is not well formed with BAD_ARGUMENT, then NOT_HOLDER, then BUSY. -/
def Obligations.EngineConfigured : Prop :=
  ∀ (s : State) (p : Port) (f : Frame), Ready s .configureEngine p f → Passes s p f →
    ((4 ≤ fieldAt f.payload 0 1 ∨ ¬∃ c, CarriesConfig f.payload c ∧ GoodConfig c) →
      ∃ t, exec (.configureEngine p) s = .next t ∧ Answered s t p f .badArgument [] ∧ OnlyAnswered s t p) ∧
    ∀ (e : EngineNo) (c : EngineConfig), fieldAt f.payload 0 1 = e.val → CarriesConfig f.payload c → GoodConfig c →
      (s.holds p (engineResource e) = false →
        ∃ t, exec (.configureEngine p) s = .next t ∧ Answered s t p f .notHolder [] ∧ OnlyAnswered s t p) ∧
      (s.holds p (engineResource e) = true → NoEndDue s e → (s.engine e).state ≠ .idle →
        ∃ t, exec (.configureEngine p) s = .next t ∧ Answered s t p f .busy [] ∧ OnlyAnswered s t p) ∧
      (s.holds p (engineResource e) = true → (s.engine e).state = .idle →
        ∃ t, exec (.configureEngine p) s = .next t ∧ Answered s t p f .ok [] ∧
          t.engine e = { s.engine e with config := some c } ∧ OnlyEngine s t e ∧ OnlyRestarted s t p ∧
          SameTables s t ∧ SameJournal s t ∧ SameRest s t)

/-- START ENGINE begins the run that the mode of an IDLE engine's configuration gives, with its four counters 0, or fires
an ARMED delayed pulse; its checks are, in order, the engine number, the holder, the force, BUSY and the configuration
(that an increment not yet taken stays owed in `taken` and then counts in the run is the model's choice, log entry 19). -/
def Obligations.EngineStarted : Prop :=
  ∀ (s : State) (p : Port) (f : Frame), Ready s .startEngine p f → Passes s p f →
    (4 ≤ fieldAt f.payload 0 1 →
      ∃ t, exec (.startEngine p) s = .next t ∧ Answered s t p f .badArgument [] ∧ OnlyAnswered s t p) ∧
    ∀ e : EngineNo, fieldAt f.payload 0 1 = e.val →
      (s.holds p (engineResource e) = false →
        ∃ t, exec (.startEngine p) s = .next t ∧ Answered s t p f .notHolder [] ∧ OnlyAnswered s t p) ∧
      (s.holds p (engineResource e) = true → s.force.asserted = true →
        ∃ t, exec (.startEngine p) s = .next t ∧ Answered s t p f .forced [] ∧ OnlyAnswered s t p) ∧
      (s.holds p (engineResource e) = true → s.force.asserted = false → NoEndDue s e → (s.engine e).state ≠ .idle →
        (∀ c, (s.engine e).config = some c → ¬Fires (s.engine e) c) →
        ∃ t, exec (.startEngine p) s = .next t ∧ Answered s t p f .busy [] ∧ OnlyAnswered s t p) ∧
      (s.holds p (engineResource e) = true → s.force.asserted = false → (s.engine e).state = .idle →
        (s.engine e).config = none →
        ∃ t, exec (.startEngine p) s = .next t ∧ Answered s t p f .badArgument [] ∧ OnlyAnswered s t p) ∧
      ∀ c, (s.engine e).config = some c → s.holds p (engineResource e) = true → s.force.asserted = false →
        ((s.engine e).state = .idle →
          ∃ t, exec (.startEngine p) s = .next t ∧ Answered s t p f .ok [] ∧
            t.engine e =
              { s.engine e with
                state := begun s c, elapsed := 0, pulses := 0, edges := 0, ignored := 0, out := t.engineDrive e } ∧
            OnlyEngine s t e ∧ OnlyRestarted s t p ∧ SameTables s t ∧ SameJournal s t ∧ SameRest s t) ∧
        (NoEndDue s e → Fires (s.engine e) c →
          ∃ t, exec (.startEngine p) s = .next t ∧ Answered s t p f .ok [] ∧
            t.engine e =
              { s.engine e with state := .timed .delay (later s.timeCount c.a), out := t.engineDrive e } ∧
            OnlyEngine s t e ∧ OnlyRestarted s t p ∧ SameTables s t ∧ SameJournal s t ∧ SameRest s t)

/-- STOP ENGINE ends a run with a STOPPED record of its partial value and keeps its counters; at an IDLE engine it does
nothing; an engine number above 3 is BAD_ARGUMENT and another holder's engine NOT_HOLDER. -/
def Obligations.EngineStopped : Prop :=
  ∀ (s : State) (p : Port) (f : Frame), Ready s .stopEngine p f → Passes s p f →
    (4 ≤ fieldAt f.payload 0 1 →
      ∃ t, exec (.stopEngine p) s = .next t ∧ Answered s t p f .badArgument [] ∧ OnlyAnswered s t p) ∧
    ∀ e : EngineNo, fieldAt f.payload 0 1 = e.val →
      (s.holds p (engineResource e) = false →
        ∃ t, exec (.stopEngine p) s = .next t ∧ Answered s t p f .notHolder [] ∧ OnlyAnswered s t p) ∧
      (s.holds p (engineResource e) = true → (s.engine e).state = .idle →
        ∃ t, exec (.stopEngine p) s = .next t ∧ Answered s t p f .ok [] ∧ OnlyAnswered s t p) ∧
      ∀ c, (s.engine e).config = some c → s.holds p (engineResource e) = true → (s.engine e).state ≠ .idle →
        NoEndDue s e →
        ∃ t, exec (.stopEngine p) s = .next t ∧ Answered s t p f .ok [] ∧
          t.engine e = { s.engine e with state := .idle, out := t.engineDrive e } ∧
          Appended s t (fun q => decide (q = p)) s.timeCount
            (.engineResult e c.mode .stopped (partialResult (s.engine e) c.mode s.timeCount).1
              (partialResult (s.engine e) c.mode s.timeCount).2) ∧
          OnlyEngine s t e ∧ RestartedAside s t p ∧ SameTables s t ∧ SameRest s t

/-- ENGINE STATUS reports the state and phase, the configuration, the four counters, the holder and the pin of an
engine, and changes nothing; an engine number above 3 is BAD_ARGUMENT. -/
def Obligations.EngineReported : Prop :=
  ∀ (s : State) (p : Port) (f : Frame), Ready s .engineStatus p f → Passes s p f →
    (4 ≤ fieldAt f.payload 0 1 →
      ∃ t, exec (.engineStatus p) s = .next t ∧ Answered s t p f .badArgument [] ∧ OnlyAnswered s t p) ∧
    ∀ e : EngineNo, fieldAt f.payload 0 1 = e.val → NoEndDue s e →
      ∃ t, exec (.engineStatus p) s = .next t ∧ ∃ payload, Answered s t p f .ok payload ∧ OnlyAnswered s t p ∧
        payload.length = 36 ∧ byteAt payload 0 = engineStateCode (s.engine e).state ∧
        byteAt payload 1 = phaseCode (s.engine e).state ∧
        ((s.engine e).config = none → byteAt payload 2 = 0 ∧ (payload.drop 3).take 15 = List.replicate 15 0) ∧
        (∀ c, (s.engine e).config = some c → c.a < 2 ^ 24 → c.b < 2 ^ 24 → c.repeatCount < 2 ^ 16 →
          byteAt payload 2 = 1 ∧ CarriesConfig (payload.drop 2) c) ∧
        fieldAt payload 18 4 = (s.engine e).elapsed % 2 ^ 32 ∧ fieldAt payload 22 4 = (s.engine e).pulses % 2 ^ 32 ∧
        fieldAt payload 26 4 = (s.engine e).edges % 2 ^ 32 ∧ fieldAt payload 30 4 = (s.engine e).ignored % 2 ^ 32 ∧
        (∀ q, s.holds q (engineResource e) = true → byteAt payload 34 = portCode q) ∧
        ((∀ q, s.holds q (engineResource e) = false) → byteAt payload 34 = 0xFF) ∧
        byteAt payload 35 = levelCode (s.engine e).out

/-- What reaches an engine whose end the count has reached has it take that tick first, and then acts on the state in
which the engine has taken it, where no end is due: a request to the engine, a RELEASE, an OFFER, an ACCEPT, every return
of an offer, every end of a session, the assertion of nFSAFE and an edge. While no engine lags the count by more than one
tick, that state is the one ENGINE_TICK answers. (That the tests of holder and force come before the tick, and that all
engines which a happening reaches take their ticks before it does anything else, is the model's choice, log entry 7.) -/
def Obligations.DueTickTakenFirst : Prop :=
  (∀ (s : State) (e : EngineNo), NoEndDue (s.catchUp e) e ∧ (NoEndDue s e → s.catchUp e = s) ∧
    (s.inReset = none → TicksNear s → ¬NoEndDue s e → exec (.engineTick e) s = .next (s.catchUp e))) ∧
  (∀ (s : State) (es : List EngineNo), ∀ e ∈ es, NoEndDue (es.foldl State.catchUp s) e) ∧
  (∀ (s : State) (p : Port) (f : Frame) (rq : Request) (e : EngineNo),
    (rq = .configureEngine ∨ rq = .startEngine ∨ rq = .stopEngine ∨ rq = .engineStatus) → Ready s rq p f →
    Passes s p f → fieldAt f.payload 0 1 = e.val → (rq ≠ .engineStatus → s.holds p (engineResource e) = true) →
    (rq = .configureEngine → ∃ c, CarriesConfig f.payload c ∧ GoodConfig c) →
    (rq = .startEngine → s.force.asserted = false) →
    exec (commandOf p rq) s = exec (commandOf p rq) (s.catchUp e)) ∧
  (∀ (s : State) (p : Port) (f : Frame) (rq : Request) (set : ResourceSet), Ready s rq p f → Passes s p f →
    set.toNat = fieldAt f.payload 0 5 → set ≠ 0 → (∀ r, inSet set r = true → (s.entry r).state = .held p) →
    (rq = .release ∨
      (rq = .offer ∧ s.offers.length < 4 ∧ 1 ≤ fieldAt f.payload 6 2 ∧ fieldAt f.payload 6 2 ≤ 10000 ∧
        ∃ target, fieldAt f.payload 5 1 = (portCode target).toNat ∧ target ≠ p ∧ s.isOpen target = true)) →
    exec (commandOf p rq) s = exec (commandOf p rq) ((enginesOf set).foldl State.catchUp s)) ∧
  (∀ (s : State) (p : Port) (f : Frame) (rq : Request) (o : Offer),
    (rq = .accept ∨ rq = .decline ∨ rq = .withdraw) → Ready s rq p f → Passes s p f → byteAt f.payload 0 ≠ 0 →
    s.offer (byteAt f.payload 0) = some o → (if rq = .withdraw then o.offerer else o.target) = p →
    exec (commandOf p rq) s = exec (commandOf p rq) ((enginesOf o.set).foldl State.catchUp s)) ∧
  (∀ (s : State) (id : Byte) (o : Offer), s.inReset = none → s.offer id = some o →
    exec (.offerExpiry id) s = exec (.offerExpiry id) ((enginesOf o.set).foldl State.catchUp s)) ∧
  (∀ (s : State) (p : Port), s.inReset = none → s.isOpen p = true →
    exec (.lapse p) s = exec (.lapse p) ((s.reachedByEnd p).foldl State.catchUp s)) ∧
  (∀ (s : State) (p : Port) (f : Frame) (rq : Request), Ready s rq p f → s.isOpen p = true →
    (rq = .closeSession ∧ Passes s p f ∨
      rq = .openSession ∧ byteAt f.payload 3 = 1 ∧ 10 ≤ fieldAt f.payload 0 2 ∧ fieldAt f.payload 0 2 ≤ 60000 ∧
        1 ≤ fieldAt f.payload 2 1 ∧ fieldAt f.payload 2 1 ≤ 128) →
    exec (commandOf p rq) s = exec (commandOf p rq) ((s.reachedByEnd p).foldl State.catchUp s)) ∧
  (∀ (s : State) (c : Instr), s.inReset = none → s.force.asserted = false →
    (c = .fsafeAssertion ∨ (c = .nfsafeMonitorSample .low ∧ s.force.run = 2)) →
    exec c s = exec c ((List.finRange 4).foldl State.catchUp s)) ∧
  ∀ (s : State) (l : Line) (level : Level) (e : EngineNo), EdgeReaches (s.engine e) l →
    State.edgeToEngine l level s e = State.edgeToEngine l level (s.catchUp e) e

/-- The time count rises by one, wrapping after its largest value, when every engine has taken the tick before, which it
takes first if it has not; an engine takes the next tick that is not its end by counting it while ARMED or RUNNING, and
takes none that has not come (the record `taken` of the last tick an engine took, and the increment's waiting for the
engines, are the model's, log entry 7). -/
def Obligations.TicksCounted : Prop :=
  (∀ s : State, s.inReset = none → (∀ e, (s.engine e).taken = s.timeCount) →
    exec .tick s = .next { s with timeCount := s.timeCount + 1 }) ∧
  (∀ s : State, s.inReset = none → TicksNear s →
    ∃ s0, exec (.engineTick 0) s = .next s0 ∧ ∃ s1, exec (.engineTick 1) s0 = .next s1 ∧
      ∃ s2, exec (.engineTick 2) s1 = .next s2 ∧ ∃ s3, exec (.engineTick 3) s2 = .next s3 ∧
        exec .tick s = .next { s3 with timeCount := s.timeCount + 1 } ∧ ∀ e, (s3.engine e).taken = s.timeCount) ∧
  (∀ (s : State) (e : EngineNo), s.inReset = none → (s.engine e).taken ≠ s.timeCount →
    engineEnd (s.engine e).state ≠ some ((s.engine e).taken + 1) →
    ∃ t, exec (.engineTick e) s = .next t ∧
      t.engine e =
        (match (s.engine e).state with
          | .idle => { s.engine e with taken := (s.engine e).taken + 1 }
          | .gated _ _ => { s.engine e with taken := (s.engine e).taken + 1 }
          | .armed _ => ticked (s.engine e) ((s.engine e).taken + 1)
          | .timed _ _ => ticked (s.engine e) ((s.engine e).taken + 1)
          | .measuring _ _ => ticked (s.engine e) ((s.engine e).taken + 1)) ∧
      EngineHappening s t e ∧ SameJournal s t) ∧
  ∀ (s : State) (e : EngineNo), (s.engine e).taken = s.timeCount → exec (.engineTick e) s = .next s

/-- The tick that reaches the phase end of a pulse train: HIGH gives way to LOW; at the end of LOW a pulse is done, and
the run ends at its repeat count, or with OVERFLOW when the pulses cannot be counted, or goes on (OVERFLOW whatever the
repeat count is the model's reading, log entry 16). -/
def Obligations.PulseTrainPhaseEnds : Prop :=
  ∀ (s : State) (e : EngineNo) (c : EngineConfig) (cmd : Instr), EndNow s e → (s.engine e).config = some c →
    c.mode = .pulseTrain → (cmd = .pulseTrainPhaseEnd e ∨ cmd = .engineTick e) →
    let g := ticked (s.engine e) s.timeCount
    (∀ x, g.state = .timed .high x →
      ∃ t, exec cmd s = .next t ∧ EngineHappening s t e ∧ NoRecord s t ∧
        t.engine e = { g with state := .timed .low (later s.timeCount c.b), out := t.engineDrive e }) ∧
    (∀ x, g.state = .timed .low x → g.pulses = 4294967295 →
      ∃ t, exec cmd s = .next t ∧ EngineHappening s t e ∧
        t.engine e = { g with state := .idle, out := t.engineDrive e } ∧
        ResultMade s t e .pulseTrain .overflow 4294967295 0 s.timeCount) ∧
    (∀ x, g.state = .timed .low x → g.pulses ≠ 4294967295 → c.repeatCount ≠ 0 → g.pulses + 1 = c.repeatCount →
      ∃ t, exec cmd s = .next t ∧ EngineHappening s t e ∧
        t.engine e = { g with state := .idle, pulses := g.pulses + 1, out := t.engineDrive e } ∧
        ResultMade s t e .pulseTrain .done c.repeatCount 0 s.timeCount) ∧
    (∀ x, g.state = .timed .low x → g.pulses ≠ 4294967295 → (c.repeatCount = 0 ∨ g.pulses + 1 ≠ c.repeatCount) →
      ∃ t, exec cmd s = .next t ∧ EngineHappening s t e ∧ NoRecord s t ∧
        t.engine e =
          { g with state := .timed .high (later s.timeCount c.a), pulses := g.pulses + 1, out := t.engineDrive e })

/-- The tick that ends the delay of a delayed pulse begins its pulse; the tick that ends the pulse counts it, records
DONE with the pulses and the ignored triggers, and leaves the engine IDLE or, with REARM, ARMED; a pulse that cannot be
counted ends the run with OVERFLOW (whatever REARM is: the model's reading, log entry 16). -/
def Obligations.DelayedPulsePhaseEnds : Prop :=
  ∀ (s : State) (e : EngineNo) (c : EngineConfig) (cmd : Instr), EndNow s e → (s.engine e).config = some c →
    c.mode = .delayedPulse → (cmd = .delayedPulsePhaseEnd e ∨ cmd = .engineTick e) →
    let g := ticked (s.engine e) s.timeCount
    (∀ x, g.state = .timed .delay x →
      ∃ t, exec cmd s = .next t ∧ EngineHappening s t e ∧ NoRecord s t ∧
        t.engine e = { g with state := .timed .pulse (later s.timeCount c.b), out := t.engineDrive e }) ∧
    (∀ x, g.state = .timed .pulse x → g.pulses = 4294967295 →
      ∃ t, exec cmd s = .next t ∧ EngineHappening s t e ∧
        t.engine e = { g with state := .idle, out := t.engineDrive e } ∧
        ResultMade s t e .delayedPulse .overflow 4294967295 g.ignored s.timeCount) ∧
    (∀ x, g.state = .timed .pulse x → g.pulses ≠ 4294967295 →
      ∃ t, exec cmd s = .next t ∧ EngineHappening s t e ∧
        t.engine e =
          { g with
            state := if c.rearm then .armed none else .idle, pulses := g.pulses + 1, out := t.engineDrive e } ∧
        ResultMade s t e .delayedPulse .done (g.pulses + 1) g.ignored s.timeCount)

/-- The tick that reaches a measurement's limit ends its run with TIMEOUT, with value 0 from ARMED and with the time
since the opening from RUNNING; the tick that ends a counting window records DONE with the edges counted, and with REARM
begins the next window from 0. -/
def Obligations.LimitAndWindowEnd : Prop :=
  ∀ (s : State) (e : EngineNo) (c : EngineConfig) (cmd : Instr), EndNow s e → (s.engine e).config = some c →
    let g := ticked (s.engine e) s.timeCount
    ((c.mode = .measureWidth ∨ c.mode = .measurePeriod) → (cmd = .measureLimitEnd e ∨ cmd = .engineTick e) →
      (∀ limit, g.state = .armed limit →
        ∃ t, exec cmd s = .next t ∧ EngineHappening s t e ∧
          t.engine e = { g with state := .idle, out := t.engineDrive e } ∧
          ResultMade s t e c.mode .timeout 0 0 s.timeCount) ∧
      ∀ opening limit, g.state = .measuring opening limit →
        ∃ t, exec cmd s = .next t ∧ EngineHappening s t e ∧
          t.engine e = { g with state := .idle, out := t.engineDrive e } ∧
          ResultMade s t e c.mode .timeout (s.timeCount - opening).toNat 0 s.timeCount) ∧
    (c.mode = .countEdges → (cmd = .countWindowEnd e ∨ cmd = .engineTick e) → ∀ x, g.state = .timed .counting x →
      ∃ t, exec cmd s = .next t ∧ EngineHappening s t e ∧
        t.engine e =
          (if c.rearm then
            { g with state := .timed .counting (later s.timeCount c.a), edges := 0, out := t.engineDrive e }
          else { g with state := .idle, out := t.engineDrive e }) ∧
        ResultMade s t e .countEdges .done g.edges 0 s.timeCount)

/-- What an engine does with an edge on the line its configuration names, mode by mode: a gate freezes and resumes a
train, an active edge fires a delayed pulse or is ignored, edges open and close measurements with DONE, and active edges
are counted (that any edge, an active one too, closes a width measurement is the model's reading of a state that no run
reaches, log entry 16; that an increment not yet taken at a gate edge stays owed in `taken`, and counts or not by the
state the edge leaves, is its choice, log entry 19). -/
def Obligations.EdgesAtEngines : Prop :=
  ∀ (s : State) (l : Line) (level : Level) (e : EngineNo) (c : EngineConfig), (s.engine e).config = some c →
    NoEndDue s e →
    let t := State.edgeToEngine l level s e
    let g := s.engine e
    let active := c.edge = .rising ∧ level = .high ∨ c.edge = .falling ∧ level = .low
    EngineHappening s t e ∧
    (c.input ≠ some l → c.gate ≠ some l → t = s) ∧ (g.state = .idle → t = s) ∧
    (c.mode = .pulseTrain → c.gate = some l → ∀ ph x, g.state = .timed ph x → level ≠ c.gateLevel →
      NoRecord s t ∧ t.engine e = { g with state := .gated ph (x - s.timeCount).toNat, out := t.engineDrive e }) ∧
    (c.mode = .pulseTrain → c.gate = some l → ∀ ph n, g.state = .gated ph n → level = c.gateLevel →
      NoRecord s t ∧ t.engine e = { g with state := .timed ph (later s.timeCount n), out := t.engineDrive e }) ∧
    (c.mode = .delayedPulse → c.input = some l → active → ∀ limit, g.state = .armed limit →
      NoRecord s t ∧
      t.engine e =
        { edgeCounted g with state := .timed .delay (later s.timeCount c.a), out := t.engineDrive e }) ∧
    (c.mode = .delayedPulse → c.input = some l → active → ∀ ph x, g.state = .timed ph x →
      NoRecord s t ∧ t.engine e = { g with ignored := if g.ignored < 4294967295 then g.ignored + 1 else g.ignored }) ∧
    (c.mode = .delayedPulse ∨ c.mode = .measurePeriod ∨ c.mode = .countEdges → ¬active → t = s) ∧
    (c.mode = .measureWidth → c.input = some l → ∀ limit, g.state = .armed (some limit) →
      (¬active → t = s) ∧
      (active → NoRecord s t ∧
        t.engine e = { edgeCounted g with state := .measuring s.timeCount limit, out := t.engineDrive e })) ∧
    (c.mode = .measureWidth → c.input = some l → ∀ opening limit, g.state = .measuring opening limit →
      ResultMade s t e .measureWidth .done (s.timeCount - opening).toNat 0 s.timeCount ∧
      t.engine e =
        { edgeCounted g with
          state := if c.rearm then .armed (some (later s.timeCount c.a)) else .idle, out := t.engineDrive e }) ∧
    (c.mode = .measurePeriod → c.input = some l → active → ∀ limit, g.state = .armed (some limit) →
      NoRecord s t ∧
      t.engine e = { edgeCounted g with state := .measuring s.timeCount limit, out := t.engineDrive e }) ∧
    (c.mode = .measurePeriod → c.input = some l → active → ∀ opening limit, g.state = .measuring opening limit →
      ResultMade s t e .measurePeriod .done (s.timeCount - opening).toNat 0 s.timeCount ∧
      t.engine e =
        { edgeCounted g with
          state := if c.rearm then .measuring s.timeCount (later s.timeCount c.a) else .idle
          out := t.engineDrive e }) ∧
    (c.mode = .countEdges → c.input = some l → active → ∀ ph x, g.state = .timed ph x →
      NoRecord s t ∧ t.engine e = edgeCounted g)

/-! ### The journal (chapter 7) -/

/-- An append computes the interest from the OPEN sessions; with none nothing happens; otherwise the oldest record of a
full journal is evicted with a loss for each of its sessions, the record takes the next sequence number at the newest
end, the given counters rise, and the attention outputs concerned follow. The delivery state of an OPEN session with
nothing pending starts anew, for the sessions of the interest set and for the others alike (the model's reading of R133,
log entry 8). -/
def Obligations.RecordAppended : Prop :=
  ∀ (s : State) (ps : PortSet) (time : Count) (body : RecordBody),
    let t := s.append ps time body
    let evicted := fun p => match s.journal.head? with
      | none => false
      | some r => decide (128 ≤ s.journal.length) && r.interest.get p
    Appended s t (fun p => ps.get p) time body ∧
    ((∀ p, (ps.get p && s.isOpen p) = false) → t = s) ∧
    ((∃ p, (ps.get p && s.isOpen p) = true) →
      ∀ p o, s.openFields p = some o →
        t.openFields p =
          some
            (if (if s.journal.length < 128 then s.journal else s.journal.tail).any (fun r => r.interest.get p) then o
            else { o with ackPoint := s.nextSeq - 1, mark := none })) ∧
    ((∃ p, (ps.get p && s.isOpen p) = true) →
      ∀ p,
        (t.session p).given =
          (if (ps.get p && s.isOpen p) && decide ((s.session p).given < 4294967295) then (s.session p).given + 1
          else (s.session p).given) ∧
        (t.session p).lost =
          (if evicted p && decide ((s.session p).lost < 4294967295) then (s.session p).lost + 1
          else (s.session p).lost) ∧
        (t.session p).unreportedLost =
          (if evicted p && decide ((s.session p).unreportedLost < 65535) then (s.session p).unreportedLost + 1
          else (s.session p).unreportedLost) ∧
        (t.session p).acknowledged = (s.session p).acknowledged ∧
        t.attn.get p = if (ps.get p && s.isOpen p) || evicted p then t.attentionDue p else s.attn.get p) ∧
    OnlyJournalMoved s t ∧ SameTables s t ∧ SameField s t ∧ SameRest s t ∧ SamePorts s t

/-- SUBSCRIBE replaces both subscription sets, which name lines alone; SET ATTENTION replaces the threshold, of 1 to
128, and the attention output follows it. -/
def Obligations.SubscribedAndThresholdSet : Prop :=
  (∀ (s : State) (p : Port) (f : Frame), Ready s .subscribe p f → Passes s p f →
    ((2 ^ 32 ≤ fieldAt f.payload 0 5 ∨ 2 ^ 32 ≤ fieldAt f.payload 5 5) →
      ∃ t, exec (.subscribe p) s = .next t ∧ Answered s t p f .badArgument [] ∧ OnlyAnswered s t p) ∧
    ∀ rise fall : LineSet, fieldAt f.payload 0 5 = rise.toNat → fieldAt f.payload 5 5 = fall.toNat →
      ∀ o, s.openFields p = some o →
        ∃ t, exec (.subscribe p) s = .next t ∧ Answered s t p f .ok [] ∧
          t.session p =
            { s.session p with state := .opened { o with remaining := o.period, rise := rise, fall := fall } } ∧
          (∀ q, q ≠ p → t.session q = s.session q) ∧ SameTables s t ∧ SameField s t ∧ SameJournal s t ∧ SameRest s t) ∧
  ∀ (s : State) (p : Port) (f : Frame), Ready s .setAttention p f → Passes s p f →
    ((fieldAt f.payload 0 1 = 0 ∨ 128 < fieldAt f.payload 0 1) →
      ∃ t, exec (.setAttention p) s = .next t ∧ Answered s t p f .badArgument [] ∧ OnlyAnswered s t p) ∧
    (1 ≤ fieldAt f.payload 0 1 → fieldAt f.payload 0 1 ≤ 128 → ∀ o, s.openFields p = some o →
      ∃ t, exec (.setAttention p) s = .next t ∧ Answered s t p f .ok [] ∧
        t.session p =
          { s.session p with
            state := .opened { o with remaining := o.period, threshold := fieldAt f.payload 0 1 } } ∧
        (∀ q, q ≠ p → t.session q = s.session q) ∧
        (t.attn.get p = true ↔
          fieldAt f.payload 0 1 ≤ s.pendingCount p ∨ s.pendingNotice p = true ∨ 0 < (s.session p).unreportedLost) ∧
        (∀ q, q ≠ p → t.attn.get q = s.attn.get q) ∧ t.journal = s.journal ∧ t.nextSeq = s.nextSeq ∧
        SameTables s t ∧ SameField s t ∧ SameRest s t)

/-- FETCH acknowledges the records up to S, if S is given, and then delivers up to M of those left, oldest first: the
session's interest leaves the acknowledged records, each freed when no interest is left, acknowledged rises by their
number, point and mark move, the loss is reported and cleared, and the attention output follows. No other session's
records move. -/
def Obligations.Fetched : Prop :=
  ∀ (s : State) (p : Port) (f : Frame), Ready s .fetch p f → Passes s p f → 1 ≤ fieldAt f.payload 5 1 →
    fieldAt f.payload 5 1 ≤ 6 → (byteAt f.payload 0).toNat ≤ 1 → ∀ o, s.openFields p = some o →
      let n := BitVec.ofNat 32 (fieldAt f.payload 1 4)
      let ack := byteAt f.payload 0 = 1
      let covered := fun r : Record => decide (ack ∧ distance o r.seq ≤ distance o n)
      let left := (s.records p).filter fun r => !covered r
      let delivered := left.take (fieldAt f.payload 5 1)
      let o' : OpenSession :=
        { o with
          remaining := o.period
          ackPoint := if ack then n else o.ackPoint
          mark := if ack ∧ o.mark = some n then none else o.mark }
      (ack → GoodAck o n) →
        ∃ t, exec (.fetch p) s = .next t ∧
          Answered s t p f .ok
            (deliveryPayload delivered (left.length - delivered.length) (s.session p).unreportedLost
              ((markDelivered o' delivered).getD o'.ackPoint)) ∧
          t.session p =
            { s.session p with
              state := .opened { o' with mark := markDelivered o' delivered }
              acknowledged :=
                if ack then
                  min 4294967295 ((s.session p).acknowledged + ((s.records p).length - left.length))
                else (s.session p).acknowledged
              unreportedLost := 0 } ∧
          (∀ q, q ≠ p → t.session q = s.session q) ∧
          t.journal =
            (s.journal.flatMap fun r =>
              if r.interest.get p && covered r then
                if isNoPort (r.interest.set p false) then [] else [{ r with interest := r.interest.set p false }]
              else [r]) ∧
          t.records p = left ∧ t.nextSeq = s.nextSeq ∧ t.attn.get p = t.attentionDue p ∧
          (∀ q, q ≠ p → t.attn.get q = s.attn.get q) ∧ SameTables s t ∧ SameField s t ∧ SameRest s t

/-- FETCH is BAD_ARGUMENT for a maximum outside 1 to 6, and for an acknowledgement number that is not after the
acknowledgement point and up to the delivered mark; then nothing but the keepalive timer moves. -/
def Obligations.FetchRefused : Prop :=
  ∀ (s : State) (p : Port) (f : Frame), Ready s .fetch p f → Passes s p f → (byteAt f.payload 0).toNat ≤ 1 →
    ∀ o, s.openFields p = some o →
      (fieldAt f.payload 5 1 = 0 ∨ 6 < fieldAt f.payload 5 1 ∨
        (byteAt f.payload 0 = 1 ∧ ¬GoodAck o (BitVec.ofNat 32 (fieldAt f.payload 1 4)))) →
      ∃ t, exec (.fetch p) s = .next t ∧ Answered s t p f .badArgument [] ∧ OnlyAnswered s t p

/-! ### The timebase and the profile (chapter 8) -/

/-- TIME needs no session and reports the time count and the tick unit; GET PROFILE reports the whole profile. Neither
changes anything. -/
def Obligations.TimeAndProfileRead : Prop :=
  (∀ (s : State) (p : Port) (f : Frame), Ready s .time p f →
    ∃ t, exec (.time p) s = .next t ∧ ∃ payload, Answered s t p f .ok payload ∧ NothingBeside s t ∧ payload.length = 5 ∧
      fieldAt payload 0 4 = s.timeCount.toNat ∧ byteAt payload 4 = tickUnitCode s.profile.tickUnit) ∧
  ∀ (s : State) (p : Port) (f : Frame), Ready s .getProfile p f → Passes s p f →
    ∃ t, exec (.getProfile p) s = .next t ∧ ∃ payload, Answered s t p f .ok payload ∧ OnlyAnswered s t p ∧
      CarriesProfile payload s.profile

/-- SET PROFILE is BAD_ARGUMENT for a field out of range and NOT_QUIET while a resource is not FREE or a claim waits;
otherwise the profile is the one sent, every line is re-seeded with its drive decided and its monitor entered, the time
count goes on, and PROFILE_CHANGED is recorded for every OPEN session. -/
def Obligations.ProfileChanged : Prop :=
  ∀ (s : State) (p : Port) (f : Frame), Ready s .setProfile p f → Passes s p f →
    (¬LegalProfile f.payload →
      ∃ t, exec (.setProfile p) s = .next t ∧ Answered s t p f .badArgument [] ∧ OnlyAnswered s t p) ∧
    (LegalProfile f.payload → ((∃ r, (s.entry r).state ≠ .free) ∨ s.waitList ≠ []) →
      ∃ t, exec (.setProfile p) s = .next t ∧ Answered s t p f .notQuiet [] ∧ OnlyAnswered s t p) ∧
    (LegalProfile f.payload → (∀ r, (s.entry r).state = .free) → s.waitList = [] →
      ∃ t, exec (.setProfile p) s = .next t ∧ Answered s t p f .ok [] ∧ CarriesProfile f.payload t.profile ∧
        (∀ l, t.line l = enteredAnew t l { s.line l with run := 0 }) ∧
        (∀ e, t.engine e = { s.engine e with out := t.engineDrive e }) ∧
        Appended s t (fun _ => true) s.timeCount (.profileChanged p t.profile.tickUnit) ∧ RestartedAside s t p ∧
        t.timeCount = s.timeCount ∧ SameTables s t ∧ t.force = s.force ∧ SameControl s t)

/-! ### Ports (chapters 9 and 10) -/

/-- An SPI transaction: a write whose bytes are a whole frame completes it at its CHECK byte, whatever follows; one that
ends short, even before its first byte, loses its frame; one still going on leaves the frame arriving; a read sends the
response, NOT_READY or EMPTY and then 0x00, and changes nothing else; a first byte other than 0xFF is a framing error at
once, and one that begins with 0xFF is judged at its fourth byte, or when its select goes high before it. The port sends
0x00 at every other byte position, and its data output is driven while the select is low. The next transaction first ends a
write in progress, whose frame is lost, or a transaction still to be judged, which is counted (how the rows divide a
transaction is the model's choice, log entry 9). -/
def Obligations.SpiTransactions : Prop :=
  (∀ (s : State) (sp : SpiPort), s.inReset = none → NoFrameArriving (s.port sp.port) →
    (∀ frame extra high, WholeFrame frame →
      ∃ t, exec (.spiWriteTransaction sp (frame ++ extra) high) s = .next t ∧
        OnlyPort s t sp.port
          (fun _ =>
            spiZeros high (frame.length + extra.length + 1)
              (afterFrame s sp.port frame (if high then .quiet else .ignoring))) ∧
        BesidePorts s t) ∧
    (∀ bytes, (bytes.length < 5 ∨ ((byteAt bytes 4).toNat ≤ 48 ∧ bytes.length < (byteAt bytes 4).toNat + 6)) →
      (∃ t, exec (.spiWriteTransaction sp bytes true) s = .next t ∧
        OnlyPort s t sp.port (fun u => spiZeros true (bytes.length + 1) (afterLoss u)) ∧ BesidePorts s t) ∧
      (bytes ≠ [] →
        ∃ t, exec (.spiWriteTransaction sp bytes false) s = .next t ∧
          OnlyPort s t sp.port
            (fun u => spiZeros false (bytes.length + 1) { u with state := arriving u bytes, link := .writing }) ∧
          BesidePorts s t)) ∧
    (∃ t, exec (.spiWriteTransaction sp [] false) s = .next t ∧
      OnlyPort s t sp.port (fun u => spiZeros false 1 { u with link := .writing }) ∧ BesidePorts s t) ∧
    (∀ bytes high, 5 ≤ bytes.length → 48 < (byteAt bytes 4).toNat →
      ∃ t, exec (.spiWriteTransaction sp bytes high) s = .next t ∧
        OnlyPort s t sp.port
          (fun u =>
            spiZeros high (bytes.length + 1) { afterLoss u with link := if high then .quiet else .ignoring }) ∧
        BesidePorts s t) ∧
    (∀ count high,
      ∃ t, exec (.spiReadTransaction sp ⟨count, high⟩) s = .next t ∧
        OnlyPort s t sp.port
          (fun u => { u with
            link := if high then .quiet else .ignoring, driven := !high
            sent := 0 :: (sentNow u ++ List.replicate count 0).take count }) ∧
        BesidePorts s t) ∧
    (∀ b rest high,
      ((b ≠ 0xB1 ∧ b ≠ 0xB2 ∧ b ≠ 0xFF) ∨
        (b = 0xFF ∧ ((3 ≤ rest.length ∧ ∃ x ∈ rest.take 3, x ≠ 0xFF) ∨ (rest.length < 3 ∧ high = true)))) →
      ∃ t, exec (.spiFramingError sp ⟨b :: rest, high⟩) s = .next t ∧
        OnlyPort s t sp.port
          (fun u =>
            spiZeros high (rest.length + 1) { afterFailedStart u with link := if high then .quiet else .ignoring }) ∧
        BesidePorts s t) ∧
    ∀ rest, rest.length < 3 →
      ∃ t, exec (.spiFramingError sp ⟨0xFF :: rest, false⟩) s = .next t ∧
        OnlyPort s t sp.port (fun u => spiZeros false (rest.length + 1) { u with link := .judging (0xFF :: rest) }) ∧
        BesidePorts s t) ∧
  ∀ (s : State) (sp : SpiPort) (c : Instr), s.inReset = none →
    ((s.port sp.port).link = .writing ∨ ∃ bytes, (s.port sp.port).link = .judging bytes) →
    ((∃ bytes high, c = .spiWriteTransaction sp bytes high) ∨ (∃ read, c = .spiReadTransaction sp read) ∨
      ∃ b rest high, c = .spiFramingError sp ⟨b :: rest, high⟩ ∧
        ((b ≠ 0xB1 ∧ b ≠ 0xB2 ∧ b ≠ 0xFF) ∨ (b = 0xFF ∧ (rest.length < 3 ∨ ∃ x ∈ rest.take 3, x ≠ 0xFF)))) →
    SpiEndedFirst s sp.port c

/-- An I2C write to the port's address: a whole frame completes when the transaction ends and every byte of it is
acknowledged; a byte beyond it is not and loses it; a LEN byte above 48 is not, nor what follows, and loses it; a short
one is lost; no data byte is an address probe. Other addresses are not acknowledged, and the general call resyncs HP2 at
0x5B and does nothing else. A repeated START ends the write in progress first: exactly a frame completes then, before the
next transaction begins (how the rows divide a transaction is the model's choice, log entry 10). -/
def Obligations.I2cWrites : Prop :=
  (∀ s : State, s.inReset = none → NoFrameArriving (s.port .hp2) → (∀ a b c, (s.port .hp2).link ≠ .stretching a b c) →
    (∀ frame, WholeFrame frame →
      (∃ t, exec (.i2cWriteTransaction s.i2cAddress frame true) s = .next t ∧
        OnlyPort s t .hp2 (fun _ => { afterFrame s .hp2 frame .quiet with sent := [], acks := allAcked frame.length }) ∧
        BesidePorts s t) ∧
      (∃ t, exec (.i2cWriteTransaction s.i2cAddress frame false) s = .next t ∧
        OnlyPort s t .hp2
          (fun u => { u with state := arriving u frame, link := .writing, sent := [], acks := allAcked frame.length }) ∧
        BesidePorts s t) ∧
      ∀ b extra ended,
        ∃ t, exec (.i2cWriteTransaction s.i2cAddress (frame ++ b :: extra) ended) s = .next t ∧
          OnlyPort s t .hp2
            (fun u => { afterLoss u with
              link := if ended then .quiet else .ignoring
              sent := [], acks := allAcked frame.length ++ List.replicate (extra.length + 1) false }) ∧
          BesidePorts s t) ∧
    (∀ bytes ended, 5 ≤ bytes.length → 48 < (byteAt bytes 4).toNat →
      ∃ t, exec (.i2cWriteTransaction s.i2cAddress bytes ended) s = .next t ∧
        OnlyPort s t .hp2
          (fun u => { afterLoss u with
            link := if ended then .quiet else .ignoring, sent := []
            acks := allAcked 4 ++ List.replicate (bytes.length - 4) false }) ∧
        BesidePorts s t) ∧
    (∀ bytes, bytes ≠ [] →
      (bytes.length < 5 ∨ ((byteAt bytes 4).toNat ≤ 48 ∧ bytes.length < (byteAt bytes 4).toNat + 6)) →
      (∃ t, exec (.i2cWriteTransaction s.i2cAddress bytes true) s = .next t ∧
        OnlyPort s t .hp2 (fun u => { afterLoss u with sent := [], acks := allAcked bytes.length }) ∧ BesidePorts s t) ∧
      ∃ t, exec (.i2cWriteTransaction s.i2cAddress bytes false) s = .next t ∧
        OnlyPort s t .hp2
          (fun u => { u with state := arriving u bytes, link := .writing, sent := [], acks := allAcked bytes.length }) ∧
        BesidePorts s t) ∧
    (∀ ended,
      ∃ t, exec (.i2cWriteTransaction s.i2cAddress [] ended) s = .next t ∧
        OnlyPort s t .hp2 (fun u => { u with link := if ended then .quiet else .writing, sent := [], acks := [true] }) ∧
        BesidePorts s t) ∧
    (∀ address bytes ended, address ≠ s.i2cAddress → address ≠ 0 →
      ∃ t, exec (.i2cWriteTransaction address bytes ended) s = .next t ∧
        OnlyPort s t .hp2 (fun u => { u with link := .quiet, sent := [], acks := [false] }) ∧ BesidePorts s t) ∧
    (s.i2cAddress ≠ 0 → ∀ b rest ended,
      ∃ t, exec (.i2cWriteTransaction 0 (b :: rest) ended) s = .next t ∧ BesidePorts s t ∧
        OnlyPort s t .hp2
          (if b = 0x5B then
            fun u =>
              { afterResync u with link := .quiet, sent := [], acks := [true, true] ++ List.replicate rest.length false }
          else fun u =>
            { u with link := .quiet, sent := [], acks := [true, false] ++ List.replicate rest.length false }))) ∧
  ∀ (s : State) (address : BitVec 7) (bytes : List Byte) (ended : Bool), s.inReset = none →
    (s.port .hp2).link = .writing → I2cEndedFirst s (.i2cWriteTransaction address bytes ended)

/-- An I2C read of HP2 is acknowledged and sends a held response or EMPTY at once; a PENDING port stretches SCL for up to
10 ms and then sends NOT_READY with the request kept; a read at another address is not acknowledged; another party that
holds SCL low for 25 ms aborts the transaction with one framing error, and an aborted write loses its frame; the START of
a read ends a write in progress first, so that the read finds the frame it completed (how the
rows divide a read is the model's choice, log entry 10, and so is that STRETCH_LIMIT and STUCK_SCL_ABORT are the events
themselves, log entry 5). -/
def Obligations.I2cReadsAndStretch : Prop :=
  (∀ (s : State) (count : Nat) (ended : Bool), s.inReset = none → NoFrameArriving (s.port .hp2) →
    (∀ a b c, (s.port .hp2).link ≠ .stretching a b c) →
    ((s.port .hp2).request = none →
      ∃ t, exec (.i2cReadTransaction s.i2cAddress count ended) s = .next t ∧
        OnlyPort s t .hp2
          (fun u => { u with
            link := if ended then .quiet else .reading
            sent := (sentNow u ++ List.replicate count 0).take count, acks := [true] }) ∧
        BesidePorts s t) ∧
    ((s.port .hp2).request ≠ none →
      ∃ t, exec (.i2cReadTransaction s.i2cAddress count ended) s = .next t ∧
        OnlyPort s t .hp2 (fun u => { u with link := .stretching count 10 ended, sent := [], acks := [true] }) ∧
        BesidePorts s t) ∧
    ∀ address, address ≠ s.i2cAddress →
      ∃ t, exec (.i2cReadTransaction address count ended) s = .next t ∧
        OnlyPort s t .hp2 (fun u => { u with link := .quiet, sent := [], acks := [false] }) ∧ BesidePorts s t) ∧
  (∀ (s : State) (address : BitVec 7) (count : Nat) (ended : Bool), s.inReset = none →
    (s.port .hp2).link = .writing → I2cEndedFirst s (.i2cReadTransaction address count ended)) ∧
  (∀ (s : State) (count left : Nat) (ended : Bool), s.inReset = none →
    (s.port .hp2).link = .stretching count left ended →
    ∃ t, exec .stretchLimit s = .next t ∧
      OnlyPort s t .hp2
        (fun u => { u with
          sent := ([0xF0] ++ List.replicate count 0).take count, link := if ended then .quiet else .reading }) ∧
      BesidePorts s t) ∧
  ∀ s : State, s.inReset = none →
    ((s.port .hp2).link = .writing →
      ∃ t, exec .stuckSclAbort s = .next t ∧ OnlyPort s t .hp2 afterLoss ∧ BesidePorts s t) ∧
    ((s.port .hp2).link = .reading →
      ∃ t, exec .stuckSclAbort s = .next t ∧
        OnlyPort s t .hp2
          (fun u => { u with
            framingErrors := if u.framingErrors < 255 then u.framingErrors + 1 else u.framingErrors, link := .quiet }) ∧
        BesidePorts s t)

/-- The rest of a frame arrives and the frame completes, on I2C with the end of its transaction; a frame that is lost leaves
the request or response held and counts one framing error, but an I2C write without a data byte counts none, and neither
does the end of a transaction that was being ignored or read; with every end on SPI the data output is undriven. The bytes
of an SPI transaction that began with 0xFF are judged at the fourth: four bytes 0xFF are a resync, others, or a select that
goes high before the fourth, a framing error that leaves the port's state, slots and latch. A resync clears the port of
requests, responses and frames, counts itself, and touches nothing else, with the data output driven until the select is high
(the split transactions, FRAME_LOST as the end of any of them, the framing error of a transaction still to be judged when
RESYNC begins anew, the quiet link of HP2 after a resync, and a resync of HP2 while it stretches SCL or takes a write are the
model's choice, log entries 9 and 10). -/
def Obligations.FramesCompletedLostAndResynced : Prop :=
  (∀ (s : State) (p : Port) (rest : List Byte), s.inReset = none → (s.port p).link = .writing →
    WholeFrame (arrived (s.port p) ++ rest) → (rest ≠ [] ∨ p = .hp2) →
    ∃ t, exec (.frameComplete p rest) s = .next t ∧ BesidePorts s t ∧
      OnlyPort s t p
        (fun u =>
          if p = .hp2 then
            { afterFrame s p (arrived u ++ rest) .quiet with acks := u.acks ++ List.replicate rest.length true }
          else { afterFrame s p (arrived u ++ rest) .ignoring with sent := u.sent ++ List.replicate rest.length 0 })) ∧
  (∀ (s : State) (p : Port), s.inReset = none → (s.port p).link = .writing →
    (p ≠ .hp2 ∨ arrived (s.port p) ≠ [] →
      ∃ t, exec (.frameLost p) s = .next t ∧
        OnlyPort s t p (fun u => if p = .hp2 then afterLoss u else { afterLoss u with driven := false }) ∧
        BesidePorts s t) ∧
    (p = .hp2 → NoFrameArriving { s.port p with link := .quiet } →
      ∃ t, exec (.frameLost p) s = .next t ∧ OnlyPort s t p (fun u => { u with link := .quiet }) ∧ BesidePorts s t)) ∧
  (∀ (s : State) (p : Port), s.inReset = none → ((s.port p).link = .ignoring ∨ (s.port p).link = .reading) →
    ∃ t, exec (.frameLost p) s = .next t ∧ BesidePorts s t ∧
      OnlyPort s t p (fun u => { u with link := .quiet, driven := if p = .hp2 then u.driven else false })) ∧
  (∀ (s : State) (sp : SpiPort) (bytes rest : List Byte), s.inReset = none → (s.port sp.port).link = .judging bytes →
    bytes.length < 4 → bytes.head? = some 0xFF →
    (∃ t, exec (.frameComplete sp.port rest) s = .next t ∧ BesidePorts s t ∧
      OnlyPort s t sp.port
        (fun u => { (if bytes.length + rest.length < 4 then { u with link := .judging (bytes ++ rest) }
            else if (bytes ++ rest).take 4 = [0xFF, 0xFF, 0xFF, 0xFF] then { afterResync u with link := .ignoring }
            else { afterFailedStart u with link := .ignoring }) with
          sent := u.sent ++ List.replicate rest.length 0 })) ∧
    ∃ t, exec (.frameLost sp.port) s = .next t ∧ BesidePorts s t ∧
      OnlyPort s t sp.port (fun u => { afterFailedStart u with link := .quiet, driven := false })) ∧
  (∀ (s : State) (sp : SpiPort) (more : Nat) (high : Bool), s.inReset = none →
    ∃ t, exec (.resync (.spi sp more high)) s = .next t ∧ BesidePorts s t ∧
      OnlyPort s t sp.port
        (fun u => spiZeros high (4 + more) { afterResync u with
          framingErrors := match u.link with
            | .judging _ => (afterFailedStart u).framingErrors
            | .quiet | .writing | .ignoring | .reading | .stretching _ _ _ => u.framingErrors
          link := if high then .quiet else .ignoring })) ∧
  ∀ (s : State) (more : Nat), s.inReset = none →
    ∃ t, exec (.resync (.generalCall more)) s = .next t ∧ BesidePorts s t ∧
      OnlyPort s t .hp2
        (fun u => { afterResync u with link := .quiet, sent := [], acks := [true, true] ++ List.replicate more false })

/-- A reset begins with the supply or with nRST low for 5 µs or more, floats every line, drives every engine output and
every attention output inactive and empties the ports, with no SPI data output driven; a pulse below 1 µs is ignored, and
one between the two resets or does not; at the end of the reset every block has its reset values and the cause is the
reset's, and an SPI port whose select is low ignores the bytes of that transaction until its select is high (the counter `freeCount` of the pulses
between is the model's own, log entry 3; that nothing but what the manual names changes while the reset lasts is its
choice, log entry 14, and so is that `sent` and `acks` are empty after it, log entry 10). -/
def Obligations.ResetBeginsAndEnds : Prop :=
  (∀ (s : State) (ns : Nat) (ev : ResetEvent) (cause : ResetCause),
    (ev = .powerOn ∧ cause = .powerOn ∨ ev = .pinLow ns ∧ 5000 ≤ ns ∧ s.inReset = none ∧ cause = .pin) →
    ∃ t, exec (.reset ev) s = .next t ∧ t.inReset = some cause ∧ (∀ l, (t.line l).drive = .float) ∧
      (∀ e, (t.engine e).out = .low) ∧ (∀ p, t.attn.get p = false) ∧
      ∀ p, (t.port p).state = .idle ∧ (t.port p).link = .quiet ∧ (t.port p).driven = false) ∧
  (∀ (s : State) (ns : Nat), ns < 1000 → exec (.reset (.pinLow ns)) s = .next s) ∧
  (∀ (s : State) (ns : Nat), s.inReset = none → 1000 ≤ ns → ns < 5000 →
    ∃ t, exec (.reset (.pinLow ns)) s = .next t ∧
      (t = { s with freeCount := s.freeCount + 1 } ∨
        ∃ u, exec (.reset (.pinLow 5000)) s = .next u ∧ t = { u with freeCount := s.freeCount + 1 })) ∧
  ∀ (s : State) (cause : ResetCause) (pins : ResetPins), s.inReset = some cause →
    ∃ t, exec (.resetEnd pins) s = .next t ∧ AtReset t cause pins ∧
      ∀ bytes,
        (pins.select0Low = true →
          exec (.frameComplete .hp0 bytes) t = .next t ∧
          ∃ u, exec (.frameLost .hp0) t = .next u ∧ BesidePorts t u ∧
            OnlyPort t u .hp0 (fun x => { x with link := .quiet, driven := false })) ∧
        (pins.select1Low = true →
          exec (.frameComplete .hp1 bytes) t = .next t ∧
          ∃ u, exec (.frameLost .hp1) t = .next u ∧ BesidePorts t u ∧
            OnlyPort t u .hp1 (fun x => { x with link := .quiet, driven := false }))

/-- The model's choice of pins and cause for its first state (log entry 2): it is the end of a power-on reset with
every line LOW, nFSAFE high and both straps low, with the model's own fields `sent` and `acks` empty (log entry 10); the
hub is quiet, and every invariant holds of it. -/
def Obligations.ResetStateIsAReset : Prop :=
  AtReset State.reset .powerOn ResetPins.standard ∧ State.reset.pending = [] ∧ State.reset.quiet = true ∧
    JournalWf State.reset ∧ CountersBalance State.reset ∧ AttentionExact State.reset ∧ LeasesWf State.reset ∧
    PinsExact State.reset ∧ EngineFailsafes State.reset ∧ TicksNear State.reset

/-- A request frame whose payload is at most 48 bytes is a whole frame with a correct CHECK byte, and its bytes spell it
again; a number of k bytes is read back modulo 256^k; the register over any bytes and their CHECK byte is 0; and the
manual's worked PING has CHECK byte 0x5C. -/
def Obligations.FramesReadBack : Prop :=
  (∀ f : Frame, f.payload.length ≤ 48 →
    WholeFrame (frameBytes f) ∧ GoodCheck (frameBytes f) ∧ spelled (frameBytes f) = f) ∧
  (∀ k n : Nat, (bytesOfNat k n).length = k ∧ natOfBytes (bytesOfNat k n) = n % 256 ^ k) ∧
  (∀ body : List Byte, crc (body ++ [crc body]) = 0) ∧ crc [0x30, 0x04, 0x00, 0x07, 0x00] = 0x5C

/-! ### Invariants and rules of the whole part -/

/-- Every step keeps the journal's form and the balance of the counters. While no engine lags the time count by more than
one tick, a step keeps it so, and the records it appends stand after those of before and carry its time count, so that
timestamps never decrease (that an increment waits for the engines is the model's inference from R127, log entry 7). -/
def Obligations.JournalKept : Prop :=
  ∀ s t : State, step s = .next t →
    (JournalWf s → CountersBalance s → JournalWf t ∧ CountersBalance t) ∧ (TicksNear s → TicksNear t ∧ StampedNow s t)

/-- Every step keeps the attention outputs at the level that R140 gives. -/
def Obligations.AttentionKept : Prop :=
  ∀ s t : State, AttentionExact s → step s = .next t → AttentionExact t

/-- Every step keeps the lease table, the held counts, the offer table, the wait list and the engines in agreement. -/
def Obligations.LeasesKept : Prop :=
  ∀ s t : State, LeasesWf s → step s = .next t → LeasesWf t

/-- Every step keeps every pin at the drive that R83 and R114 give, and no engine's failsafe value FLOAT. -/
def Obligations.PinsKept : Prop :=
  ∀ s t : State, LeasesWf s → PinsExact s → EngineFailsafes s → step s = .next t → PinsExact t ∧ EngineFailsafes t

/-- Outside a reset's end no command but the tick moves the time count, none but OPEN SESSION on its own port moves a
session number, none but SET FAILSAFE changes a failsafe value, and a generation changes only by one step, to a resource
that then has a holder. -/
def Obligations.OwnersMoveTheirState : Prop :=
  ∀ (c : Instr) (s t : State), exec c s = .next t → (∀ pins, c ≠ .resetEnd pins) →
    (c ≠ .tick → t.timeCount = s.timeCount) ∧
    (∀ p, c ≠ .openSession p → (t.session p).number = (s.session p).number) ∧
    ∀ r : Resource,
      ((∀ p, c ≠ .setFailsafe p) → (t.entry r).failsafe = (s.entry r).failsafe) ∧
      ((t.entry r).generation = (s.entry r).generation ∨
        ((t.entry r).generation = generationAfter (s.entry r).generation ∧ ∃ p, t.holds p r = true))
end

