-- ==== Sys2Proof/Laws/State.lean ====
section
/-! SUPPORT. What each update of one part of the state leaves as it was: one lemma for each field and each update. -/

namespace Sys2Proof.Machine

/-! ### One value for each port -/

@[simp] theorem PerPort.get_of {α : Type} (f : Port → α) (p : Port) : (PerPort.of f).get p = f p := by cases p <;> rfl

@[simp] theorem PerPort.get_set {α : Type} (v : PerPort α) (p q : Port) (a : α) :
    (v.set p a).get q = if q = p then a else v.get q := by cases p <;> cases q <;> rfl

theorem PerPort.ext_get {α : Type} (v w : PerPort α) (h : ∀ p, v.get p = w.get p) : v = w := by
  have h0 := h .hp0
  have h1 := h .hp1
  have h2 := h .hp2
  cases v; cases w; simp_all [PerPort.get]

/-! ### The changed part -/

@[simp] theorem State.session_withSession (s : State) (p q : Port) (f : Session → Session) :
    (s.withSession p f).session q = if q = p then f (s.session p) else s.session q := by
  simp [State.withSession, State.session]

@[simp] theorem State.port_withPort (s : State) (p q : Port) (f : PortUnit → PortUnit) :
    (s.withPort p f).port q = if q = p then f (s.port p) else s.port q := by
  simp [State.withPort, State.port]

@[simp] theorem State.entry_withEntryOf (s : State) (f : Resource → LeaseEntry → LeaseEntry) (r : Resource) :
    (s.withEntryOf f).entry r = f r (s.entry r) := by
  simp [State.withEntryOf, State.entry]

@[simp] theorem State.entry_withEntries (s : State) (set : ResourceSet) (f : LeaseEntry → LeaseEntry) (r : Resource) :
    (s.withEntries set f).entry r = if inSet set r then f (s.entry r) else s.entry r := by
  simp [State.withEntries]

@[simp] theorem State.line_withLines (s : State) (f : Line → LineCell → LineCell) (l : Line) :
    (s.withLines f).line l = f l (s.line l) := by
  simp [State.withLines, State.line]

@[simp] theorem State.line_withLine (s : State) (k l : Line) (f : LineCell → LineCell) :
    (s.withLine k f).line l = if l = k then f (s.line l) else s.line l := by
  simp [State.withLine]

@[simp] theorem State.engine_withEngines (s : State) (f : EngineNo → Engine → Engine) (e : EngineNo) :
    (s.withEngines f).engine e = f e (s.engine e) := by
  simp [State.withEngines, State.engine]

@[simp] theorem State.engine_withEngine (s : State) (e k : EngineNo) (f : Engine → Engine) :
    (s.withEngine e f).engine k = if k = e then f (s.engine k) else s.engine k := by
  simp [State.withEngine]

@[simp] theorem State.attn_withAttn (s : State) (p q : Port) (b : Bool) :
    (s.withAttn p b).attn.get q = if q = p then b else s.attn.get q := by
  simp [State.withAttn]

@[simp] theorem State.attn_reattend (s : State) (ps : PortSet) (q : Port) :
    (s.reattend ps).attn.get q = if ps.get q then s.attentionDue q else s.attn.get q := by
  simp [State.reattend]

@[simp] theorem State.line_withEngines (s : State) (f : EngineNo → Engine → Engine) (l : Line) :
    (s.withEngines f).line l = s.line l := by simp only [State.line, State.withEngines]

@[simp] theorem State.line_redrive (s : State) (set : ResourceSet) (l : Line) :
    (s.redrive set).line l = if inSet set (lineResource l) then s.decidedCell l else s.line l := by
  simp [State.redrive]

@[simp] theorem State.engine_redrive (s : State) (set : ResourceSet) (e : EngineNo) :
    (s.redrive set).engine e = if inSet set (engineResource e) then s.decidedEngine e else s.engine e := by
  simp only [State.redrive, State.engine_withEngines]
  simp only [State.engine, State.withLines]

@[simp] theorem State.served_servedLast (s : State) (p : Port) : (s.served p).servedLast = p := rfl

@[simp] theorem State.withOffers_offers (s : State) (l : List Offer) : (s.withOffers l).offers = l := rfl

@[simp] theorem State.withWaitList_waitList (s : State) (l : List WaitEntry) : (s.withWaitList l).waitList = l := rfl

@[simp] theorem State.withJournal_journal (s : State) (l : List Record) : (s.withJournal l).journal = l := rfl

@[simp] theorem State.withProfile_profile (s : State) (f : Profile) : (s.withProfile f).profile = f := rfl

@[simp] theorem State.withForce_force (s : State) (f : ForceMonitor) : (s.withForce f).force = f := rfl

/-! ### The rest -/

@[simp] theorem State.withSession_leases (s : State) (p : Port) (f : Session → Session) :
    (s.withSession p f).leases = s.leases := by simp only [State.withSession]
@[simp] theorem State.withSession_offers (s : State) (p : Port) (f : Session → Session) :
    (s.withSession p f).offers = s.offers := by simp only [State.withSession]
@[simp] theorem State.withSession_offerCounter (s : State) (p : Port) (f : Session → Session) :
    (s.withSession p f).offerCounter = s.offerCounter := by simp only [State.withSession]
@[simp] theorem State.withSession_waitList (s : State) (p : Port) (f : Session → Session) :
    (s.withSession p f).waitList = s.waitList := by simp only [State.withSession]
@[simp] theorem State.withSession_ticketCounter (s : State) (p : Port) (f : Session → Session) :
    (s.withSession p f).ticketCounter = s.ticketCounter := by simp only [State.withSession]
@[simp] theorem State.withSession_lines (s : State) (p : Port) (f : Session → Session) :
    (s.withSession p f).lines = s.lines := by simp only [State.withSession]
@[simp] theorem State.withSession_force (s : State) (p : Port) (f : Session → Session) :
    (s.withSession p f).force = s.force := by simp only [State.withSession]
@[simp] theorem State.withSession_engines (s : State) (p : Port) (f : Session → Session) :
    (s.withSession p f).engines = s.engines := by simp only [State.withSession]
@[simp] theorem State.withSession_timeCount (s : State) (p : Port) (f : Session → Session) :
    (s.withSession p f).timeCount = s.timeCount := by simp only [State.withSession]
@[simp] theorem State.withSession_profile (s : State) (p : Port) (f : Session → Session) :
    (s.withSession p f).profile = s.profile := by simp only [State.withSession]
@[simp] theorem State.withSession_journal (s : State) (p : Port) (f : Session → Session) :
    (s.withSession p f).journal = s.journal := by simp only [State.withSession]
@[simp] theorem State.withSession_nextSeq (s : State) (p : Port) (f : Session → Session) :
    (s.withSession p f).nextSeq = s.nextSeq := by simp only [State.withSession]
@[simp] theorem State.withSession_attn (s : State) (p : Port) (f : Session → Session) :
    (s.withSession p f).attn = s.attn := by simp only [State.withSession]
@[simp] theorem State.withSession_ports (s : State) (p : Port) (f : Session → Session) :
    (s.withSession p f).ports = s.ports := by simp only [State.withSession]
@[simp] theorem State.withSession_servedLast (s : State) (p : Port) (f : Session → Session) :
    (s.withSession p f).servedLast = s.servedLast := by simp only [State.withSession]
@[simp] theorem State.withSession_resetCause (s : State) (p : Port) (f : Session → Session) :
    (s.withSession p f).resetCause = s.resetCause := by simp only [State.withSession]
@[simp] theorem State.withSession_inReset (s : State) (p : Port) (f : Session → Session) :
    (s.withSession p f).inReset = s.inReset := by simp only [State.withSession]
@[simp] theorem State.withSession_i2cAddress (s : State) (p : Port) (f : Session → Session) :
    (s.withSession p f).i2cAddress = s.i2cAddress := by simp only [State.withSession]
@[simp] theorem State.withSession_freeCount (s : State) (p : Port) (f : Session → Session) :
    (s.withSession p f).freeCount = s.freeCount := by simp only [State.withSession]
@[simp] theorem State.withSession_pending (s : State) (p : Port) (f : Session → Session) :
    (s.withSession p f).pending = s.pending := by simp only [State.withSession]

@[simp] theorem State.withEntryOf_sessions (s : State) (f : Resource → LeaseEntry → LeaseEntry) :
    (s.withEntryOf f).sessions = s.sessions := by simp only [State.withEntryOf]
@[simp] theorem State.withEntryOf_offers (s : State) (f : Resource → LeaseEntry → LeaseEntry) :
    (s.withEntryOf f).offers = s.offers := by simp only [State.withEntryOf]
@[simp] theorem State.withEntryOf_offerCounter (s : State) (f : Resource → LeaseEntry → LeaseEntry) :
    (s.withEntryOf f).offerCounter = s.offerCounter := by simp only [State.withEntryOf]
@[simp] theorem State.withEntryOf_waitList (s : State) (f : Resource → LeaseEntry → LeaseEntry) :
    (s.withEntryOf f).waitList = s.waitList := by simp only [State.withEntryOf]
@[simp] theorem State.withEntryOf_ticketCounter (s : State) (f : Resource → LeaseEntry → LeaseEntry) :
    (s.withEntryOf f).ticketCounter = s.ticketCounter := by simp only [State.withEntryOf]
@[simp] theorem State.withEntryOf_lines (s : State) (f : Resource → LeaseEntry → LeaseEntry) :
    (s.withEntryOf f).lines = s.lines := by simp only [State.withEntryOf]
@[simp] theorem State.withEntryOf_force (s : State) (f : Resource → LeaseEntry → LeaseEntry) :
    (s.withEntryOf f).force = s.force := by simp only [State.withEntryOf]
@[simp] theorem State.withEntryOf_engines (s : State) (f : Resource → LeaseEntry → LeaseEntry) :
    (s.withEntryOf f).engines = s.engines := by simp only [State.withEntryOf]
@[simp] theorem State.withEntryOf_timeCount (s : State) (f : Resource → LeaseEntry → LeaseEntry) :
    (s.withEntryOf f).timeCount = s.timeCount := by simp only [State.withEntryOf]
@[simp] theorem State.withEntryOf_profile (s : State) (f : Resource → LeaseEntry → LeaseEntry) :
    (s.withEntryOf f).profile = s.profile := by simp only [State.withEntryOf]
@[simp] theorem State.withEntryOf_journal (s : State) (f : Resource → LeaseEntry → LeaseEntry) :
    (s.withEntryOf f).journal = s.journal := by simp only [State.withEntryOf]
@[simp] theorem State.withEntryOf_nextSeq (s : State) (f : Resource → LeaseEntry → LeaseEntry) :
    (s.withEntryOf f).nextSeq = s.nextSeq := by simp only [State.withEntryOf]
@[simp] theorem State.withEntryOf_attn (s : State) (f : Resource → LeaseEntry → LeaseEntry) :
    (s.withEntryOf f).attn = s.attn := by simp only [State.withEntryOf]
@[simp] theorem State.withEntryOf_ports (s : State) (f : Resource → LeaseEntry → LeaseEntry) :
    (s.withEntryOf f).ports = s.ports := by simp only [State.withEntryOf]
@[simp] theorem State.withEntryOf_servedLast (s : State) (f : Resource → LeaseEntry → LeaseEntry) :
    (s.withEntryOf f).servedLast = s.servedLast := by simp only [State.withEntryOf]
@[simp] theorem State.withEntryOf_resetCause (s : State) (f : Resource → LeaseEntry → LeaseEntry) :
    (s.withEntryOf f).resetCause = s.resetCause := by simp only [State.withEntryOf]
@[simp] theorem State.withEntryOf_inReset (s : State) (f : Resource → LeaseEntry → LeaseEntry) :
    (s.withEntryOf f).inReset = s.inReset := by simp only [State.withEntryOf]
@[simp] theorem State.withEntryOf_i2cAddress (s : State) (f : Resource → LeaseEntry → LeaseEntry) :
    (s.withEntryOf f).i2cAddress = s.i2cAddress := by simp only [State.withEntryOf]
@[simp] theorem State.withEntryOf_freeCount (s : State) (f : Resource → LeaseEntry → LeaseEntry) :
    (s.withEntryOf f).freeCount = s.freeCount := by simp only [State.withEntryOf]
@[simp] theorem State.withEntryOf_pending (s : State) (f : Resource → LeaseEntry → LeaseEntry) :
    (s.withEntryOf f).pending = s.pending := by simp only [State.withEntryOf]

@[simp] theorem State.withEngines_sessions (s : State) (f : EngineNo → Engine → Engine) :
    (s.withEngines f).sessions = s.sessions := by simp only [State.withEngines]
@[simp] theorem State.withEngines_leases (s : State) (f : EngineNo → Engine → Engine) :
    (s.withEngines f).leases = s.leases := by simp only [State.withEngines]
@[simp] theorem State.withEngines_offers (s : State) (f : EngineNo → Engine → Engine) :
    (s.withEngines f).offers = s.offers := by simp only [State.withEngines]
@[simp] theorem State.withEngines_offerCounter (s : State) (f : EngineNo → Engine → Engine) :
    (s.withEngines f).offerCounter = s.offerCounter := by simp only [State.withEngines]
@[simp] theorem State.withEngines_waitList (s : State) (f : EngineNo → Engine → Engine) :
    (s.withEngines f).waitList = s.waitList := by simp only [State.withEngines]
@[simp] theorem State.withEngines_ticketCounter (s : State) (f : EngineNo → Engine → Engine) :
    (s.withEngines f).ticketCounter = s.ticketCounter := by simp only [State.withEngines]
@[simp] theorem State.withEngines_lines (s : State) (f : EngineNo → Engine → Engine) :
    (s.withEngines f).lines = s.lines := by simp only [State.withEngines]
@[simp] theorem State.withEngines_force (s : State) (f : EngineNo → Engine → Engine) :
    (s.withEngines f).force = s.force := by simp only [State.withEngines]
@[simp] theorem State.withEngines_timeCount (s : State) (f : EngineNo → Engine → Engine) :
    (s.withEngines f).timeCount = s.timeCount := by simp only [State.withEngines]
@[simp] theorem State.withEngines_profile (s : State) (f : EngineNo → Engine → Engine) :
    (s.withEngines f).profile = s.profile := by simp only [State.withEngines]
@[simp] theorem State.withEngines_journal (s : State) (f : EngineNo → Engine → Engine) :
    (s.withEngines f).journal = s.journal := by simp only [State.withEngines]
@[simp] theorem State.withEngines_nextSeq (s : State) (f : EngineNo → Engine → Engine) :
    (s.withEngines f).nextSeq = s.nextSeq := by simp only [State.withEngines]
@[simp] theorem State.withEngines_attn (s : State) (f : EngineNo → Engine → Engine) :
    (s.withEngines f).attn = s.attn := by simp only [State.withEngines]
@[simp] theorem State.withEngines_ports (s : State) (f : EngineNo → Engine → Engine) :
    (s.withEngines f).ports = s.ports := by simp only [State.withEngines]
@[simp] theorem State.withEngines_servedLast (s : State) (f : EngineNo → Engine → Engine) :
    (s.withEngines f).servedLast = s.servedLast := by simp only [State.withEngines]
@[simp] theorem State.withEngines_resetCause (s : State) (f : EngineNo → Engine → Engine) :
    (s.withEngines f).resetCause = s.resetCause := by simp only [State.withEngines]
@[simp] theorem State.withEngines_inReset (s : State) (f : EngineNo → Engine → Engine) :
    (s.withEngines f).inReset = s.inReset := by simp only [State.withEngines]
@[simp] theorem State.withEngines_i2cAddress (s : State) (f : EngineNo → Engine → Engine) :
    (s.withEngines f).i2cAddress = s.i2cAddress := by simp only [State.withEngines]
@[simp] theorem State.withEngines_freeCount (s : State) (f : EngineNo → Engine → Engine) :
    (s.withEngines f).freeCount = s.freeCount := by simp only [State.withEngines]
@[simp] theorem State.withEngines_pending (s : State) (f : EngineNo → Engine → Engine) :
    (s.withEngines f).pending = s.pending := by simp only [State.withEngines]

@[simp] theorem State.withOffers_sessions (s : State) (l : List Offer) :
    (s.withOffers l).sessions = s.sessions := by simp only [State.withOffers]
@[simp] theorem State.withOffers_leases (s : State) (l : List Offer) :
    (s.withOffers l).leases = s.leases := by simp only [State.withOffers]
@[simp] theorem State.withOffers_offerCounter (s : State) (l : List Offer) :
    (s.withOffers l).offerCounter = s.offerCounter := by simp only [State.withOffers]
@[simp] theorem State.withOffers_waitList (s : State) (l : List Offer) :
    (s.withOffers l).waitList = s.waitList := by simp only [State.withOffers]
@[simp] theorem State.withOffers_ticketCounter (s : State) (l : List Offer) :
    (s.withOffers l).ticketCounter = s.ticketCounter := by simp only [State.withOffers]
@[simp] theorem State.withOffers_lines (s : State) (l : List Offer) :
    (s.withOffers l).lines = s.lines := by simp only [State.withOffers]
@[simp] theorem State.withOffers_force (s : State) (l : List Offer) :
    (s.withOffers l).force = s.force := by simp only [State.withOffers]
@[simp] theorem State.withOffers_engines (s : State) (l : List Offer) :
    (s.withOffers l).engines = s.engines := by simp only [State.withOffers]
@[simp] theorem State.withOffers_timeCount (s : State) (l : List Offer) :
    (s.withOffers l).timeCount = s.timeCount := by simp only [State.withOffers]
@[simp] theorem State.withOffers_profile (s : State) (l : List Offer) :
    (s.withOffers l).profile = s.profile := by simp only [State.withOffers]
@[simp] theorem State.withOffers_journal (s : State) (l : List Offer) :
    (s.withOffers l).journal = s.journal := by simp only [State.withOffers]
@[simp] theorem State.withOffers_nextSeq (s : State) (l : List Offer) :
    (s.withOffers l).nextSeq = s.nextSeq := by simp only [State.withOffers]
@[simp] theorem State.withOffers_attn (s : State) (l : List Offer) :
    (s.withOffers l).attn = s.attn := by simp only [State.withOffers]
@[simp] theorem State.withOffers_ports (s : State) (l : List Offer) :
    (s.withOffers l).ports = s.ports := by simp only [State.withOffers]
@[simp] theorem State.withOffers_servedLast (s : State) (l : List Offer) :
    (s.withOffers l).servedLast = s.servedLast := by simp only [State.withOffers]
@[simp] theorem State.withOffers_resetCause (s : State) (l : List Offer) :
    (s.withOffers l).resetCause = s.resetCause := by simp only [State.withOffers]
@[simp] theorem State.withOffers_inReset (s : State) (l : List Offer) :
    (s.withOffers l).inReset = s.inReset := by simp only [State.withOffers]
@[simp] theorem State.withOffers_i2cAddress (s : State) (l : List Offer) :
    (s.withOffers l).i2cAddress = s.i2cAddress := by simp only [State.withOffers]
@[simp] theorem State.withOffers_freeCount (s : State) (l : List Offer) :
    (s.withOffers l).freeCount = s.freeCount := by simp only [State.withOffers]
@[simp] theorem State.withOffers_pending (s : State) (l : List Offer) :
    (s.withOffers l).pending = s.pending := by simp only [State.withOffers]

@[simp] theorem State.withWaitList_sessions (s : State) (l : List WaitEntry) :
    (s.withWaitList l).sessions = s.sessions := by simp only [State.withWaitList]
@[simp] theorem State.withWaitList_leases (s : State) (l : List WaitEntry) :
    (s.withWaitList l).leases = s.leases := by simp only [State.withWaitList]
@[simp] theorem State.withWaitList_offers (s : State) (l : List WaitEntry) :
    (s.withWaitList l).offers = s.offers := by simp only [State.withWaitList]
@[simp] theorem State.withWaitList_offerCounter (s : State) (l : List WaitEntry) :
    (s.withWaitList l).offerCounter = s.offerCounter := by simp only [State.withWaitList]
@[simp] theorem State.withWaitList_ticketCounter (s : State) (l : List WaitEntry) :
    (s.withWaitList l).ticketCounter = s.ticketCounter := by simp only [State.withWaitList]
@[simp] theorem State.withWaitList_lines (s : State) (l : List WaitEntry) :
    (s.withWaitList l).lines = s.lines := by simp only [State.withWaitList]
@[simp] theorem State.withWaitList_force (s : State) (l : List WaitEntry) :
    (s.withWaitList l).force = s.force := by simp only [State.withWaitList]
@[simp] theorem State.withWaitList_engines (s : State) (l : List WaitEntry) :
    (s.withWaitList l).engines = s.engines := by simp only [State.withWaitList]
@[simp] theorem State.withWaitList_timeCount (s : State) (l : List WaitEntry) :
    (s.withWaitList l).timeCount = s.timeCount := by simp only [State.withWaitList]
@[simp] theorem State.withWaitList_profile (s : State) (l : List WaitEntry) :
    (s.withWaitList l).profile = s.profile := by simp only [State.withWaitList]
@[simp] theorem State.withWaitList_journal (s : State) (l : List WaitEntry) :
    (s.withWaitList l).journal = s.journal := by simp only [State.withWaitList]
@[simp] theorem State.withWaitList_nextSeq (s : State) (l : List WaitEntry) :
    (s.withWaitList l).nextSeq = s.nextSeq := by simp only [State.withWaitList]
@[simp] theorem State.withWaitList_attn (s : State) (l : List WaitEntry) :
    (s.withWaitList l).attn = s.attn := by simp only [State.withWaitList]
@[simp] theorem State.withWaitList_ports (s : State) (l : List WaitEntry) :
    (s.withWaitList l).ports = s.ports := by simp only [State.withWaitList]
@[simp] theorem State.withWaitList_servedLast (s : State) (l : List WaitEntry) :
    (s.withWaitList l).servedLast = s.servedLast := by simp only [State.withWaitList]
@[simp] theorem State.withWaitList_resetCause (s : State) (l : List WaitEntry) :
    (s.withWaitList l).resetCause = s.resetCause := by simp only [State.withWaitList]
@[simp] theorem State.withWaitList_inReset (s : State) (l : List WaitEntry) :
    (s.withWaitList l).inReset = s.inReset := by simp only [State.withWaitList]
@[simp] theorem State.withWaitList_i2cAddress (s : State) (l : List WaitEntry) :
    (s.withWaitList l).i2cAddress = s.i2cAddress := by simp only [State.withWaitList]
@[simp] theorem State.withWaitList_freeCount (s : State) (l : List WaitEntry) :
    (s.withWaitList l).freeCount = s.freeCount := by simp only [State.withWaitList]
@[simp] theorem State.withWaitList_pending (s : State) (l : List WaitEntry) :
    (s.withWaitList l).pending = s.pending := by simp only [State.withWaitList]

@[simp] theorem State.withJournal_sessions (s : State) (l : List Record) :
    (s.withJournal l).sessions = s.sessions := by simp only [State.withJournal]
@[simp] theorem State.withJournal_leases (s : State) (l : List Record) :
    (s.withJournal l).leases = s.leases := by simp only [State.withJournal]
@[simp] theorem State.withJournal_offers (s : State) (l : List Record) :
    (s.withJournal l).offers = s.offers := by simp only [State.withJournal]
@[simp] theorem State.withJournal_offerCounter (s : State) (l : List Record) :
    (s.withJournal l).offerCounter = s.offerCounter := by simp only [State.withJournal]
@[simp] theorem State.withJournal_waitList (s : State) (l : List Record) :
    (s.withJournal l).waitList = s.waitList := by simp only [State.withJournal]
@[simp] theorem State.withJournal_ticketCounter (s : State) (l : List Record) :
    (s.withJournal l).ticketCounter = s.ticketCounter := by simp only [State.withJournal]
@[simp] theorem State.withJournal_lines (s : State) (l : List Record) :
    (s.withJournal l).lines = s.lines := by simp only [State.withJournal]
@[simp] theorem State.withJournal_force (s : State) (l : List Record) :
    (s.withJournal l).force = s.force := by simp only [State.withJournal]
@[simp] theorem State.withJournal_engines (s : State) (l : List Record) :
    (s.withJournal l).engines = s.engines := by simp only [State.withJournal]
@[simp] theorem State.withJournal_timeCount (s : State) (l : List Record) :
    (s.withJournal l).timeCount = s.timeCount := by simp only [State.withJournal]
@[simp] theorem State.withJournal_profile (s : State) (l : List Record) :
    (s.withJournal l).profile = s.profile := by simp only [State.withJournal]
@[simp] theorem State.withJournal_nextSeq (s : State) (l : List Record) :
    (s.withJournal l).nextSeq = s.nextSeq := by simp only [State.withJournal]
@[simp] theorem State.withJournal_attn (s : State) (l : List Record) :
    (s.withJournal l).attn = s.attn := by simp only [State.withJournal]
@[simp] theorem State.withJournal_ports (s : State) (l : List Record) :
    (s.withJournal l).ports = s.ports := by simp only [State.withJournal]
@[simp] theorem State.withJournal_servedLast (s : State) (l : List Record) :
    (s.withJournal l).servedLast = s.servedLast := by simp only [State.withJournal]
@[simp] theorem State.withJournal_resetCause (s : State) (l : List Record) :
    (s.withJournal l).resetCause = s.resetCause := by simp only [State.withJournal]
@[simp] theorem State.withJournal_inReset (s : State) (l : List Record) :
    (s.withJournal l).inReset = s.inReset := by simp only [State.withJournal]
@[simp] theorem State.withJournal_i2cAddress (s : State) (l : List Record) :
    (s.withJournal l).i2cAddress = s.i2cAddress := by simp only [State.withJournal]
@[simp] theorem State.withJournal_freeCount (s : State) (l : List Record) :
    (s.withJournal l).freeCount = s.freeCount := by simp only [State.withJournal]
@[simp] theorem State.withJournal_pending (s : State) (l : List Record) :
    (s.withJournal l).pending = s.pending := by simp only [State.withJournal]

@[simp] theorem State.withProfile_sessions (s : State) (f : Profile) :
    (s.withProfile f).sessions = s.sessions := by simp only [State.withProfile]
@[simp] theorem State.withProfile_leases (s : State) (f : Profile) :
    (s.withProfile f).leases = s.leases := by simp only [State.withProfile]
@[simp] theorem State.withProfile_offers (s : State) (f : Profile) :
    (s.withProfile f).offers = s.offers := by simp only [State.withProfile]
@[simp] theorem State.withProfile_offerCounter (s : State) (f : Profile) :
    (s.withProfile f).offerCounter = s.offerCounter := by simp only [State.withProfile]
@[simp] theorem State.withProfile_waitList (s : State) (f : Profile) :
    (s.withProfile f).waitList = s.waitList := by simp only [State.withProfile]
@[simp] theorem State.withProfile_ticketCounter (s : State) (f : Profile) :
    (s.withProfile f).ticketCounter = s.ticketCounter := by simp only [State.withProfile]
@[simp] theorem State.withProfile_lines (s : State) (f : Profile) :
    (s.withProfile f).lines = s.lines := by simp only [State.withProfile]
@[simp] theorem State.withProfile_force (s : State) (f : Profile) :
    (s.withProfile f).force = s.force := by simp only [State.withProfile]
@[simp] theorem State.withProfile_engines (s : State) (f : Profile) :
    (s.withProfile f).engines = s.engines := by simp only [State.withProfile]
@[simp] theorem State.withProfile_timeCount (s : State) (f : Profile) :
    (s.withProfile f).timeCount = s.timeCount := by simp only [State.withProfile]
@[simp] theorem State.withProfile_journal (s : State) (f : Profile) :
    (s.withProfile f).journal = s.journal := by simp only [State.withProfile]
@[simp] theorem State.withProfile_nextSeq (s : State) (f : Profile) :
    (s.withProfile f).nextSeq = s.nextSeq := by simp only [State.withProfile]
@[simp] theorem State.withProfile_attn (s : State) (f : Profile) :
    (s.withProfile f).attn = s.attn := by simp only [State.withProfile]
@[simp] theorem State.withProfile_ports (s : State) (f : Profile) :
    (s.withProfile f).ports = s.ports := by simp only [State.withProfile]
@[simp] theorem State.withProfile_servedLast (s : State) (f : Profile) :
    (s.withProfile f).servedLast = s.servedLast := by simp only [State.withProfile]
@[simp] theorem State.withProfile_resetCause (s : State) (f : Profile) :
    (s.withProfile f).resetCause = s.resetCause := by simp only [State.withProfile]
@[simp] theorem State.withProfile_inReset (s : State) (f : Profile) :
    (s.withProfile f).inReset = s.inReset := by simp only [State.withProfile]
@[simp] theorem State.withProfile_i2cAddress (s : State) (f : Profile) :
    (s.withProfile f).i2cAddress = s.i2cAddress := by simp only [State.withProfile]
@[simp] theorem State.withProfile_freeCount (s : State) (f : Profile) :
    (s.withProfile f).freeCount = s.freeCount := by simp only [State.withProfile]
@[simp] theorem State.withProfile_pending (s : State) (f : Profile) :
    (s.withProfile f).pending = s.pending := by simp only [State.withProfile]

@[simp] theorem State.withForce_sessions (s : State) (f : ForceMonitor) :
    (s.withForce f).sessions = s.sessions := by simp only [State.withForce]
@[simp] theorem State.withForce_leases (s : State) (f : ForceMonitor) :
    (s.withForce f).leases = s.leases := by simp only [State.withForce]
@[simp] theorem State.withForce_offers (s : State) (f : ForceMonitor) :
    (s.withForce f).offers = s.offers := by simp only [State.withForce]
@[simp] theorem State.withForce_offerCounter (s : State) (f : ForceMonitor) :
    (s.withForce f).offerCounter = s.offerCounter := by simp only [State.withForce]
@[simp] theorem State.withForce_waitList (s : State) (f : ForceMonitor) :
    (s.withForce f).waitList = s.waitList := by simp only [State.withForce]
@[simp] theorem State.withForce_ticketCounter (s : State) (f : ForceMonitor) :
    (s.withForce f).ticketCounter = s.ticketCounter := by simp only [State.withForce]
@[simp] theorem State.withForce_lines (s : State) (f : ForceMonitor) :
    (s.withForce f).lines = s.lines := by simp only [State.withForce]
@[simp] theorem State.withForce_engines (s : State) (f : ForceMonitor) :
    (s.withForce f).engines = s.engines := by simp only [State.withForce]
@[simp] theorem State.withForce_timeCount (s : State) (f : ForceMonitor) :
    (s.withForce f).timeCount = s.timeCount := by simp only [State.withForce]
@[simp] theorem State.withForce_profile (s : State) (f : ForceMonitor) :
    (s.withForce f).profile = s.profile := by simp only [State.withForce]
@[simp] theorem State.withForce_journal (s : State) (f : ForceMonitor) :
    (s.withForce f).journal = s.journal := by simp only [State.withForce]
@[simp] theorem State.withForce_nextSeq (s : State) (f : ForceMonitor) :
    (s.withForce f).nextSeq = s.nextSeq := by simp only [State.withForce]
@[simp] theorem State.withForce_attn (s : State) (f : ForceMonitor) :
    (s.withForce f).attn = s.attn := by simp only [State.withForce]
@[simp] theorem State.withForce_ports (s : State) (f : ForceMonitor) :
    (s.withForce f).ports = s.ports := by simp only [State.withForce]
@[simp] theorem State.withForce_servedLast (s : State) (f : ForceMonitor) :
    (s.withForce f).servedLast = s.servedLast := by simp only [State.withForce]
@[simp] theorem State.withForce_resetCause (s : State) (f : ForceMonitor) :
    (s.withForce f).resetCause = s.resetCause := by simp only [State.withForce]
@[simp] theorem State.withForce_inReset (s : State) (f : ForceMonitor) :
    (s.withForce f).inReset = s.inReset := by simp only [State.withForce]
@[simp] theorem State.withForce_i2cAddress (s : State) (f : ForceMonitor) :
    (s.withForce f).i2cAddress = s.i2cAddress := by simp only [State.withForce]
@[simp] theorem State.withForce_freeCount (s : State) (f : ForceMonitor) :
    (s.withForce f).freeCount = s.freeCount := by simp only [State.withForce]
@[simp] theorem State.withForce_pending (s : State) (f : ForceMonitor) :
    (s.withForce f).pending = s.pending := by simp only [State.withForce]

@[simp] theorem State.served_sessions (s : State) (p : Port) :
    (s.served p).sessions = s.sessions := by simp only [State.served]
@[simp] theorem State.served_leases (s : State) (p : Port) :
    (s.served p).leases = s.leases := by simp only [State.served]
@[simp] theorem State.served_offers (s : State) (p : Port) :
    (s.served p).offers = s.offers := by simp only [State.served]
@[simp] theorem State.served_offerCounter (s : State) (p : Port) :
    (s.served p).offerCounter = s.offerCounter := by simp only [State.served]
@[simp] theorem State.served_waitList (s : State) (p : Port) :
    (s.served p).waitList = s.waitList := by simp only [State.served]
@[simp] theorem State.served_ticketCounter (s : State) (p : Port) :
    (s.served p).ticketCounter = s.ticketCounter := by simp only [State.served]
@[simp] theorem State.served_lines (s : State) (p : Port) :
    (s.served p).lines = s.lines := by simp only [State.served]
@[simp] theorem State.served_force (s : State) (p : Port) :
    (s.served p).force = s.force := by simp only [State.served]
@[simp] theorem State.served_engines (s : State) (p : Port) :
    (s.served p).engines = s.engines := by simp only [State.served]
@[simp] theorem State.served_timeCount (s : State) (p : Port) :
    (s.served p).timeCount = s.timeCount := by simp only [State.served]
@[simp] theorem State.served_profile (s : State) (p : Port) :
    (s.served p).profile = s.profile := by simp only [State.served]
@[simp] theorem State.served_journal (s : State) (p : Port) :
    (s.served p).journal = s.journal := by simp only [State.served]
@[simp] theorem State.served_nextSeq (s : State) (p : Port) :
    (s.served p).nextSeq = s.nextSeq := by simp only [State.served]
@[simp] theorem State.served_attn (s : State) (p : Port) :
    (s.served p).attn = s.attn := by simp only [State.served]
@[simp] theorem State.served_ports (s : State) (p : Port) :
    (s.served p).ports = s.ports := by simp only [State.served]
@[simp] theorem State.served_resetCause (s : State) (p : Port) :
    (s.served p).resetCause = s.resetCause := by simp only [State.served]
@[simp] theorem State.served_inReset (s : State) (p : Port) :
    (s.served p).inReset = s.inReset := by simp only [State.served]
@[simp] theorem State.served_i2cAddress (s : State) (p : Port) :
    (s.served p).i2cAddress = s.i2cAddress := by simp only [State.served]
@[simp] theorem State.served_freeCount (s : State) (p : Port) :
    (s.served p).freeCount = s.freeCount := by simp only [State.served]
@[simp] theorem State.served_pending (s : State) (p : Port) :
    (s.served p).pending = s.pending := by simp only [State.served]

@[simp] theorem State.withEntries_sessions (s : State) (set : ResourceSet) (f : LeaseEntry → LeaseEntry) :
    (s.withEntries set f).sessions = s.sessions := by simp only [State.withEntries, State.withEntryOf]
@[simp] theorem State.withEntries_offers (s : State) (set : ResourceSet) (f : LeaseEntry → LeaseEntry) :
    (s.withEntries set f).offers = s.offers := by simp only [State.withEntries, State.withEntryOf]
@[simp] theorem State.withEntries_offerCounter (s : State) (set : ResourceSet) (f : LeaseEntry → LeaseEntry) :
    (s.withEntries set f).offerCounter = s.offerCounter := by simp only [State.withEntries, State.withEntryOf]
@[simp] theorem State.withEntries_waitList (s : State) (set : ResourceSet) (f : LeaseEntry → LeaseEntry) :
    (s.withEntries set f).waitList = s.waitList := by simp only [State.withEntries, State.withEntryOf]
@[simp] theorem State.withEntries_ticketCounter (s : State) (set : ResourceSet) (f : LeaseEntry → LeaseEntry) :
    (s.withEntries set f).ticketCounter = s.ticketCounter := by simp only [State.withEntries, State.withEntryOf]
@[simp] theorem State.withEntries_lines (s : State) (set : ResourceSet) (f : LeaseEntry → LeaseEntry) :
    (s.withEntries set f).lines = s.lines := by simp only [State.withEntries, State.withEntryOf]
@[simp] theorem State.withEntries_force (s : State) (set : ResourceSet) (f : LeaseEntry → LeaseEntry) :
    (s.withEntries set f).force = s.force := by simp only [State.withEntries, State.withEntryOf]
@[simp] theorem State.withEntries_engines (s : State) (set : ResourceSet) (f : LeaseEntry → LeaseEntry) :
    (s.withEntries set f).engines = s.engines := by simp only [State.withEntries, State.withEntryOf]
@[simp] theorem State.withEntries_timeCount (s : State) (set : ResourceSet) (f : LeaseEntry → LeaseEntry) :
    (s.withEntries set f).timeCount = s.timeCount := by simp only [State.withEntries, State.withEntryOf]
@[simp] theorem State.withEntries_profile (s : State) (set : ResourceSet) (f : LeaseEntry → LeaseEntry) :
    (s.withEntries set f).profile = s.profile := by simp only [State.withEntries, State.withEntryOf]
@[simp] theorem State.withEntries_journal (s : State) (set : ResourceSet) (f : LeaseEntry → LeaseEntry) :
    (s.withEntries set f).journal = s.journal := by simp only [State.withEntries, State.withEntryOf]
@[simp] theorem State.withEntries_nextSeq (s : State) (set : ResourceSet) (f : LeaseEntry → LeaseEntry) :
    (s.withEntries set f).nextSeq = s.nextSeq := by simp only [State.withEntries, State.withEntryOf]
@[simp] theorem State.withEntries_attn (s : State) (set : ResourceSet) (f : LeaseEntry → LeaseEntry) :
    (s.withEntries set f).attn = s.attn := by simp only [State.withEntries, State.withEntryOf]
@[simp] theorem State.withEntries_ports (s : State) (set : ResourceSet) (f : LeaseEntry → LeaseEntry) :
    (s.withEntries set f).ports = s.ports := by simp only [State.withEntries, State.withEntryOf]
@[simp] theorem State.withEntries_servedLast (s : State) (set : ResourceSet) (f : LeaseEntry → LeaseEntry) :
    (s.withEntries set f).servedLast = s.servedLast := by simp only [State.withEntries, State.withEntryOf]
@[simp] theorem State.withEntries_resetCause (s : State) (set : ResourceSet) (f : LeaseEntry → LeaseEntry) :
    (s.withEntries set f).resetCause = s.resetCause := by simp only [State.withEntries, State.withEntryOf]
@[simp] theorem State.withEntries_inReset (s : State) (set : ResourceSet) (f : LeaseEntry → LeaseEntry) :
    (s.withEntries set f).inReset = s.inReset := by simp only [State.withEntries, State.withEntryOf]
@[simp] theorem State.withEntries_i2cAddress (s : State) (set : ResourceSet) (f : LeaseEntry → LeaseEntry) :
    (s.withEntries set f).i2cAddress = s.i2cAddress := by simp only [State.withEntries, State.withEntryOf]
@[simp] theorem State.withEntries_freeCount (s : State) (set : ResourceSet) (f : LeaseEntry → LeaseEntry) :
    (s.withEntries set f).freeCount = s.freeCount := by simp only [State.withEntries, State.withEntryOf]
@[simp] theorem State.withEntries_pending (s : State) (set : ResourceSet) (f : LeaseEntry → LeaseEntry) :
    (s.withEntries set f).pending = s.pending := by simp only [State.withEntries, State.withEntryOf]

@[simp] theorem State.withLines_sessions (s : State) (f : Line → LineCell → LineCell) :
    (s.withLines f).sessions = s.sessions := by simp only [State.withLines]
@[simp] theorem State.withLines_leases (s : State) (f : Line → LineCell → LineCell) :
    (s.withLines f).leases = s.leases := by simp only [State.withLines]
@[simp] theorem State.withLines_offers (s : State) (f : Line → LineCell → LineCell) :
    (s.withLines f).offers = s.offers := by simp only [State.withLines]
@[simp] theorem State.withLines_offerCounter (s : State) (f : Line → LineCell → LineCell) :
    (s.withLines f).offerCounter = s.offerCounter := by simp only [State.withLines]
@[simp] theorem State.withLines_waitList (s : State) (f : Line → LineCell → LineCell) :
    (s.withLines f).waitList = s.waitList := by simp only [State.withLines]
@[simp] theorem State.withLines_ticketCounter (s : State) (f : Line → LineCell → LineCell) :
    (s.withLines f).ticketCounter = s.ticketCounter := by simp only [State.withLines]
@[simp] theorem State.withLines_force (s : State) (f : Line → LineCell → LineCell) :
    (s.withLines f).force = s.force := by simp only [State.withLines]
@[simp] theorem State.withLines_engines (s : State) (f : Line → LineCell → LineCell) :
    (s.withLines f).engines = s.engines := by simp only [State.withLines]
@[simp] theorem State.withLines_timeCount (s : State) (f : Line → LineCell → LineCell) :
    (s.withLines f).timeCount = s.timeCount := by simp only [State.withLines]
@[simp] theorem State.withLines_profile (s : State) (f : Line → LineCell → LineCell) :
    (s.withLines f).profile = s.profile := by simp only [State.withLines]
@[simp] theorem State.withLines_journal (s : State) (f : Line → LineCell → LineCell) :
    (s.withLines f).journal = s.journal := by simp only [State.withLines]
@[simp] theorem State.withLines_nextSeq (s : State) (f : Line → LineCell → LineCell) :
    (s.withLines f).nextSeq = s.nextSeq := by simp only [State.withLines]
@[simp] theorem State.withLines_attn (s : State) (f : Line → LineCell → LineCell) :
    (s.withLines f).attn = s.attn := by simp only [State.withLines]
@[simp] theorem State.withLines_ports (s : State) (f : Line → LineCell → LineCell) :
    (s.withLines f).ports = s.ports := by simp only [State.withLines]
@[simp] theorem State.withLines_servedLast (s : State) (f : Line → LineCell → LineCell) :
    (s.withLines f).servedLast = s.servedLast := by simp only [State.withLines]
@[simp] theorem State.withLines_resetCause (s : State) (f : Line → LineCell → LineCell) :
    (s.withLines f).resetCause = s.resetCause := by simp only [State.withLines]
@[simp] theorem State.withLines_inReset (s : State) (f : Line → LineCell → LineCell) :
    (s.withLines f).inReset = s.inReset := by simp only [State.withLines]
@[simp] theorem State.withLines_i2cAddress (s : State) (f : Line → LineCell → LineCell) :
    (s.withLines f).i2cAddress = s.i2cAddress := by simp only [State.withLines]
@[simp] theorem State.withLines_freeCount (s : State) (f : Line → LineCell → LineCell) :
    (s.withLines f).freeCount = s.freeCount := by simp only [State.withLines]
@[simp] theorem State.withLines_pending (s : State) (f : Line → LineCell → LineCell) :
    (s.withLines f).pending = s.pending := by simp only [State.withLines]

@[simp] theorem State.withLine_sessions (s : State) (l : Line) (f : LineCell → LineCell) :
    (s.withLine l f).sessions = s.sessions := by simp only [State.withLine, State.withLines]
@[simp] theorem State.withLine_leases (s : State) (l : Line) (f : LineCell → LineCell) :
    (s.withLine l f).leases = s.leases := by simp only [State.withLine, State.withLines]
@[simp] theorem State.withLine_offers (s : State) (l : Line) (f : LineCell → LineCell) :
    (s.withLine l f).offers = s.offers := by simp only [State.withLine, State.withLines]
@[simp] theorem State.withLine_offerCounter (s : State) (l : Line) (f : LineCell → LineCell) :
    (s.withLine l f).offerCounter = s.offerCounter := by simp only [State.withLine, State.withLines]
@[simp] theorem State.withLine_waitList (s : State) (l : Line) (f : LineCell → LineCell) :
    (s.withLine l f).waitList = s.waitList := by simp only [State.withLine, State.withLines]
@[simp] theorem State.withLine_ticketCounter (s : State) (l : Line) (f : LineCell → LineCell) :
    (s.withLine l f).ticketCounter = s.ticketCounter := by simp only [State.withLine, State.withLines]
@[simp] theorem State.withLine_force (s : State) (l : Line) (f : LineCell → LineCell) :
    (s.withLine l f).force = s.force := by simp only [State.withLine, State.withLines]
@[simp] theorem State.withLine_engines (s : State) (l : Line) (f : LineCell → LineCell) :
    (s.withLine l f).engines = s.engines := by simp only [State.withLine, State.withLines]
@[simp] theorem State.withLine_timeCount (s : State) (l : Line) (f : LineCell → LineCell) :
    (s.withLine l f).timeCount = s.timeCount := by simp only [State.withLine, State.withLines]
@[simp] theorem State.withLine_profile (s : State) (l : Line) (f : LineCell → LineCell) :
    (s.withLine l f).profile = s.profile := by simp only [State.withLine, State.withLines]
@[simp] theorem State.withLine_journal (s : State) (l : Line) (f : LineCell → LineCell) :
    (s.withLine l f).journal = s.journal := by simp only [State.withLine, State.withLines]
@[simp] theorem State.withLine_nextSeq (s : State) (l : Line) (f : LineCell → LineCell) :
    (s.withLine l f).nextSeq = s.nextSeq := by simp only [State.withLine, State.withLines]
@[simp] theorem State.withLine_attn (s : State) (l : Line) (f : LineCell → LineCell) :
    (s.withLine l f).attn = s.attn := by simp only [State.withLine, State.withLines]
@[simp] theorem State.withLine_ports (s : State) (l : Line) (f : LineCell → LineCell) :
    (s.withLine l f).ports = s.ports := by simp only [State.withLine, State.withLines]
@[simp] theorem State.withLine_servedLast (s : State) (l : Line) (f : LineCell → LineCell) :
    (s.withLine l f).servedLast = s.servedLast := by simp only [State.withLine, State.withLines]
@[simp] theorem State.withLine_resetCause (s : State) (l : Line) (f : LineCell → LineCell) :
    (s.withLine l f).resetCause = s.resetCause := by simp only [State.withLine, State.withLines]
@[simp] theorem State.withLine_inReset (s : State) (l : Line) (f : LineCell → LineCell) :
    (s.withLine l f).inReset = s.inReset := by simp only [State.withLine, State.withLines]
@[simp] theorem State.withLine_i2cAddress (s : State) (l : Line) (f : LineCell → LineCell) :
    (s.withLine l f).i2cAddress = s.i2cAddress := by simp only [State.withLine, State.withLines]
@[simp] theorem State.withLine_freeCount (s : State) (l : Line) (f : LineCell → LineCell) :
    (s.withLine l f).freeCount = s.freeCount := by simp only [State.withLine, State.withLines]
@[simp] theorem State.withLine_pending (s : State) (l : Line) (f : LineCell → LineCell) :
    (s.withLine l f).pending = s.pending := by simp only [State.withLine, State.withLines]

@[simp] theorem State.withEngine_sessions (s : State) (e : EngineNo) (f : Engine → Engine) :
    (s.withEngine e f).sessions = s.sessions := by simp only [State.withEngine, State.withEngines]
@[simp] theorem State.withEngine_leases (s : State) (e : EngineNo) (f : Engine → Engine) :
    (s.withEngine e f).leases = s.leases := by simp only [State.withEngine, State.withEngines]
@[simp] theorem State.withEngine_offers (s : State) (e : EngineNo) (f : Engine → Engine) :
    (s.withEngine e f).offers = s.offers := by simp only [State.withEngine, State.withEngines]
@[simp] theorem State.withEngine_offerCounter (s : State) (e : EngineNo) (f : Engine → Engine) :
    (s.withEngine e f).offerCounter = s.offerCounter := by simp only [State.withEngine, State.withEngines]
@[simp] theorem State.withEngine_waitList (s : State) (e : EngineNo) (f : Engine → Engine) :
    (s.withEngine e f).waitList = s.waitList := by simp only [State.withEngine, State.withEngines]
@[simp] theorem State.withEngine_ticketCounter (s : State) (e : EngineNo) (f : Engine → Engine) :
    (s.withEngine e f).ticketCounter = s.ticketCounter := by simp only [State.withEngine, State.withEngines]
@[simp] theorem State.withEngine_lines (s : State) (e : EngineNo) (f : Engine → Engine) :
    (s.withEngine e f).lines = s.lines := by simp only [State.withEngine, State.withEngines]
@[simp] theorem State.withEngine_force (s : State) (e : EngineNo) (f : Engine → Engine) :
    (s.withEngine e f).force = s.force := by simp only [State.withEngine, State.withEngines]
@[simp] theorem State.withEngine_timeCount (s : State) (e : EngineNo) (f : Engine → Engine) :
    (s.withEngine e f).timeCount = s.timeCount := by simp only [State.withEngine, State.withEngines]
@[simp] theorem State.withEngine_profile (s : State) (e : EngineNo) (f : Engine → Engine) :
    (s.withEngine e f).profile = s.profile := by simp only [State.withEngine, State.withEngines]
@[simp] theorem State.withEngine_journal (s : State) (e : EngineNo) (f : Engine → Engine) :
    (s.withEngine e f).journal = s.journal := by simp only [State.withEngine, State.withEngines]
@[simp] theorem State.withEngine_nextSeq (s : State) (e : EngineNo) (f : Engine → Engine) :
    (s.withEngine e f).nextSeq = s.nextSeq := by simp only [State.withEngine, State.withEngines]
@[simp] theorem State.withEngine_attn (s : State) (e : EngineNo) (f : Engine → Engine) :
    (s.withEngine e f).attn = s.attn := by simp only [State.withEngine, State.withEngines]
@[simp] theorem State.withEngine_ports (s : State) (e : EngineNo) (f : Engine → Engine) :
    (s.withEngine e f).ports = s.ports := by simp only [State.withEngine, State.withEngines]
@[simp] theorem State.withEngine_servedLast (s : State) (e : EngineNo) (f : Engine → Engine) :
    (s.withEngine e f).servedLast = s.servedLast := by simp only [State.withEngine, State.withEngines]
@[simp] theorem State.withEngine_resetCause (s : State) (e : EngineNo) (f : Engine → Engine) :
    (s.withEngine e f).resetCause = s.resetCause := by simp only [State.withEngine, State.withEngines]
@[simp] theorem State.withEngine_inReset (s : State) (e : EngineNo) (f : Engine → Engine) :
    (s.withEngine e f).inReset = s.inReset := by simp only [State.withEngine, State.withEngines]
@[simp] theorem State.withEngine_i2cAddress (s : State) (e : EngineNo) (f : Engine → Engine) :
    (s.withEngine e f).i2cAddress = s.i2cAddress := by simp only [State.withEngine, State.withEngines]
@[simp] theorem State.withEngine_freeCount (s : State) (e : EngineNo) (f : Engine → Engine) :
    (s.withEngine e f).freeCount = s.freeCount := by simp only [State.withEngine, State.withEngines]
@[simp] theorem State.withEngine_pending (s : State) (e : EngineNo) (f : Engine → Engine) :
    (s.withEngine e f).pending = s.pending := by simp only [State.withEngine, State.withEngines]

@[simp] theorem State.withPort_sessions (s : State) (p : Port) (f : PortUnit → PortUnit) :
    (s.withPort p f).sessions = s.sessions := by simp only [State.withPort]
@[simp] theorem State.withPort_leases (s : State) (p : Port) (f : PortUnit → PortUnit) :
    (s.withPort p f).leases = s.leases := by simp only [State.withPort]
@[simp] theorem State.withPort_offers (s : State) (p : Port) (f : PortUnit → PortUnit) :
    (s.withPort p f).offers = s.offers := by simp only [State.withPort]
@[simp] theorem State.withPort_offerCounter (s : State) (p : Port) (f : PortUnit → PortUnit) :
    (s.withPort p f).offerCounter = s.offerCounter := by simp only [State.withPort]
@[simp] theorem State.withPort_waitList (s : State) (p : Port) (f : PortUnit → PortUnit) :
    (s.withPort p f).waitList = s.waitList := by simp only [State.withPort]
@[simp] theorem State.withPort_ticketCounter (s : State) (p : Port) (f : PortUnit → PortUnit) :
    (s.withPort p f).ticketCounter = s.ticketCounter := by simp only [State.withPort]
@[simp] theorem State.withPort_lines (s : State) (p : Port) (f : PortUnit → PortUnit) :
    (s.withPort p f).lines = s.lines := by simp only [State.withPort]
@[simp] theorem State.withPort_force (s : State) (p : Port) (f : PortUnit → PortUnit) :
    (s.withPort p f).force = s.force := by simp only [State.withPort]
@[simp] theorem State.withPort_engines (s : State) (p : Port) (f : PortUnit → PortUnit) :
    (s.withPort p f).engines = s.engines := by simp only [State.withPort]
@[simp] theorem State.withPort_timeCount (s : State) (p : Port) (f : PortUnit → PortUnit) :
    (s.withPort p f).timeCount = s.timeCount := by simp only [State.withPort]
@[simp] theorem State.withPort_profile (s : State) (p : Port) (f : PortUnit → PortUnit) :
    (s.withPort p f).profile = s.profile := by simp only [State.withPort]
@[simp] theorem State.withPort_journal (s : State) (p : Port) (f : PortUnit → PortUnit) :
    (s.withPort p f).journal = s.journal := by simp only [State.withPort]
@[simp] theorem State.withPort_nextSeq (s : State) (p : Port) (f : PortUnit → PortUnit) :
    (s.withPort p f).nextSeq = s.nextSeq := by simp only [State.withPort]
@[simp] theorem State.withPort_attn (s : State) (p : Port) (f : PortUnit → PortUnit) :
    (s.withPort p f).attn = s.attn := by simp only [State.withPort]
@[simp] theorem State.withPort_servedLast (s : State) (p : Port) (f : PortUnit → PortUnit) :
    (s.withPort p f).servedLast = s.servedLast := by simp only [State.withPort]
@[simp] theorem State.withPort_resetCause (s : State) (p : Port) (f : PortUnit → PortUnit) :
    (s.withPort p f).resetCause = s.resetCause := by simp only [State.withPort]
@[simp] theorem State.withPort_inReset (s : State) (p : Port) (f : PortUnit → PortUnit) :
    (s.withPort p f).inReset = s.inReset := by simp only [State.withPort]
@[simp] theorem State.withPort_i2cAddress (s : State) (p : Port) (f : PortUnit → PortUnit) :
    (s.withPort p f).i2cAddress = s.i2cAddress := by simp only [State.withPort]
@[simp] theorem State.withPort_freeCount (s : State) (p : Port) (f : PortUnit → PortUnit) :
    (s.withPort p f).freeCount = s.freeCount := by simp only [State.withPort]
@[simp] theorem State.withPort_pending (s : State) (p : Port) (f : PortUnit → PortUnit) :
    (s.withPort p f).pending = s.pending := by simp only [State.withPort]

@[simp] theorem State.withAttn_sessions (s : State) (p : Port) (b : Bool) :
    (s.withAttn p b).sessions = s.sessions := by simp only [State.withAttn]
@[simp] theorem State.withAttn_leases (s : State) (p : Port) (b : Bool) :
    (s.withAttn p b).leases = s.leases := by simp only [State.withAttn]
@[simp] theorem State.withAttn_offers (s : State) (p : Port) (b : Bool) :
    (s.withAttn p b).offers = s.offers := by simp only [State.withAttn]
@[simp] theorem State.withAttn_offerCounter (s : State) (p : Port) (b : Bool) :
    (s.withAttn p b).offerCounter = s.offerCounter := by simp only [State.withAttn]
@[simp] theorem State.withAttn_waitList (s : State) (p : Port) (b : Bool) :
    (s.withAttn p b).waitList = s.waitList := by simp only [State.withAttn]
@[simp] theorem State.withAttn_ticketCounter (s : State) (p : Port) (b : Bool) :
    (s.withAttn p b).ticketCounter = s.ticketCounter := by simp only [State.withAttn]
@[simp] theorem State.withAttn_lines (s : State) (p : Port) (b : Bool) :
    (s.withAttn p b).lines = s.lines := by simp only [State.withAttn]
@[simp] theorem State.withAttn_force (s : State) (p : Port) (b : Bool) :
    (s.withAttn p b).force = s.force := by simp only [State.withAttn]
@[simp] theorem State.withAttn_engines (s : State) (p : Port) (b : Bool) :
    (s.withAttn p b).engines = s.engines := by simp only [State.withAttn]
@[simp] theorem State.withAttn_timeCount (s : State) (p : Port) (b : Bool) :
    (s.withAttn p b).timeCount = s.timeCount := by simp only [State.withAttn]
@[simp] theorem State.withAttn_profile (s : State) (p : Port) (b : Bool) :
    (s.withAttn p b).profile = s.profile := by simp only [State.withAttn]
@[simp] theorem State.withAttn_journal (s : State) (p : Port) (b : Bool) :
    (s.withAttn p b).journal = s.journal := by simp only [State.withAttn]
@[simp] theorem State.withAttn_nextSeq (s : State) (p : Port) (b : Bool) :
    (s.withAttn p b).nextSeq = s.nextSeq := by simp only [State.withAttn]
@[simp] theorem State.withAttn_ports (s : State) (p : Port) (b : Bool) :
    (s.withAttn p b).ports = s.ports := by simp only [State.withAttn]
@[simp] theorem State.withAttn_servedLast (s : State) (p : Port) (b : Bool) :
    (s.withAttn p b).servedLast = s.servedLast := by simp only [State.withAttn]
@[simp] theorem State.withAttn_resetCause (s : State) (p : Port) (b : Bool) :
    (s.withAttn p b).resetCause = s.resetCause := by simp only [State.withAttn]
@[simp] theorem State.withAttn_inReset (s : State) (p : Port) (b : Bool) :
    (s.withAttn p b).inReset = s.inReset := by simp only [State.withAttn]
@[simp] theorem State.withAttn_i2cAddress (s : State) (p : Port) (b : Bool) :
    (s.withAttn p b).i2cAddress = s.i2cAddress := by simp only [State.withAttn]
@[simp] theorem State.withAttn_freeCount (s : State) (p : Port) (b : Bool) :
    (s.withAttn p b).freeCount = s.freeCount := by simp only [State.withAttn]
@[simp] theorem State.withAttn_pending (s : State) (p : Port) (b : Bool) :
    (s.withAttn p b).pending = s.pending := by simp only [State.withAttn]

@[simp] theorem State.reattend_sessions (s : State) (ps : PortSet) :
    (s.reattend ps).sessions = s.sessions := by simp only [State.reattend]
@[simp] theorem State.reattend_leases (s : State) (ps : PortSet) :
    (s.reattend ps).leases = s.leases := by simp only [State.reattend]
@[simp] theorem State.reattend_offers (s : State) (ps : PortSet) :
    (s.reattend ps).offers = s.offers := by simp only [State.reattend]
@[simp] theorem State.reattend_offerCounter (s : State) (ps : PortSet) :
    (s.reattend ps).offerCounter = s.offerCounter := by simp only [State.reattend]
@[simp] theorem State.reattend_waitList (s : State) (ps : PortSet) :
    (s.reattend ps).waitList = s.waitList := by simp only [State.reattend]
@[simp] theorem State.reattend_ticketCounter (s : State) (ps : PortSet) :
    (s.reattend ps).ticketCounter = s.ticketCounter := by simp only [State.reattend]
@[simp] theorem State.reattend_lines (s : State) (ps : PortSet) :
    (s.reattend ps).lines = s.lines := by simp only [State.reattend]
@[simp] theorem State.reattend_force (s : State) (ps : PortSet) :
    (s.reattend ps).force = s.force := by simp only [State.reattend]
@[simp] theorem State.reattend_engines (s : State) (ps : PortSet) :
    (s.reattend ps).engines = s.engines := by simp only [State.reattend]
@[simp] theorem State.reattend_timeCount (s : State) (ps : PortSet) :
    (s.reattend ps).timeCount = s.timeCount := by simp only [State.reattend]
@[simp] theorem State.reattend_profile (s : State) (ps : PortSet) :
    (s.reattend ps).profile = s.profile := by simp only [State.reattend]
@[simp] theorem State.reattend_journal (s : State) (ps : PortSet) :
    (s.reattend ps).journal = s.journal := by simp only [State.reattend]
@[simp] theorem State.reattend_nextSeq (s : State) (ps : PortSet) :
    (s.reattend ps).nextSeq = s.nextSeq := by simp only [State.reattend]
@[simp] theorem State.reattend_ports (s : State) (ps : PortSet) :
    (s.reattend ps).ports = s.ports := by simp only [State.reattend]
@[simp] theorem State.reattend_servedLast (s : State) (ps : PortSet) :
    (s.reattend ps).servedLast = s.servedLast := by simp only [State.reattend]
@[simp] theorem State.reattend_resetCause (s : State) (ps : PortSet) :
    (s.reattend ps).resetCause = s.resetCause := by simp only [State.reattend]
@[simp] theorem State.reattend_inReset (s : State) (ps : PortSet) :
    (s.reattend ps).inReset = s.inReset := by simp only [State.reattend]
@[simp] theorem State.reattend_i2cAddress (s : State) (ps : PortSet) :
    (s.reattend ps).i2cAddress = s.i2cAddress := by simp only [State.reattend]
@[simp] theorem State.reattend_freeCount (s : State) (ps : PortSet) :
    (s.reattend ps).freeCount = s.freeCount := by simp only [State.reattend]
@[simp] theorem State.reattend_pending (s : State) (ps : PortSet) :
    (s.reattend ps).pending = s.pending := by simp only [State.reattend]

@[simp] theorem State.redrive_sessions (s : State) (set : ResourceSet) :
    (s.redrive set).sessions = s.sessions := by simp only [State.redrive, State.withLines, State.withEngines]
@[simp] theorem State.redrive_leases (s : State) (set : ResourceSet) :
    (s.redrive set).leases = s.leases := by simp only [State.redrive, State.withLines, State.withEngines]
@[simp] theorem State.redrive_offers (s : State) (set : ResourceSet) :
    (s.redrive set).offers = s.offers := by simp only [State.redrive, State.withLines, State.withEngines]
@[simp] theorem State.redrive_offerCounter (s : State) (set : ResourceSet) :
    (s.redrive set).offerCounter = s.offerCounter := by simp only [State.redrive, State.withLines, State.withEngines]
@[simp] theorem State.redrive_waitList (s : State) (set : ResourceSet) :
    (s.redrive set).waitList = s.waitList := by simp only [State.redrive, State.withLines, State.withEngines]
@[simp] theorem State.redrive_ticketCounter (s : State) (set : ResourceSet) :
    (s.redrive set).ticketCounter = s.ticketCounter := by simp only [State.redrive, State.withLines, State.withEngines]
@[simp] theorem State.redrive_force (s : State) (set : ResourceSet) :
    (s.redrive set).force = s.force := by simp only [State.redrive, State.withLines, State.withEngines]
@[simp] theorem State.redrive_timeCount (s : State) (set : ResourceSet) :
    (s.redrive set).timeCount = s.timeCount := by simp only [State.redrive, State.withLines, State.withEngines]
@[simp] theorem State.redrive_profile (s : State) (set : ResourceSet) :
    (s.redrive set).profile = s.profile := by simp only [State.redrive, State.withLines, State.withEngines]
@[simp] theorem State.redrive_journal (s : State) (set : ResourceSet) :
    (s.redrive set).journal = s.journal := by simp only [State.redrive, State.withLines, State.withEngines]
@[simp] theorem State.redrive_nextSeq (s : State) (set : ResourceSet) :
    (s.redrive set).nextSeq = s.nextSeq := by simp only [State.redrive, State.withLines, State.withEngines]
@[simp] theorem State.redrive_attn (s : State) (set : ResourceSet) :
    (s.redrive set).attn = s.attn := by simp only [State.redrive, State.withLines, State.withEngines]
@[simp] theorem State.redrive_ports (s : State) (set : ResourceSet) :
    (s.redrive set).ports = s.ports := by simp only [State.redrive, State.withLines, State.withEngines]
@[simp] theorem State.redrive_servedLast (s : State) (set : ResourceSet) :
    (s.redrive set).servedLast = s.servedLast := by simp only [State.redrive, State.withLines, State.withEngines]
@[simp] theorem State.redrive_resetCause (s : State) (set : ResourceSet) :
    (s.redrive set).resetCause = s.resetCause := by simp only [State.redrive, State.withLines, State.withEngines]
@[simp] theorem State.redrive_inReset (s : State) (set : ResourceSet) :
    (s.redrive set).inReset = s.inReset := by simp only [State.redrive, State.withLines, State.withEngines]
@[simp] theorem State.redrive_i2cAddress (s : State) (set : ResourceSet) :
    (s.redrive set).i2cAddress = s.i2cAddress := by simp only [State.redrive, State.withLines, State.withEngines]
@[simp] theorem State.redrive_freeCount (s : State) (set : ResourceSet) :
    (s.redrive set).freeCount = s.freeCount := by simp only [State.redrive, State.withLines, State.withEngines]
@[simp] theorem State.redrive_pending (s : State) (set : ResourceSet) :
    (s.redrive set).pending = s.pending := by simp only [State.redrive, State.withLines, State.withEngines]

@[simp] theorem State.setEngineState_sessions (s : State) (e : EngineNo) (st : EngineState) :
    (s.setEngineState e st).sessions = s.sessions := by simp only [State.setEngineState, State.withEngine, State.withEngines, State.redrive, State.withLines]
@[simp] theorem State.setEngineState_leases (s : State) (e : EngineNo) (st : EngineState) :
    (s.setEngineState e st).leases = s.leases := by simp only [State.setEngineState, State.withEngine, State.withEngines, State.redrive, State.withLines]
@[simp] theorem State.setEngineState_offers (s : State) (e : EngineNo) (st : EngineState) :
    (s.setEngineState e st).offers = s.offers := by simp only [State.setEngineState, State.withEngine, State.withEngines, State.redrive, State.withLines]
@[simp] theorem State.setEngineState_offerCounter (s : State) (e : EngineNo) (st : EngineState) :
    (s.setEngineState e st).offerCounter = s.offerCounter := by simp only [State.setEngineState, State.withEngine, State.withEngines, State.redrive, State.withLines]
@[simp] theorem State.setEngineState_waitList (s : State) (e : EngineNo) (st : EngineState) :
    (s.setEngineState e st).waitList = s.waitList := by simp only [State.setEngineState, State.withEngine, State.withEngines, State.redrive, State.withLines]
@[simp] theorem State.setEngineState_ticketCounter (s : State) (e : EngineNo) (st : EngineState) :
    (s.setEngineState e st).ticketCounter = s.ticketCounter := by simp only [State.setEngineState, State.withEngine, State.withEngines, State.redrive, State.withLines]
@[simp] theorem State.setEngineState_force (s : State) (e : EngineNo) (st : EngineState) :
    (s.setEngineState e st).force = s.force := by simp only [State.setEngineState, State.withEngine, State.withEngines, State.redrive, State.withLines]
@[simp] theorem State.setEngineState_timeCount (s : State) (e : EngineNo) (st : EngineState) :
    (s.setEngineState e st).timeCount = s.timeCount := by simp only [State.setEngineState, State.withEngine, State.withEngines, State.redrive, State.withLines]
@[simp] theorem State.setEngineState_profile (s : State) (e : EngineNo) (st : EngineState) :
    (s.setEngineState e st).profile = s.profile := by simp only [State.setEngineState, State.withEngine, State.withEngines, State.redrive, State.withLines]
@[simp] theorem State.setEngineState_journal (s : State) (e : EngineNo) (st : EngineState) :
    (s.setEngineState e st).journal = s.journal := by simp only [State.setEngineState, State.withEngine, State.withEngines, State.redrive, State.withLines]
@[simp] theorem State.setEngineState_nextSeq (s : State) (e : EngineNo) (st : EngineState) :
    (s.setEngineState e st).nextSeq = s.nextSeq := by simp only [State.setEngineState, State.withEngine, State.withEngines, State.redrive, State.withLines]
@[simp] theorem State.setEngineState_attn (s : State) (e : EngineNo) (st : EngineState) :
    (s.setEngineState e st).attn = s.attn := by simp only [State.setEngineState, State.withEngine, State.withEngines, State.redrive, State.withLines]
@[simp] theorem State.setEngineState_ports (s : State) (e : EngineNo) (st : EngineState) :
    (s.setEngineState e st).ports = s.ports := by simp only [State.setEngineState, State.withEngine, State.withEngines, State.redrive, State.withLines]
@[simp] theorem State.setEngineState_servedLast (s : State) (e : EngineNo) (st : EngineState) :
    (s.setEngineState e st).servedLast = s.servedLast := by simp only [State.setEngineState, State.withEngine, State.withEngines, State.redrive, State.withLines]
@[simp] theorem State.setEngineState_resetCause (s : State) (e : EngineNo) (st : EngineState) :
    (s.setEngineState e st).resetCause = s.resetCause := by simp only [State.setEngineState, State.withEngine, State.withEngines, State.redrive, State.withLines]
@[simp] theorem State.setEngineState_inReset (s : State) (e : EngineNo) (st : EngineState) :
    (s.setEngineState e st).inReset = s.inReset := by simp only [State.setEngineState, State.withEngine, State.withEngines, State.redrive, State.withLines]
@[simp] theorem State.setEngineState_i2cAddress (s : State) (e : EngineNo) (st : EngineState) :
    (s.setEngineState e st).i2cAddress = s.i2cAddress := by simp only [State.setEngineState, State.withEngine, State.withEngines, State.redrive, State.withLines]
@[simp] theorem State.setEngineState_freeCount (s : State) (e : EngineNo) (st : EngineState) :
    (s.setEngineState e st).freeCount = s.freeCount := by simp only [State.setEngineState, State.withEngine, State.withEngines, State.redrive, State.withLines]
@[simp] theorem State.setEngineState_pending (s : State) (e : EngineNo) (st : EngineState) :
    (s.setEngineState e st).pending = s.pending := by simp only [State.setEngineState, State.withEngine, State.withEngines, State.redrive, State.withLines]

@[simp] theorem State.place_leases (s : State) (i : PortSet) (t : Count) (b : RecordBody) :
    (s.place i t b).leases = s.leases := by simp only [State.place]
@[simp] theorem State.place_offers (s : State) (i : PortSet) (t : Count) (b : RecordBody) :
    (s.place i t b).offers = s.offers := by simp only [State.place]
@[simp] theorem State.place_offerCounter (s : State) (i : PortSet) (t : Count) (b : RecordBody) :
    (s.place i t b).offerCounter = s.offerCounter := by simp only [State.place]
@[simp] theorem State.place_waitList (s : State) (i : PortSet) (t : Count) (b : RecordBody) :
    (s.place i t b).waitList = s.waitList := by simp only [State.place]
@[simp] theorem State.place_ticketCounter (s : State) (i : PortSet) (t : Count) (b : RecordBody) :
    (s.place i t b).ticketCounter = s.ticketCounter := by simp only [State.place]
@[simp] theorem State.place_lines (s : State) (i : PortSet) (t : Count) (b : RecordBody) :
    (s.place i t b).lines = s.lines := by simp only [State.place]
@[simp] theorem State.place_force (s : State) (i : PortSet) (t : Count) (b : RecordBody) :
    (s.place i t b).force = s.force := by simp only [State.place]
@[simp] theorem State.place_engines (s : State) (i : PortSet) (t : Count) (b : RecordBody) :
    (s.place i t b).engines = s.engines := by simp only [State.place]
@[simp] theorem State.place_timeCount (s : State) (i : PortSet) (t : Count) (b : RecordBody) :
    (s.place i t b).timeCount = s.timeCount := by simp only [State.place]
@[simp] theorem State.place_profile (s : State) (i : PortSet) (t : Count) (b : RecordBody) :
    (s.place i t b).profile = s.profile := by simp only [State.place]
@[simp] theorem State.place_attn (s : State) (i : PortSet) (t : Count) (b : RecordBody) :
    (s.place i t b).attn = s.attn := by simp only [State.place]
@[simp] theorem State.place_ports (s : State) (i : PortSet) (t : Count) (b : RecordBody) :
    (s.place i t b).ports = s.ports := by simp only [State.place]
@[simp] theorem State.place_servedLast (s : State) (i : PortSet) (t : Count) (b : RecordBody) :
    (s.place i t b).servedLast = s.servedLast := by simp only [State.place]
@[simp] theorem State.place_resetCause (s : State) (i : PortSet) (t : Count) (b : RecordBody) :
    (s.place i t b).resetCause = s.resetCause := by simp only [State.place]
@[simp] theorem State.place_inReset (s : State) (i : PortSet) (t : Count) (b : RecordBody) :
    (s.place i t b).inReset = s.inReset := by simp only [State.place]
@[simp] theorem State.place_i2cAddress (s : State) (i : PortSet) (t : Count) (b : RecordBody) :
    (s.place i t b).i2cAddress = s.i2cAddress := by simp only [State.place]
@[simp] theorem State.place_freeCount (s : State) (i : PortSet) (t : Count) (b : RecordBody) :
    (s.place i t b).freeCount = s.freeCount := by simp only [State.place]
@[simp] theorem State.place_pending (s : State) (i : PortSet) (t : Count) (b : RecordBody) :
    (s.place i t b).pending = s.pending := by simp only [State.place]

@[simp] theorem State.answer_sessions (s : State) (p : Port) (tag : Byte) (r : Reply) :
    (s.answer p tag r).sessions = s.sessions := by simp only [State.answer, State.withPort]
@[simp] theorem State.answer_leases (s : State) (p : Port) (tag : Byte) (r : Reply) :
    (s.answer p tag r).leases = s.leases := by simp only [State.answer, State.withPort]
@[simp] theorem State.answer_offers (s : State) (p : Port) (tag : Byte) (r : Reply) :
    (s.answer p tag r).offers = s.offers := by simp only [State.answer, State.withPort]
@[simp] theorem State.answer_offerCounter (s : State) (p : Port) (tag : Byte) (r : Reply) :
    (s.answer p tag r).offerCounter = s.offerCounter := by simp only [State.answer, State.withPort]
@[simp] theorem State.answer_waitList (s : State) (p : Port) (tag : Byte) (r : Reply) :
    (s.answer p tag r).waitList = s.waitList := by simp only [State.answer, State.withPort]
@[simp] theorem State.answer_ticketCounter (s : State) (p : Port) (tag : Byte) (r : Reply) :
    (s.answer p tag r).ticketCounter = s.ticketCounter := by simp only [State.answer, State.withPort]
@[simp] theorem State.answer_lines (s : State) (p : Port) (tag : Byte) (r : Reply) :
    (s.answer p tag r).lines = s.lines := by simp only [State.answer, State.withPort]
@[simp] theorem State.answer_force (s : State) (p : Port) (tag : Byte) (r : Reply) :
    (s.answer p tag r).force = s.force := by simp only [State.answer, State.withPort]
@[simp] theorem State.answer_engines (s : State) (p : Port) (tag : Byte) (r : Reply) :
    (s.answer p tag r).engines = s.engines := by simp only [State.answer, State.withPort]
@[simp] theorem State.answer_timeCount (s : State) (p : Port) (tag : Byte) (r : Reply) :
    (s.answer p tag r).timeCount = s.timeCount := by simp only [State.answer, State.withPort]
@[simp] theorem State.answer_profile (s : State) (p : Port) (tag : Byte) (r : Reply) :
    (s.answer p tag r).profile = s.profile := by simp only [State.answer, State.withPort]
@[simp] theorem State.answer_journal (s : State) (p : Port) (tag : Byte) (r : Reply) :
    (s.answer p tag r).journal = s.journal := by simp only [State.answer, State.withPort]
@[simp] theorem State.answer_nextSeq (s : State) (p : Port) (tag : Byte) (r : Reply) :
    (s.answer p tag r).nextSeq = s.nextSeq := by simp only [State.answer, State.withPort]
@[simp] theorem State.answer_attn (s : State) (p : Port) (tag : Byte) (r : Reply) :
    (s.answer p tag r).attn = s.attn := by simp only [State.answer, State.withPort]
@[simp] theorem State.answer_servedLast (s : State) (p : Port) (tag : Byte) (r : Reply) :
    (s.answer p tag r).servedLast = s.servedLast := by simp only [State.answer, State.withPort]
@[simp] theorem State.answer_resetCause (s : State) (p : Port) (tag : Byte) (r : Reply) :
    (s.answer p tag r).resetCause = s.resetCause := by simp only [State.answer, State.withPort]
@[simp] theorem State.answer_inReset (s : State) (p : Port) (tag : Byte) (r : Reply) :
    (s.answer p tag r).inReset = s.inReset := by simp only [State.answer, State.withPort]
@[simp] theorem State.answer_i2cAddress (s : State) (p : Port) (tag : Byte) (r : Reply) :
    (s.answer p tag r).i2cAddress = s.i2cAddress := by simp only [State.answer, State.withPort]
@[simp] theorem State.answer_freeCount (s : State) (p : Port) (tag : Byte) (r : Reply) :
    (s.answer p tag r).freeCount = s.freeCount := by simp only [State.answer, State.withPort]
@[simp] theorem State.answer_pending (s : State) (p : Port) (tag : Byte) (r : Reply) :
    (s.answer p tag r).pending = s.pending := by simp only [State.answer, State.withPort]

/-! ### The rest, read entry by entry -/

@[simp] theorem State.entry_withSession (s : State) (p : Port) (f : Session → Session) (x : Resource) :
    (s.withSession p f).entry x = s.entry x := by simp only [State.entry, State.withSession_leases]
@[simp] theorem State.line_withSession (s : State) (p : Port) (f : Session → Session) (k : Line) :
    (s.withSession p f).line k = s.line k := by simp only [State.line, State.withSession_lines]
@[simp] theorem State.engine_withSession (s : State) (p : Port) (f : Session → Session) (n : EngineNo) :
    (s.withSession p f).engine n = s.engine n := by simp only [State.engine, State.withSession_engines]
@[simp] theorem State.port_withSession (s : State) (p : Port) (f : Session → Session) (q : Port) :
    (s.withSession p f).port q = s.port q := by simp only [State.port, State.withSession_ports]

@[simp] theorem State.session_withEntryOf (s : State) (f : Resource → LeaseEntry → LeaseEntry) (q : Port) :
    (s.withEntryOf f).session q = s.session q := by simp only [State.session, State.withEntryOf_sessions]
@[simp] theorem State.line_withEntryOf (s : State) (f : Resource → LeaseEntry → LeaseEntry) (k : Line) :
    (s.withEntryOf f).line k = s.line k := by simp only [State.line, State.withEntryOf_lines]
@[simp] theorem State.engine_withEntryOf (s : State) (f : Resource → LeaseEntry → LeaseEntry) (n : EngineNo) :
    (s.withEntryOf f).engine n = s.engine n := by simp only [State.engine, State.withEntryOf_engines]
@[simp] theorem State.port_withEntryOf (s : State) (f : Resource → LeaseEntry → LeaseEntry) (q : Port) :
    (s.withEntryOf f).port q = s.port q := by simp only [State.port, State.withEntryOf_ports]

@[simp] theorem State.session_withEngines (s : State) (f : EngineNo → Engine → Engine) (q : Port) :
    (s.withEngines f).session q = s.session q := by simp only [State.session, State.withEngines_sessions]
@[simp] theorem State.entry_withEngines (s : State) (f : EngineNo → Engine → Engine) (x : Resource) :
    (s.withEngines f).entry x = s.entry x := by simp only [State.entry, State.withEngines_leases]
@[simp] theorem State.port_withEngines (s : State) (f : EngineNo → Engine → Engine) (q : Port) :
    (s.withEngines f).port q = s.port q := by simp only [State.port, State.withEngines_ports]

@[simp] theorem State.session_withOffers (s : State) (l : List Offer) (q : Port) :
    (s.withOffers l).session q = s.session q := by simp only [State.session, State.withOffers_sessions]
@[simp] theorem State.entry_withOffers (s : State) (l : List Offer) (x : Resource) :
    (s.withOffers l).entry x = s.entry x := by simp only [State.entry, State.withOffers_leases]
@[simp] theorem State.line_withOffers (s : State) (l : List Offer) (k : Line) :
    (s.withOffers l).line k = s.line k := by simp only [State.line, State.withOffers_lines]
@[simp] theorem State.engine_withOffers (s : State) (l : List Offer) (n : EngineNo) :
    (s.withOffers l).engine n = s.engine n := by simp only [State.engine, State.withOffers_engines]
@[simp] theorem State.port_withOffers (s : State) (l : List Offer) (q : Port) :
    (s.withOffers l).port q = s.port q := by simp only [State.port, State.withOffers_ports]

@[simp] theorem State.session_withWaitList (s : State) (l : List WaitEntry) (q : Port) :
    (s.withWaitList l).session q = s.session q := by simp only [State.session, State.withWaitList_sessions]
@[simp] theorem State.entry_withWaitList (s : State) (l : List WaitEntry) (x : Resource) :
    (s.withWaitList l).entry x = s.entry x := by simp only [State.entry, State.withWaitList_leases]
@[simp] theorem State.line_withWaitList (s : State) (l : List WaitEntry) (k : Line) :
    (s.withWaitList l).line k = s.line k := by simp only [State.line, State.withWaitList_lines]
@[simp] theorem State.engine_withWaitList (s : State) (l : List WaitEntry) (n : EngineNo) :
    (s.withWaitList l).engine n = s.engine n := by simp only [State.engine, State.withWaitList_engines]
@[simp] theorem State.port_withWaitList (s : State) (l : List WaitEntry) (q : Port) :
    (s.withWaitList l).port q = s.port q := by simp only [State.port, State.withWaitList_ports]

@[simp] theorem State.session_withJournal (s : State) (l : List Record) (q : Port) :
    (s.withJournal l).session q = s.session q := by simp only [State.session, State.withJournal_sessions]
@[simp] theorem State.entry_withJournal (s : State) (l : List Record) (x : Resource) :
    (s.withJournal l).entry x = s.entry x := by simp only [State.entry, State.withJournal_leases]
@[simp] theorem State.line_withJournal (s : State) (l : List Record) (k : Line) :
    (s.withJournal l).line k = s.line k := by simp only [State.line, State.withJournal_lines]
@[simp] theorem State.engine_withJournal (s : State) (l : List Record) (n : EngineNo) :
    (s.withJournal l).engine n = s.engine n := by simp only [State.engine, State.withJournal_engines]
@[simp] theorem State.port_withJournal (s : State) (l : List Record) (q : Port) :
    (s.withJournal l).port q = s.port q := by simp only [State.port, State.withJournal_ports]

@[simp] theorem State.session_withProfile (s : State) (f : Profile) (q : Port) :
    (s.withProfile f).session q = s.session q := by simp only [State.session, State.withProfile_sessions]
@[simp] theorem State.entry_withProfile (s : State) (f : Profile) (x : Resource) :
    (s.withProfile f).entry x = s.entry x := by simp only [State.entry, State.withProfile_leases]
@[simp] theorem State.line_withProfile (s : State) (f : Profile) (k : Line) :
    (s.withProfile f).line k = s.line k := by simp only [State.line, State.withProfile_lines]
@[simp] theorem State.engine_withProfile (s : State) (f : Profile) (n : EngineNo) :
    (s.withProfile f).engine n = s.engine n := by simp only [State.engine, State.withProfile_engines]
@[simp] theorem State.port_withProfile (s : State) (f : Profile) (q : Port) :
    (s.withProfile f).port q = s.port q := by simp only [State.port, State.withProfile_ports]

@[simp] theorem State.session_withForce (s : State) (f : ForceMonitor) (q : Port) :
    (s.withForce f).session q = s.session q := by simp only [State.session, State.withForce_sessions]
@[simp] theorem State.entry_withForce (s : State) (f : ForceMonitor) (x : Resource) :
    (s.withForce f).entry x = s.entry x := by simp only [State.entry, State.withForce_leases]
@[simp] theorem State.line_withForce (s : State) (f : ForceMonitor) (k : Line) :
    (s.withForce f).line k = s.line k := by simp only [State.line, State.withForce_lines]
@[simp] theorem State.engine_withForce (s : State) (f : ForceMonitor) (n : EngineNo) :
    (s.withForce f).engine n = s.engine n := by simp only [State.engine, State.withForce_engines]
@[simp] theorem State.port_withForce (s : State) (f : ForceMonitor) (q : Port) :
    (s.withForce f).port q = s.port q := by simp only [State.port, State.withForce_ports]

@[simp] theorem State.session_served (s : State) (p : Port) (q : Port) :
    (s.served p).session q = s.session q := by simp only [State.session, State.served_sessions]
@[simp] theorem State.entry_served (s : State) (p : Port) (x : Resource) :
    (s.served p).entry x = s.entry x := by simp only [State.entry, State.served_leases]
@[simp] theorem State.line_served (s : State) (p : Port) (k : Line) :
    (s.served p).line k = s.line k := by simp only [State.line, State.served_lines]
@[simp] theorem State.engine_served (s : State) (p : Port) (n : EngineNo) :
    (s.served p).engine n = s.engine n := by simp only [State.engine, State.served_engines]
@[simp] theorem State.port_served (s : State) (p : Port) (q : Port) :
    (s.served p).port q = s.port q := by simp only [State.port, State.served_ports]

@[simp] theorem State.session_withEntries (s : State) (set : ResourceSet) (f : LeaseEntry → LeaseEntry) (q : Port) :
    (s.withEntries set f).session q = s.session q := by simp only [State.session, State.withEntries_sessions]
@[simp] theorem State.line_withEntries (s : State) (set : ResourceSet) (f : LeaseEntry → LeaseEntry) (k : Line) :
    (s.withEntries set f).line k = s.line k := by simp only [State.line, State.withEntries_lines]
@[simp] theorem State.engine_withEntries (s : State) (set : ResourceSet) (f : LeaseEntry → LeaseEntry) (n : EngineNo) :
    (s.withEntries set f).engine n = s.engine n := by simp only [State.engine, State.withEntries_engines]
@[simp] theorem State.port_withEntries (s : State) (set : ResourceSet) (f : LeaseEntry → LeaseEntry) (q : Port) :
    (s.withEntries set f).port q = s.port q := by simp only [State.port, State.withEntries_ports]

@[simp] theorem State.session_withLines (s : State) (f : Line → LineCell → LineCell) (q : Port) :
    (s.withLines f).session q = s.session q := by simp only [State.session, State.withLines_sessions]
@[simp] theorem State.entry_withLines (s : State) (f : Line → LineCell → LineCell) (x : Resource) :
    (s.withLines f).entry x = s.entry x := by simp only [State.entry, State.withLines_leases]
@[simp] theorem State.engine_withLines (s : State) (f : Line → LineCell → LineCell) (n : EngineNo) :
    (s.withLines f).engine n = s.engine n := by simp only [State.engine, State.withLines_engines]
@[simp] theorem State.port_withLines (s : State) (f : Line → LineCell → LineCell) (q : Port) :
    (s.withLines f).port q = s.port q := by simp only [State.port, State.withLines_ports]

@[simp] theorem State.session_withLine (s : State) (l : Line) (f : LineCell → LineCell) (q : Port) :
    (s.withLine l f).session q = s.session q := by simp only [State.session, State.withLine_sessions]
@[simp] theorem State.entry_withLine (s : State) (l : Line) (f : LineCell → LineCell) (x : Resource) :
    (s.withLine l f).entry x = s.entry x := by simp only [State.entry, State.withLine_leases]
@[simp] theorem State.engine_withLine (s : State) (l : Line) (f : LineCell → LineCell) (n : EngineNo) :
    (s.withLine l f).engine n = s.engine n := by simp only [State.engine, State.withLine_engines]
@[simp] theorem State.port_withLine (s : State) (l : Line) (f : LineCell → LineCell) (q : Port) :
    (s.withLine l f).port q = s.port q := by simp only [State.port, State.withLine_ports]

@[simp] theorem State.session_withEngine (s : State) (e : EngineNo) (f : Engine → Engine) (q : Port) :
    (s.withEngine e f).session q = s.session q := by simp only [State.session, State.withEngine_sessions]
@[simp] theorem State.entry_withEngine (s : State) (e : EngineNo) (f : Engine → Engine) (x : Resource) :
    (s.withEngine e f).entry x = s.entry x := by simp only [State.entry, State.withEngine_leases]
@[simp] theorem State.line_withEngine (s : State) (e : EngineNo) (f : Engine → Engine) (k : Line) :
    (s.withEngine e f).line k = s.line k := by simp only [State.line, State.withEngine_lines]
@[simp] theorem State.port_withEngine (s : State) (e : EngineNo) (f : Engine → Engine) (q : Port) :
    (s.withEngine e f).port q = s.port q := by simp only [State.port, State.withEngine_ports]

@[simp] theorem State.session_withPort (s : State) (p : Port) (f : PortUnit → PortUnit) (q : Port) :
    (s.withPort p f).session q = s.session q := by simp only [State.session, State.withPort_sessions]
@[simp] theorem State.entry_withPort (s : State) (p : Port) (f : PortUnit → PortUnit) (x : Resource) :
    (s.withPort p f).entry x = s.entry x := by simp only [State.entry, State.withPort_leases]
@[simp] theorem State.line_withPort (s : State) (p : Port) (f : PortUnit → PortUnit) (k : Line) :
    (s.withPort p f).line k = s.line k := by simp only [State.line, State.withPort_lines]
@[simp] theorem State.engine_withPort (s : State) (p : Port) (f : PortUnit → PortUnit) (n : EngineNo) :
    (s.withPort p f).engine n = s.engine n := by simp only [State.engine, State.withPort_engines]

@[simp] theorem State.session_withAttn (s : State) (p : Port) (b : Bool) (q : Port) :
    (s.withAttn p b).session q = s.session q := by simp only [State.session, State.withAttn_sessions]
@[simp] theorem State.entry_withAttn (s : State) (p : Port) (b : Bool) (x : Resource) :
    (s.withAttn p b).entry x = s.entry x := by simp only [State.entry, State.withAttn_leases]
@[simp] theorem State.line_withAttn (s : State) (p : Port) (b : Bool) (k : Line) :
    (s.withAttn p b).line k = s.line k := by simp only [State.line, State.withAttn_lines]
@[simp] theorem State.engine_withAttn (s : State) (p : Port) (b : Bool) (n : EngineNo) :
    (s.withAttn p b).engine n = s.engine n := by simp only [State.engine, State.withAttn_engines]
@[simp] theorem State.port_withAttn (s : State) (p : Port) (b : Bool) (q : Port) :
    (s.withAttn p b).port q = s.port q := by simp only [State.port, State.withAttn_ports]

@[simp] theorem State.session_reattend (s : State) (ps : PortSet) (q : Port) :
    (s.reattend ps).session q = s.session q := by simp only [State.session, State.reattend_sessions]
@[simp] theorem State.entry_reattend (s : State) (ps : PortSet) (x : Resource) :
    (s.reattend ps).entry x = s.entry x := by simp only [State.entry, State.reattend_leases]
@[simp] theorem State.line_reattend (s : State) (ps : PortSet) (k : Line) :
    (s.reattend ps).line k = s.line k := by simp only [State.line, State.reattend_lines]
@[simp] theorem State.engine_reattend (s : State) (ps : PortSet) (n : EngineNo) :
    (s.reattend ps).engine n = s.engine n := by simp only [State.engine, State.reattend_engines]
@[simp] theorem State.port_reattend (s : State) (ps : PortSet) (q : Port) :
    (s.reattend ps).port q = s.port q := by simp only [State.port, State.reattend_ports]

@[simp] theorem State.session_redrive (s : State) (set : ResourceSet) (q : Port) :
    (s.redrive set).session q = s.session q := by simp only [State.session, State.redrive_sessions]
@[simp] theorem State.entry_redrive (s : State) (set : ResourceSet) (x : Resource) :
    (s.redrive set).entry x = s.entry x := by simp only [State.entry, State.redrive_leases]
@[simp] theorem State.port_redrive (s : State) (set : ResourceSet) (q : Port) :
    (s.redrive set).port q = s.port q := by simp only [State.port, State.redrive_ports]

@[simp] theorem State.session_setEngineState (s : State) (e : EngineNo) (st : EngineState) (q : Port) :
    (s.setEngineState e st).session q = s.session q := by simp only [State.session, State.setEngineState_sessions]
@[simp] theorem State.entry_setEngineState (s : State) (e : EngineNo) (st : EngineState) (x : Resource) :
    (s.setEngineState e st).entry x = s.entry x := by simp only [State.entry, State.setEngineState_leases]
@[simp] theorem State.port_setEngineState (s : State) (e : EngineNo) (st : EngineState) (q : Port) :
    (s.setEngineState e st).port q = s.port q := by simp only [State.port, State.setEngineState_ports]

@[simp] theorem State.entry_place (s : State) (i : PortSet) (t : Count) (b : RecordBody) (x : Resource) :
    (s.place i t b).entry x = s.entry x := by simp only [State.entry, State.place_leases]
@[simp] theorem State.line_place (s : State) (i : PortSet) (t : Count) (b : RecordBody) (k : Line) :
    (s.place i t b).line k = s.line k := by simp only [State.line, State.place_lines]
@[simp] theorem State.engine_place (s : State) (i : PortSet) (t : Count) (b : RecordBody) (n : EngineNo) :
    (s.place i t b).engine n = s.engine n := by simp only [State.engine, State.place_engines]
@[simp] theorem State.port_place (s : State) (i : PortSet) (t : Count) (b : RecordBody) (q : Port) :
    (s.place i t b).port q = s.port q := by simp only [State.port, State.place_ports]

@[simp] theorem State.session_answer (s : State) (p : Port) (tag : Byte) (r : Reply) (q : Port) :
    (s.answer p tag r).session q = s.session q := by simp only [State.session, State.answer_sessions]
@[simp] theorem State.entry_answer (s : State) (p : Port) (tag : Byte) (r : Reply) (x : Resource) :
    (s.answer p tag r).entry x = s.entry x := by simp only [State.entry, State.answer_leases]
@[simp] theorem State.line_answer (s : State) (p : Port) (tag : Byte) (r : Reply) (k : Line) :
    (s.answer p tag r).line k = s.line k := by simp only [State.line, State.answer_lines]
@[simp] theorem State.engine_answer (s : State) (p : Port) (tag : Byte) (r : Reply) (n : EngineNo) :
    (s.answer p tag r).engine n = s.engine n := by simp only [State.engine, State.answer_engines]

@[simp] theorem State.entry_withOpen (s : State) (p : Port) (f : OpenSession → OpenSession) (x : Resource) :
    (s.withOpen p f).entry x = s.entry x := by unfold State.withOpen; split <;> simp
@[simp] theorem State.line_withOpen (s : State) (p : Port) (f : OpenSession → OpenSession) (k : Line) :
    (s.withOpen p f).line k = s.line k := by unfold State.withOpen; split <;> simp
@[simp] theorem State.engine_withOpen (s : State) (p : Port) (f : OpenSession → OpenSession) (n : EngineNo) :
    (s.withOpen p f).engine n = s.engine n := by unfold State.withOpen; split <;> simp
@[simp] theorem State.port_withOpen (s : State) (p : Port) (f : OpenSession → OpenSession) (q : Port) :
    (s.withOpen p f).port q = s.port q := by unfold State.withOpen; split <;> simp

/-! ### The fields of an OPEN session: only the session records move -/

@[simp] theorem State.withOpen_leases (s : State) (p : Port) (f : OpenSession → OpenSession) :
    (s.withOpen p f).leases = s.leases := by
  unfold State.withOpen; split <;> rfl
@[simp] theorem State.withOpen_offers (s : State) (p : Port) (f : OpenSession → OpenSession) :
    (s.withOpen p f).offers = s.offers := by
  unfold State.withOpen; split <;> rfl
@[simp] theorem State.withOpen_offerCounter (s : State) (p : Port) (f : OpenSession → OpenSession) :
    (s.withOpen p f).offerCounter = s.offerCounter := by
  unfold State.withOpen; split <;> rfl
@[simp] theorem State.withOpen_waitList (s : State) (p : Port) (f : OpenSession → OpenSession) :
    (s.withOpen p f).waitList = s.waitList := by
  unfold State.withOpen; split <;> rfl
@[simp] theorem State.withOpen_ticketCounter (s : State) (p : Port) (f : OpenSession → OpenSession) :
    (s.withOpen p f).ticketCounter = s.ticketCounter := by
  unfold State.withOpen; split <;> rfl
@[simp] theorem State.withOpen_lines (s : State) (p : Port) (f : OpenSession → OpenSession) :
    (s.withOpen p f).lines = s.lines := by
  unfold State.withOpen; split <;> rfl
@[simp] theorem State.withOpen_force (s : State) (p : Port) (f : OpenSession → OpenSession) :
    (s.withOpen p f).force = s.force := by
  unfold State.withOpen; split <;> rfl
@[simp] theorem State.withOpen_engines (s : State) (p : Port) (f : OpenSession → OpenSession) :
    (s.withOpen p f).engines = s.engines := by
  unfold State.withOpen; split <;> rfl
@[simp] theorem State.withOpen_timeCount (s : State) (p : Port) (f : OpenSession → OpenSession) :
    (s.withOpen p f).timeCount = s.timeCount := by
  unfold State.withOpen; split <;> rfl
@[simp] theorem State.withOpen_profile (s : State) (p : Port) (f : OpenSession → OpenSession) :
    (s.withOpen p f).profile = s.profile := by
  unfold State.withOpen; split <;> rfl
@[simp] theorem State.withOpen_journal (s : State) (p : Port) (f : OpenSession → OpenSession) :
    (s.withOpen p f).journal = s.journal := by
  unfold State.withOpen; split <;> rfl
@[simp] theorem State.withOpen_nextSeq (s : State) (p : Port) (f : OpenSession → OpenSession) :
    (s.withOpen p f).nextSeq = s.nextSeq := by
  unfold State.withOpen; split <;> rfl
@[simp] theorem State.withOpen_attn (s : State) (p : Port) (f : OpenSession → OpenSession) :
    (s.withOpen p f).attn = s.attn := by
  unfold State.withOpen; split <;> rfl
@[simp] theorem State.withOpen_ports (s : State) (p : Port) (f : OpenSession → OpenSession) :
    (s.withOpen p f).ports = s.ports := by
  unfold State.withOpen; split <;> rfl
@[simp] theorem State.withOpen_servedLast (s : State) (p : Port) (f : OpenSession → OpenSession) :
    (s.withOpen p f).servedLast = s.servedLast := by
  unfold State.withOpen; split <;> rfl
@[simp] theorem State.withOpen_resetCause (s : State) (p : Port) (f : OpenSession → OpenSession) :
    (s.withOpen p f).resetCause = s.resetCause := by
  unfold State.withOpen; split <;> rfl
@[simp] theorem State.withOpen_inReset (s : State) (p : Port) (f : OpenSession → OpenSession) :
    (s.withOpen p f).inReset = s.inReset := by
  unfold State.withOpen; split <;> rfl
@[simp] theorem State.withOpen_i2cAddress (s : State) (p : Port) (f : OpenSession → OpenSession) :
    (s.withOpen p f).i2cAddress = s.i2cAddress := by
  unfold State.withOpen; split <;> rfl
@[simp] theorem State.withOpen_freeCount (s : State) (p : Port) (f : OpenSession → OpenSession) :
    (s.withOpen p f).freeCount = s.freeCount := by
  unfold State.withOpen; split <;> rfl
@[simp] theorem State.withOpen_pending (s : State) (p : Port) (f : OpenSession → OpenSession) :
    (s.withOpen p f).pending = s.pending := by
  unfold State.withOpen; split <;> rfl

/-- The session records after a change of the fields of one OPEN session. -/
theorem State.session_withOpen (s : State) (p q : Port) (f : OpenSession → OpenSession) :
    (s.withOpen p f).session q =
      if q = p then
        match (s.session p).state with
        | .opened o => { s.session p with state := .opened (f o) }
        | .closed => s.session p
        | .lapsed => s.session p
      else s.session q := by
  unfold State.withOpen
  split <;> rename_i h <;> simp_all

end Sys2Proof.Machine
end

