-- ==== Sys2Proof/Laws/Frames.lean ====
section
/-! SUPPORT. What each shared operation leaves alone: one frame lemma for each operation. -/

namespace Sys2Proof.Laws

open Sys2Proof.Machine Sys2Proof.Safety

/-- The force input, the time count, the profile, the ports, the Arbiter, the reset state and the queue are as they
were: what no operation on leases, engines, sessions or the journal touches. -/
def SameOutside (s t : State) : Prop := SameRest s t ∧ SamePorts s t

theorem SameOutside.refl (s : State) : SameOutside s s := ⟨⟨rfl, rfl, rfl, rfl, rfl, rfl, rfl, rfl⟩, rfl, rfl⟩

theorem SameOutside.trans {s t u : State} (h : SameOutside s t) (k : SameOutside t u) : SameOutside s u := by
  obtain ⟨⟨a1, a2, a3, a4, a5, a6, a7, a8⟩, a9, a10⟩ := h
  obtain ⟨⟨b1, b2, b3, b4, b5, b6, b7, b8⟩, b9, b10⟩ := k
  exact ⟨⟨b1.trans a1, b2.trans a2, b3.trans a3, b4.trans a4, b5.trans a5, b6.trans a6, b7.trans a7, b8.trans a8⟩,
    b9.trans a9, b10.trans a10⟩

theorem SameOutside.inReset {s t : State} (h : SameOutside s t) : t.inReset = s.inReset := h.1.2.2.2.2.1

theorem SameOutside.pending {s t : State} (h : SameOutside s t) : t.pending = s.pending := h.1.2.2.2.2.2.2.2

theorem SameOutside.timeCount {s t : State} (h : SameOutside s t) : t.timeCount = s.timeCount := h.1.2.1

theorem SameOutside.force {s t : State} (h : SameOutside s t) : t.force = s.force := h.1.1

theorem SameOutside.profile {s t : State} (h : SameOutside s t) : t.profile = s.profile := h.1.2.2.1

theorem SameOutside.port {s t : State} (h : SameOutside s t) (p : Port) : t.port p = s.port p := by
  simp [State.port, h.2.1]

/-- A fold of operations that each leave the outside alone leaves it alone. -/
theorem SameOutside.foldl {α : Type} (f : State → α → State) (h : ∀ s a, SameOutside s (f s a)) (l : List α) (s : State) :
    SameOutside s (l.foldl f s) := by
  induction l generalizing s with
  | nil => exact .refl s
  | cons a l ih => exact (h s a).trans (ih _)

/-! ### Updates of one part -/

theorem withSession_outside (s : State) (p : Port) (f : Session → Session) : SameOutside s (s.withSession p f) := by
  simp [SameOutside, SameRest, SamePorts, SameControl]

theorem withOpen_outside (s : State) (p : Port) (f : OpenSession → OpenSession) : SameOutside s (s.withOpen p f) := by
  simp [SameOutside, SameRest, SamePorts, SameControl]

theorem withEntries_outside (s : State) (set : ResourceSet) (f : LeaseEntry → LeaseEntry) :
    SameOutside s (s.withEntries set f) := by
  simp [SameOutside, SameRest, SamePorts, SameControl]

theorem withLines_outside (s : State) (f : Line → LineCell → LineCell) : SameOutside s (s.withLines f) := by
  simp [SameOutside, SameRest, SamePorts, SameControl]

theorem withLine_outside (s : State) (l : Line) (f : LineCell → LineCell) : SameOutside s (s.withLine l f) := by
  simp [SameOutside, SameRest, SamePorts, SameControl]

theorem withEngine_outside (s : State) (e : EngineNo) (f : Engine → Engine) : SameOutside s (s.withEngine e f) := by
  simp [SameOutside, SameRest, SamePorts, SameControl]

theorem withAttn_outside (s : State) (p : Port) (b : Bool) : SameOutside s (s.withAttn p b) := by
  simp [SameOutside, SameRest, SamePorts, SameControl]

theorem reattend_outside (s : State) (ps : PortSet) : SameOutside s (s.reattend ps) := by
  simp [SameOutside, SameRest, SamePorts, SameControl]

theorem redrive_outside (s : State) (set : ResourceSet) : SameOutside s (s.redrive set) := by
  simp [SameOutside, SameRest, SamePorts, SameControl]

theorem setEngineState_outside (s : State) (e : EngineNo) (st : EngineState) : SameOutside s (s.setEngineState e st) := by
  simp [SameOutside, SameRest, SamePorts, SameControl]

theorem removeOffer_outside (s : State) (id : Byte) : SameOutside s (s.removeOffer id) := by
  simp [State.removeOffer, SameOutside, SameRest, SamePorts, SameControl]

theorem letGo_outside (s : State) (set : ResourceSet) (a : LeaseState) : SameOutside s (s.letGo set a) := by
  simp [State.letGo, SameOutside, SameRest, SamePorts, SameControl]

theorem removeTicket_outside (s : State) (t : Byte) : SameOutside s (s.removeTicket t) := by
  simp [State.removeTicket, SameOutside, SameRest, SamePorts, SameControl]

theorem removeClaims_outside (s : State) (p : Port) : SameOutside s (s.removeClaims p) := by
  simp [State.removeClaims, SameOutside, SameRest, SamePorts, SameControl]

theorem withJournal_outside (s : State) (l : List Record) : SameOutside s (s.withJournal l) := by
  simp [SameOutside, SameRest, SamePorts, SameControl]

/-! ### The journal -/

theorem evict_outside (s : State) : SameOutside s s.evict := by
  unfold State.evict
  split
  · exact .refl s
  · simp [SameOutside, SameRest, SamePorts, SameControl]

theorem makeRoom_outside (s : State) : SameOutside s s.makeRoom := by
  unfold State.makeRoom
  split
  · exact .refl s
  · exact evict_outside s

theorem append_outside (s : State) (ps : PortSet) (t : Count) (b : RecordBody) : SameOutside s (s.append ps t b) := by
  unfold State.append
  split
  · exact .refl s
  · exact ((makeRoom_outside s).trans (by simp [SameOutside, SameRest, SamePorts, SameControl])).trans
      (reattend_outside _ _)

/-! ### Timing engines -/

theorem appendResult_outside (s : State) (e : EngineNo) (m : Mode) (o : EngineOutcome) (v a : Nat) (t : Count) :
    SameOutside s (s.appendResult e m o v a t) := append_outside _ _ _ _

theorem finishRun_outside (s : State) (e : EngineNo) (m : Mode) (o : EngineOutcome) (v a : Nat) (t : Count) :
    SameOutside s (s.finishRun e m o v a t) := (setEngineState_outside _ _ _).trans (appendResult_outside _ _ _ _ _ _ _)

theorem stopEngine_outside (s : State) (o : EngineOutcome) (e : EngineNo) : SameOutside s (s.stopEngine o e) := by
  unfold State.stopEngine
  split
  · exact .refl s
  · split
    · exact setEngineState_outside _ _ _
    · exact finishRun_outside _ _ _ _ _ _ _

theorem silenceEngine_outside (s : State) (e : EngineNo) : SameOutside s (s.silenceEngine e) := by
  unfold State.silenceEngine
  split
  · exact .refl s
  · exact setEngineState_outside _ _ _

theorem trainPulseEnd_outside (s : State) (e : EngineNo) (c : EngineConfig) (t : Count) :
    SameOutside s (s.trainPulseEnd e c t) := by
  unfold State.trainPulseEnd
  dsimp only
  split
  · exact finishRun_outside _ _ _ _ _ _ _
  · split
    · exact (withEngine_outside _ _ _).trans (finishRun_outside _ _ _ _ _ _ _)
    · exact (withEngine_outside _ _ _).trans (setEngineState_outside _ _ _)

theorem delayedPulseEnd_outside (s : State) (e : EngineNo) (c : EngineConfig) (t : Count) :
    SameOutside s (s.delayedPulseEnd e c t) := by
  unfold State.delayedPulseEnd
  dsimp only
  split
  · exact finishRun_outside _ _ _ _ _ _ _
  · exact ((withEngine_outside _ _ _).trans (setEngineState_outside _ _ _)).trans (appendResult_outside _ _ _ _ _ _ _)

theorem windowEnd_outside (s : State) (e : EngineNo) (c : EngineConfig) (t : Count) :
    SameOutside s (s.windowEnd e c t) := by
  unfold State.windowEnd
  dsimp only
  split
  · exact ((withEngine_outside _ _ _).trans (setEngineState_outside _ _ _)).trans (appendResult_outside _ _ _ _ _ _ _)
  · exact finishRun_outside _ _ _ _ _ _ _

theorem engineAct_outside (s : State) (e : EngineNo) (t : Count) : SameOutside s (s.engineAct e t) := by
  unfold State.engineAct
  split
  · exact .refl s
  · split
    · exact .refl s
    · exact .refl s
    · exact finishRun_outside _ _ _ _ _ _ _
    · exact finishRun_outside _ _ _ _ _ _ _
    · exact setEngineState_outside _ _ _
    · exact trainPulseEnd_outside _ _ _ _
    · exact setEngineState_outside _ _ _
    · exact delayedPulseEnd_outside _ _ _ _
    · exact windowEnd_outside _ _ _ _

theorem takeTick_outside (s : State) (e : EngineNo) : SameOutside s (s.takeTick e) := by
  unfold State.takeTick
  dsimp only
  split
  · exact (withEngine_outside _ _ _).trans (engineAct_outside _ _ _)
  · exact withEngine_outside _ _ _

theorem takeTicks_outside (s : State) (e : EngineNo) (n : Nat) : SameOutside s (s.takeTicks e n) := by
  induction n generalizing s with
  | zero => exact .refl s
  | succ n ih =>
    unfold State.takeTicks
    split
    · exact (takeTick_outside s e).trans (ih _)
    · exact .refl s

theorem takeNext_outside (s : State) (e : EngineNo) (n : Nat) : SameOutside s (s.takeNext e n) := by
  induction n generalizing s with
  | zero => exact .refl s
  | succ n ih => exact (takeTick_outside s e).trans (ih _)

theorem settleTicks_outside (s : State) (e : EngineNo) : SameOutside s (s.settleTicks e) := takeNext_outside _ _ _

theorem catchUp_outside (s : State) (e : EngineNo) : SameOutside s (s.catchUp e) := takeTicks_outside _ _ _

theorem catchUpAll_outside (s : State) (es : List EngineNo) : SameOutside s (s.catchUpAll es) :=
  SameOutside.foldl _ catchUp_outside es s

theorem takeToEnd_outside (s : State) (e : EngineNo) (n : Nat) : SameOutside s (s.takeToEnd e n) := by
  induction n generalizing s with
  | zero => exact .refl s
  | succ n ih =>
    unfold State.takeToEnd
    split
    · exact takeTick_outside s e
    · exact (takeTick_outside s e).trans (ih _)

/-! ### Leases -/

theorem gain_outside (s : State) (p : Port) (n : Nat) : SameOutside s (s.gain p n) := withSession_outside _ _ _

theorem lose_outside (s : State) (p : Port) (n : Nat) : SameOutside s (s.lose p n) := withSession_outside _ _ _

theorem seedLines_outside (s : State) (set : ResourceSet) : SameOutside s (s.seedLines set) := withLines_outside _ _

theorem grant_outside (s : State) (p : Port) (set : ResourceSet) : SameOutside s (s.grant p set) :=
  (((withEntries_outside _ _ _).trans (gain_outside _ _ _)).trans (seedLines_outside _ _)).trans (redrive_outside _ _)

theorem grantQueued_outside (s : State) (w : WaitEntry) : SameOutside s (s.grantQueued w) := by
  unfold State.grantQueued
  exact ((grant_outside s w.port w.set).trans (removeTicket_outside _ _)).trans (append_outside _ _ _ _)

theorem examineEntry_outside (s : State) (w : WaitEntry) : SameOutside s (s.examineEntry w) := by
  unfold State.examineEntry
  split
  · exact grantQueued_outside s w
  · exact .refl s

theorem examine_outside (s : State) : SameOutside s s.examine := SameOutside.foldl _ examineEntry_outside _ s

/-! ### Offers and the end of a session -/

theorem returnOffer_outside (s : State) (o : Offer) : SameOutside s (s.returnOffer o) :=
  ((catchUpAll_outside _ _).trans (removeOffer_outside _ _)).trans (withEntries_outside _ _ _)

theorem appendSettled_outside (s : State) (o : Offer) (out : OfferOutcome) (ps : PortSet) :
    SameOutside s (s.appendSettled o out ps) := append_outside _ _ _ _

theorem cancelOffer_outside (p : Port) (s : State) (o : Offer) : SameOutside s (State.cancelOffer p s o) := by
  unfold State.cancelOffer
  split
  · exact (removeOffer_outside _ _).trans (appendSettled_outside _ _ _ _)
  · exact (returnOffer_outside _ _).trans (appendSettled_outside _ _ _ _)

theorem cancelOffers_outside (s : State) (p : Port) : SameOutside s (s.cancelOffers p) :=
  SameOutside.foldl _ (cancelOffer_outside p) _ s

theorem dropHoldings_outside (s : State) (how : SessionEnd) (p : Port) : SameOutside s (s.dropHoldings how p) := by
  unfold State.dropHoldings
  dsimp only
  refine SameOutside.trans ?_ (withSession_outside _ _ _)
  refine SameOutside.trans ?_ (letGo_outside _ _ _)
  refine (catchUpAll_outside s (s.reachedByEnd p)).trans ?_
  cases how
  · exact SameOutside.foldl _ silenceEngine_outside _ _
  · exact SameOutside.foldl _ (fun s e => stopEngine_outside s _ e) _ _
  · exact SameOutside.foldl _ silenceEngine_outside _ _

theorem dropJournalInterest_outside (s : State) (p : Port) : SameOutside s (s.dropJournalInterest p) := by
  unfold State.dropJournalInterest
  exact (withJournal_outside _ _).trans (withOpen_outside _ _ _)

theorem reportLost_outside (s : State) (how : SessionEnd) (p : Port) (lost : ResourceSet) :
    SameOutside s (s.reportLost how p lost) := by
  unfold State.reportLost
  cases how <;> dsimp only
  · split
    · exact .refl s
    · exact append_outside _ _ _ _
  · exact .refl s
  · split
    · exact .refl s
    · exact append_outside _ _ _ _

theorem closeRecord_outside (s : State) (how : SessionEnd) (p : Port) : SameOutside s (s.closeRecord how p) :=
  (withSession_outside _ _ _).trans (withAttn_outside _ _ _)

/-- The end of a session touches no port, no timer but its own, and not the queue (R35, R37, R38). -/
theorem endSession_outside (s : State) (how : SessionEnd) (p : Port) : SameOutside s (s.endSession how p) := by
  unfold State.endSession
  dsimp only
  refine SameOutside.trans ?_ (closeRecord_outside _ _ _)
  refine SameOutside.trans ?_ (examine_outside _)
  refine SameOutside.trans ?_ (reportLost_outside _ _ _ _)
  refine SameOutside.trans ?_ (dropJournalInterest_outside _ _)
  refine SameOutside.trans ((dropHoldings_outside s how p).trans (cancelOffers_outside _ p)) ?_
  exact removeClaims_outside _ _

theorem openRecord_outside (s : State) (p : Port) (period threshold : Nat) :
    SameOutside s (s.openRecord p period threshold) := (withSession_outside _ _ _).trans (reattend_outside _ _)

theorem restartKeepalive_outside (s : State) (p : Port) : SameOutside s (s.restartKeepalive p) := withOpen_outside _ _ _

end Sys2Proof.Laws
end

