-- ==== Sys2Proof/Laws/Ops.lean ====
section
/-! SUPPORT. What the shared operations do: the journal's append, an engine's happenings, grants and releases. -/

namespace Sys2Proof.Laws

open Sys2Proof.Machine Sys2Proof.Safety

/-! ### An append (R127): besides the journal it moves only journal counters and delivery states -/

theorem movePoint_frame (next : Seq) (b : Bool) (x : Session) : sessionFrame (movePoint next b x) = sessionFrame x := by
  unfold movePoint
  split <;> rename_i h
  · split <;> simp [sessionFrame, h]
  · rfl
  · rfl

theorem countGiven_frame (x : Session) : sessionFrame (countGiven x) = sessionFrame x := by
  simp only [sessionFrame, countGiven]

theorem countLoss_frame (x : Session) : sessionFrame (countLoss x) = sessionFrame x := by
  simp only [sessionFrame, countLoss]

theorem evict_frame (s : State) (q : Port) : sessionFrame (s.evict.session q) = sessionFrame (s.session q) := by
  unfold State.evict
  split
  · rfl
  · simp only [State.session, PerPort.get_of]
    split
    · exact countLoss_frame _
    · rfl

theorem evict_tables (s : State) : SameTables s s.evict ∧ SameField s s.evict := by
  unfold State.evict
  split <;> exact ⟨⟨rfl, rfl, rfl, rfl, rfl⟩, rfl, rfl⟩

theorem makeRoom_frame (s : State) (q : Port) : sessionFrame (s.makeRoom.session q) = sessionFrame (s.session q) := by
  unfold State.makeRoom
  split
  · rfl
  · exact evict_frame s q

theorem makeRoom_tables (s : State) : SameTables s s.makeRoom ∧ SameField s s.makeRoom := by
  unfold State.makeRoom
  split
  · exact ⟨⟨rfl, rfl, rfl, rfl, rfl⟩, rfl, rfl⟩
  · exact evict_tables s

theorem place_frame (s : State) (ps : PortSet) (t : Count) (b : RecordBody) (q : Port) :
    sessionFrame ((s.place ps t b).session q) = sessionFrame (s.session q) := by
  simp only [State.place, State.session, PerPort.get_of]
  split
  · exact (countGiven_frame _).trans (movePoint_frame _ _ _)
  · exact movePoint_frame _ _ _

/-- Nobody is interested: nothing is appended. -/
theorem append_none {s : State} {ps : PortSet} (h : isNoPort (s.interested ps) = true) (t : Count) (b : RecordBody) :
    s.append ps t b = s := by
  simp only [State.append, h, if_true]

/-- Somebody is interested: room is made, the record is placed, and the attention outputs concerned follow. -/
theorem append_some {s : State} {ps : PortSet} (h : isNoPort (s.interested ps) = false) (t : Count) (b : RecordBody) :
    s.append ps t b =
      (s.makeRoom.place (s.interested ps) t b).reattend (eitherPort (s.interested ps) s.evictedInterest) := by
  simp only [State.append, h, Bool.false_eq_true, if_false]

theorem append_moved (s : State) (ps : PortSet) (t : Count) (b : RecordBody) : OnlyJournalMoved s (s.append ps t b) := by
  intro q
  unfold State.append
  split
  · rfl
  · simp only [State.session, State.reattend_sessions]
    exact (place_frame _ _ _ _ q).trans (makeRoom_frame s q)

theorem append_tables (s : State) (ps : PortSet) (t : Count) (b : RecordBody) : SameTables s (s.append ps t b) := by
  unfold State.append
  split
  · exact ⟨rfl, rfl, rfl, rfl, rfl⟩
  · simpa [SameTables, State.place] using (makeRoom_tables s).1

theorem append_field (s : State) (ps : PortSet) (t : Count) (b : RecordBody) : SameField s (s.append ps t b) := by
  unfold State.append
  split
  · exact ⟨rfl, rfl⟩
  · simpa [SameField, State.place] using (makeRoom_tables s).2

/-- What a session keeps decides whether it is OPEN. -/
theorem isOpen_of_frame {s t : State} (h : OnlyJournalMoved s t) (q : Port) : t.isOpen q = s.isOpen q := by
  have k := congrArg Session.state (h q)
  simp only [sessionFrame] at k
  unfold State.isOpen State.openFields
  split <;> split <;> simp_all

/-! ### An engine's happenings (R99 to R118): engine `e`, and what its records move -/

theorem happening_refl (s : State) (e : EngineNo) : EngineHappening s s e :=
  ⟨⟨rfl, fun _ _ => rfl⟩, fun _ => rfl, ⟨rfl, rfl, rfl, rfl, rfl⟩, (SameOutside.refl s).1, (SameOutside.refl s).2⟩

theorem happening_trans {s t u : State} {e : EngineNo} (h : EngineHappening s t e) (k : EngineHappening t u e) :
    EngineHappening s u e := by
  obtain ⟨⟨a1, a2⟩, a3, ⟨a4, a5, a6, a7, a8⟩, a9, a10⟩ := h
  obtain ⟨⟨b1, b2⟩, b3, ⟨b4, b5, b6, b7, b8⟩, b9, b10⟩ := k
  have o := SameOutside.trans ⟨a9, a10⟩ ⟨b9, b10⟩
  exact ⟨⟨b1.trans a1, fun k hk => (b2 k hk).trans (a2 k hk)⟩, fun q => (b3 q).trans (a3 q),
    ⟨b4.trans a4, b5.trans a5, b6.trans a6, b7.trans a7, b8.trans a8⟩, o.1, o.2⟩

theorem withEngine_happening (s : State) (e : EngineNo) (f : Engine → Engine) : EngineHappening s (s.withEngine e f) e := by
  refine ⟨⟨by simp, fun k hk => by simp [hk]⟩, fun q => by simp [State.session], ?_, (withEngine_outside s e f).1,
    (withEngine_outside s e f).2⟩
  simp [SameTables]

/-- The set of one engine holds no line, and of the engines itself alone. -/
theorem inSet_engineSet : ∀ e : EngineNo, (∀ l : Line, inSet (engineSet e) (lineResource l) = false) ∧
    ∀ k : EngineNo, inSet (engineSet e) (engineResource k) = decide (k = e) := by decide

theorem setEngineState_happening (s : State) (e : EngineNo) (st : EngineState) :
    EngineHappening s (s.setEngineState e st) e := by
  refine ⟨⟨?_, fun k hk => ?_⟩, fun q => by simp [State.session], by simp [SameTables],
    (setEngineState_outside s e st).1, (setEngineState_outside s e st).2⟩
  · apply Vector.ext
    intro i hi
    have h : ((s.withEngine e fun g => { g with state := st }).redrive (engineSet e)).line ⟨i, hi⟩ = s.line ⟨i, hi⟩ := by
      rw [State.line_redrive, (inSet_engineSet e).1]
      simp [State.line]
    exact h
  · have := (inSet_engineSet e).2 k
    simp [State.setEngineState, this, hk]

/-- The engine after a new state: the pin follows the state (R114). -/
theorem setEngineState_engine (s : State) (e : EngineNo) (st : EngineState) :
    (s.setEngineState e st).engine e =
      { s.engine e with state := st, out := (s.withEngine e fun g => { g with state := st }).engineDrive e } := by
  simp [State.setEngineState, (inSet_engineSet e).2, State.decidedEngine]

theorem append_happening (s : State) (e : EngineNo) (ps : PortSet) (t : Count) (b : RecordBody) :
    EngineHappening s (s.append ps t b) e := by
  have f := append_field s ps t b
  exact ⟨⟨f.1, fun k _ => by simp [State.engine, f.2]⟩, append_moved s ps t b, append_tables s ps t b,
    (append_outside s ps t b).1, (append_outside s ps t b).2⟩

theorem appendResult_happening (s : State) (e : EngineNo) (m : Mode) (o : EngineOutcome) (v a : Nat) (t : Count) :
    EngineHappening s (s.appendResult e m o v a t) e := append_happening _ _ _ _ _

theorem finishRun_happening (s : State) (e : EngineNo) (m : Mode) (o : EngineOutcome) (v a : Nat) (t : Count) :
    EngineHappening s (s.finishRun e m o v a t) e :=
  happening_trans (setEngineState_happening s e .idle) (appendResult_happening _ e m o v a t)

theorem stopEngine_happening (s : State) (o : EngineOutcome) (e : EngineNo) : EngineHappening s (s.stopEngine o e) e := by
  unfold State.stopEngine
  split
  · exact happening_refl s e
  · split
    · exact setEngineState_happening _ _ _
    · exact finishRun_happening _ _ _ _ _ _ _

theorem silenceEngine_happening (s : State) (e : EngineNo) : EngineHappening s (s.silenceEngine e) e := by
  unfold State.silenceEngine
  split
  · exact happening_refl s e
  · exact setEngineState_happening _ _ _

theorem trainPulseEnd_happening (s : State) (e : EngineNo) (c : EngineConfig) (t : Count) :
    EngineHappening s (s.trainPulseEnd e c t) e := by
  unfold State.trainPulseEnd
  dsimp only
  split
  · exact finishRun_happening _ _ _ _ _ _ _
  · split
    · exact happening_trans (withEngine_happening _ _ _) (finishRun_happening _ _ _ _ _ _ _)
    · exact happening_trans (withEngine_happening _ _ _) (setEngineState_happening _ _ _)

theorem delayedPulseEnd_happening (s : State) (e : EngineNo) (c : EngineConfig) (t : Count) :
    EngineHappening s (s.delayedPulseEnd e c t) e := by
  unfold State.delayedPulseEnd
  dsimp only
  split
  · exact finishRun_happening _ _ _ _ _ _ _
  · exact happening_trans (happening_trans (withEngine_happening _ _ _) (setEngineState_happening _ _ _))
      (appendResult_happening _ _ _ _ _ _ _)

theorem windowEnd_happening (s : State) (e : EngineNo) (c : EngineConfig) (t : Count) :
    EngineHappening s (s.windowEnd e c t) e := by
  unfold State.windowEnd
  dsimp only
  split
  · exact happening_trans (happening_trans (withEngine_happening _ _ _) (setEngineState_happening _ _ _))
      (appendResult_happening _ _ _ _ _ _ _)
  · exact finishRun_happening _ _ _ _ _ _ _

theorem engineAct_happening (s : State) (e : EngineNo) (t : Count) : EngineHappening s (s.engineAct e t) e := by
  unfold State.engineAct
  split
  · exact happening_refl s e
  · split
    · exact happening_refl s e
    · exact happening_refl s e
    · exact finishRun_happening _ _ _ _ _ _ _
    · exact finishRun_happening _ _ _ _ _ _ _
    · exact setEngineState_happening _ _ _
    · exact trainPulseEnd_happening _ _ _ _
    · exact setEngineState_happening _ _ _
    · exact delayedPulseEnd_happening _ _ _ _
    · exact windowEnd_happening _ _ _ _

theorem takeTick_happening (s : State) (e : EngineNo) : EngineHappening s (s.takeTick e) e := by
  unfold State.takeTick
  dsimp only
  split
  · exact happening_trans (withEngine_happening _ _ _) (engineAct_happening _ _ _)
  · exact withEngine_happening _ _ _

theorem takeTicks_happening (s : State) (e : EngineNo) (n : Nat) : EngineHappening s (s.takeTicks e n) e := by
  induction n generalizing s with
  | zero => exact happening_refl s e
  | succ n ih =>
    unfold State.takeTicks
    split
    · exact happening_trans (takeTick_happening s e) (ih _)
    · exact happening_refl s e

theorem takeNext_happening (s : State) (e : EngineNo) (n : Nat) : EngineHappening s (s.takeNext e n) e := by
  induction n generalizing s with
  | zero => exact happening_refl s e
  | succ n ih => exact happening_trans (takeTick_happening s e) (ih _)

theorem settleTicks_happening (s : State) (e : EngineNo) : EngineHappening s (s.settleTicks e) e := takeNext_happening _ _ _

theorem catchUp_happening (s : State) (e : EngineNo) : EngineHappening s (s.catchUp e) e := takeTicks_happening _ _ _

/-- No end is due: nothing is caught up. -/
theorem catchUp_of_not_due {s : State} {e : EngineNo} (h : NoEndDue s e) : s.catchUp e = s := by
  unfold NoEndDue at h
  unfold State.catchUp
  cases (s.timeCount - (s.engine e).taken).toNat with
  | zero => rfl
  | succ n => simp [State.takeTicks, h]

/-- Every tick is taken: nothing is left to take. -/
theorem settleTicks_of_taken {s : State} {e : EngineNo} (h : (s.engine e).taken = s.timeCount) : s.settleTicks e = s := by
  simp [State.settleTicks, h, State.takeNext]

/-- One tick is left: it is taken. -/
theorem settleTicks_of_near {s : State} {e : EngineNo} (h : (s.engine e).taken + 1 = s.timeCount) :
    s.settleTicks e = s.takeTick e := by
  have k : s.timeCount - (s.engine e).taken = 1 := by rw [← h]; bv_omega
  simp [State.settleTicks, k, State.takeNext]

theorem catchUpAll_of_not_due {s : State} {es : List EngineNo} (h : ∀ e, NoEndDue s e) : s.catchUpAll es = s := by
  unfold State.catchUpAll
  induction es with
  | nil => rfl
  | cons e es ih => rw [List.foldl_cons, catchUp_of_not_due (h e), ih]

/-! ### Leases (R8, R14, R15, R22) -/

theorem grant_entry (s : State) (p : Port) (set : ResourceSet) (r : Resource) :
    (s.grant p set).entry r =
      if inSet (s.newlyGranted p set) r then
        { s.entry r with state := .held p, generation := nextGeneration (s.entry r).generation }
      else s.entry r := by
  simp [State.grant, State.seedLines, State.gain]

theorem grant_rest (s : State) (p : Port) (set : ResourceSet) :
    (s.grant p set).offers = s.offers ∧ (s.grant p set).waitList = s.waitList ∧ SameJournal s (s.grant p set) ∧
      (s.grant p set).session p = { s.session p with heldCount := (s.session p).heldCount + setSize (s.newlyGranted p set) } ∧
      ∀ q, q ≠ p → (s.grant p set).session q = s.session q := by
  refine ⟨by simp [State.grant, State.seedLines, State.gain], by simp [State.grant, State.seedLines, State.gain], ?_, ?_,
    fun q hq => ?_⟩
  · simp [SameJournal, State.grant, State.seedLines, State.gain]
  · simp only [State.session, State.grant, State.seedLines, State.gain, State.redrive_sessions,
      State.withLines_sessions]
    simpa [State.session] using
      State.session_withSession (s.withEntries (s.newlyGranted p set) fun x =>
        { x with state := .held p, generation := nextGeneration x.generation }) p p
        (fun x => { x with heldCount := x.heldCount + setSize (s.newlyGranted p set) })
  · simp only [State.session, State.grant, State.seedLines, State.gain, State.redrive_sessions,
      State.withLines_sessions]
    simpa [State.session, hq] using
      State.session_withSession (s.withEntries (s.newlyGranted p set) fun x =>
        { x with state := .held p, generation := nextGeneration x.generation }) p q
        (fun x => { x with heldCount := x.heldCount + setSize (s.newlyGranted p set) })

theorem letGo_entry (s : State) (set : ResourceSet) (a : LeaseState) (r : Resource) :
    (s.letGo set a).entry r = if inSet set r then { s.entry r with state := a } else s.entry r := by
  simp [State.letGo]

theorem letGo_rest (s : State) (set : ResourceSet) (a : LeaseState) :
    (s.letGo set a).offers = s.offers ∧ (s.letGo set a).waitList = s.waitList ∧ SameSessions s (s.letGo set a) ∧
      SameJournal s (s.letGo set a) := by
  simp [State.letGo, SameSessions, SameJournal]

/-- Without a queued claim the examination does nothing (R66). -/
theorem examine_empty {s : State} (h : s.waitList = []) : s.examine = s := by simp [State.examine, h]

/-- A queued claim whose set is not available is passed over (R66). -/
theorem examineEntry_blocked {s : State} {w : WaitEntry} (h : s.setAvailable w.port w.adopt w.set = false) :
    s.examineEntry w = s := by simp [State.examineEntry, h]

end Sys2Proof.Laws
end

