-- ==== Sys2Proof/Laws/Requests.lean ====
section
/-! SUPPORT. The taking of a request: what `State.take` answers once its checks are decided. -/

namespace Sys2Proof.Laws

open Sys2Proof.Machine Sys2Proof.Safety

/-! ### Placing a response -/

theorem placeInPort_eq_placed (r : Response) (u : PortUnit) : placeInPort r u = placed r u := by
  rcases u with ⟨st, latch, a, b, c, d, link, sent, acks⟩
  cases link <;> rcases st with _ | ⟨i, r'⟩ | ⟨f, _ | i⟩ | r' <;> rfl

/-- An operation that leaves the outside alone, and then the answer: the request of the port is answered. -/
theorem answered_of_outside {s t : State} {p : Port} (f : Frame) (rep : Reply)
    (h : SameOutside (s.served p) t) :
    Answered s (t.answer p f.tag rep) p f rep.status rep.payload := by
  have hp : ∀ q, t.port q = s.port q := fun q => h.port q
  refine ⟨?_, ?_, ?_⟩
  · have h2 := h.2.2
    simpa using h2
  · simp only [State.answer, State.port_withPort, if_true, placeInPort_eq_placed, hp]
    congr 1
    simp [State.response, responseTo, responseTag, hp]
  · intro q hq
    simp [State.answer, hq, hp]

/-- The answer to a request changes nothing but the port. -/
theorem answer_beside (s : State) (p : Port) (tag : Byte) (r : Reply) : BesidePorts s (s.answer p tag r) := by
  simp [BesidePorts, SameSessions, SameTables, SameField, SameJournal, SameRest, SameControl]

/-! ### The checks -/

theorem sessionCheck_none {s : State} {p : Port} {f : Frame} (h : Passes s p f) :
    s.sessionCheck p f.session = none := by
  obtain ⟨h1, h2⟩ := h
  unfold State.sessionCheck
  unfold State.isOpen State.openFields at h1
  split <;> rename_i hs <;> rw [hs] at h1 <;> simp_all

theorem not_badLength {s : State} {rq : Request} {p : Port} {f : Frame} (h : Ready s rq p f) :
    badLength rq f = false := by
  obtain ⟨-, -, h3, h4, h5⟩ := h
  unfold badLength
  refine decide_eq_false ?_
  rintro (h | h | h)
  · exact h h3
  · exact h4 h
  · exact h5 h

/-- A request with a session check that passes it: its body runs with the keepalive timer restarted (R31, R161). -/
theorem take_passes {s : State} {rq : Request} {p : Port} {f : Frame}
    (body : State → Port → List Byte → State × Reply) (hc : hasSessionCheck rq = true) (h : Ready s rq p f)
    (hp : Passes s p f) :
    s.take rq p body =
      (body ((s.served p).restartKeepalive p) p f.payload).1.answer p f.tag
        (body ((s.served p).restartKeepalive p) p f.payload).2 := by
  have hs : (s.served p).sessionCheck p f.session = none :=
    sessionCheck_none (s := s.served p) hp
  simp [State.take, h.1, h.2.1, State.checked, not_badLength h, hc, hs]

/-- A request without a session check: its body runs at once (R161). -/
theorem take_free {s : State} {rq : Request} {p : Port} {f : Frame}
    (body : State → Port → List Byte → State × Reply) (hc : hasSessionCheck rq = false) (h : Ready s rq p f) :
    s.take rq p body =
      (body (s.served p) p f.payload).1.answer p f.tag (body (s.served p) p f.payload).2 := by
  simp [State.take, h.1, h.2.1, State.checked, not_badLength h, hc]

/-- A request that fails the session check is answered with the check's status and nothing else happens (R31). -/
theorem take_refused {s : State} {rq : Request} {p : Port} {f : Frame} {st : Status}
    (body : State → Port → List Byte → State × Reply) (hc : hasSessionCheck rq = true) (h : Ready s rq p f)
    (hr : s.sessionCheck p f.session = some st) :
    s.take rq p body = (s.served p).answer p f.tag (bare st) := by
  have hs : (s.served p).sessionCheck p f.session = some st := hr
  simp [State.take, h.1, h.2.1, State.checked, not_badLength h, hc, hs]

theorem taking_awake {s : State} {p : Port} {f : Frame} (h : s.taking p = some f) : s.inReset = none := by
  unfold State.taking at h
  split at h
  · rename_i hc; exact hc.1
  · cases h

/-- While the part is not in reset a happening happens. -/
theorem awake_of {s : State} (h : s.inReset = none) (f : State → State) : s.awake f = .next (f s) := by
  simp [State.awake, h]

theorem ready_awake {s : State} {rq : Request} {p : Port} {f : Frame} (h : Ready s rq p f) (g : State → State) :
    s.awake g = .next (g s) := awake_of (taking_awake h.1) g

/-! ### The keepalive restart -/

/-- Restarting a keepalive timer changes only that session's countdown (R30). -/
theorem restart_only (s : State) (p : Port) :
    OnlyRestarted s ((s.served p).restartKeepalive p) p := by
  have hs : ∀ q, (s.served p).session q = s.session q := fun q => rfl
  refine ⟨?_, fun q hq => ?_⟩
  · simp only [State.restartKeepalive, State.session_withOpen, if_true, restarted, hs]
    all_goals (cases (s.session p).state <;> rfl)
  · simp only [State.restartKeepalive, State.session_withOpen, if_neg hq, hs]

theorem restart_outside (s : State) (p : Port) :
    SameOutside (s.served p) ((s.served p).restartKeepalive p) :=
  restartKeepalive_outside _ _

/-- Reading the tables does not see the restart. -/
theorem restart_entry (s : State) (p : Port) (r : Resource) :
    ((s.served p).restartKeepalive p).entry r = s.entry r := by
  simp [State.entry, State.restartKeepalive]

theorem restart_line (s : State) (p : Port) (l : Line) :
    ((s.served p).restartKeepalive p).line l = s.line l := by
  simp [State.line, State.restartKeepalive]

theorem restart_engine (s : State) (p : Port) (e : EngineNo) :
    ((s.served p).restartKeepalive p).engine e = s.engine e := by
  simp [State.engine, State.restartKeepalive]

/-- Changing fields of an OPEN session opens and closes nothing. -/
theorem isOpen_withOpen (s : State) (p q : Port) (f : OpenSession → OpenSession) :
    (s.withOpen p f).isOpen q = s.isOpen q := by
  cases h : (s.session p).state <;> by_cases hq : q = p <;>
    simp [State.isOpen, State.openFields, State.withOpen, h, hq]

theorem restart_isOpen (s : State) (p q : Port) : ((s.served p).restartKeepalive p).isOpen q = s.isOpen q :=
  isOpen_withOpen _ _ _ _

end Sys2Proof.Laws
end

