-- ==== Sys2Proof/Laws/Ports.lean ====
section
/-! SUPPORT. What the bytes of an SPI transaction and the end of it can do. -/

namespace Sys2Proof.Laws

open Sys2Proof.Machine Sys2Proof.Safety

/-- Two changes of one port are one change of it. -/
@[simp] theorem withPort_withPort (s : State) (p : Port) (f g : PortUnit → PortUnit) :
    (s.withPort p f).withPort p g = s.withPort p (g ∘ f) := by
  cases p <;> rfl

/-- A change of one port is of that port only. -/
theorem withPort_onlyPort (s : State) (p : Port) (f : PortUnit → PortUnit) : OnlyPort s (s.withPort p f) p f := by
  refine ⟨by simp, fun q hq => by simp [hq], by simp⟩

/-- A change of one port changes nothing but the ports. -/
theorem withPort_beside (s : State) (p : Port) (f : PortUnit → PortUnit) : BesidePorts s (s.withPort p f) := by
  simp [BesidePorts, SameSessions, SameTables, SameField, SameJournal, SameRest, SameControl]

/-- A byte of a transaction still to be judged (R164). -/
theorem spiByte_judging {s : State} {p : Port} {bytes : List Byte} (b : Byte) (h : (s.port p).link = .judging bytes) :
    s.spiByte p b = s.withPort p (sendZero ∘ judgeStart (bytes ++ [b])) := by
  simp [State.spiByte, h]

/-- A byte of a transaction whose rest is ignored changes nothing but what the port has sent (R164). -/
theorem spiByte_ignored {s : State} {p : Port} (b : Byte) (h : takesBytes (s.port p).link = false) :
    s.spiByte p b = s.withPort p sendZero := by
  cases hl : (s.port p).link <;> simp_all [State.spiByte, takesBytes]

/-- Whatever bytes a transaction has had, its judgement answers one of three: it is still to be judged, it is a resync, or
it is a framing error (R164). -/
theorem judgeStart_cases (bytes : List Byte) (u : PortUnit) :
    (bytes.head? = some 0xFF ∧ bytes.length < 4 ∧ judgeStart bytes u = { u with link := .judging bytes }) ∨
    (bytes = [0xFF, 0xFF, 0xFF, 0xFF] ∧ judgeStart bytes u = { resyncPort u with link := .ignoring }) ∨
    (¬(bytes.head? = some 0xFF ∧ bytes.length < 4) ∧ bytes ≠ [0xFF, 0xFF, 0xFF, 0xFF] ∧
      judgeStart bytes u = { countFraming u with link := .ignoring }) := by
  unfold judgeStart
  split
  · exact .inl ⟨‹_ ∧ _›.1, ‹_ ∧ _›.2, rfl⟩
  · split
    · exact .inr (.inl ⟨‹_›, rfl⟩)
    · exact .inr (.inr ⟨‹_›, ‹_›, rfl⟩)

/-- The select of a port in which a transaction is still to be judged goes high: a framing error, with the port's state,
slots and latch as they were (R164). -/
theorem spiEnd_judging {s : State} {p : Port} {bytes : List Byte} (h : (s.port p).link = .judging bytes) :
    s.spiEnd p = s.withPort p (fun u => selectHigh (failStart u)) ∧ failStart (s.port p) = countFraming (s.port p) := by
  simp [State.spiEnd, failStart, h]

/-- A framing error counted (R163) is what a failed start leaves, but for the link. -/
theorem countFraming_eq_afterFailedStart (u : PortUnit) : countFraming u = afterFailedStart u := rfl

end Sys2Proof.Laws
end

