-- ==== Sys2Proof/WellFormed.lean ====
section
/-! DEFINITION. When a command's operands can occur at all: the ranges the manual gives them. -/

namespace Sys2Proof

/-- A command is well formed when its operands lie in the ranges the manual gives: offer ids and tickets are 1 to 255
(R45, R62), and the bytes of an SPI framing error begin no write, read or resync (R164). Every other operand is in range
by its type. -/
def Instr.wellFormed : Instr → Bool
  | .offerExpiry id => decide (id ≠ 0)
  | .claimExpiry ticket => decide (ticket ≠ 0)
  | .spiFramingError _ sent => Machine.invalidSpiStart sent.bytes
  | .status _ | .openSession _ | .closeSession _ | .ping _ | .time _ | .claim _ | .cancelClaim _ | .release _
  | .setFailsafe _ | .leases _ | .offer _ | .accept _ | .decline _ | .withdraw _ | .setDirection _ | .writeLines _
  | .readLines _ | .configureEngine _ | .startEngine _ | .stopEngine _ | .engineStatus _ | .subscribe _ | .fetch _
  | .setAttention _ | .setProfile _ | .getProfile _ | .unknownCodeRequest _ | .lapse _ | .tick | .engineTick _
  | .pulseTrainPhaseEnd _ | .delayedPulsePhaseEnd _ | .measureLimitEnd _ | .countWindowEnd _ | .lineSample _
  | .monitorSettleEnd _ | .fsafeAssertion | .fsafeRelease | .spiWriteTransaction _ _ _ | .spiReadTransaction _ _
  | .resync _ | .frameComplete _ _ | .frameLost _ | .i2cWriteTransaction _ _ _ | .i2cReadTransaction _ _ _
  | .stretchLimit | .stuckSclAbort | .reset _ | .resetEnd _ | .nfsafeMonitorSample _ => true

end Sys2Proof
end

