-- ==== Sys2Proof/Tests/Slice0.lean ====
section
/-! SUPPORT. Tests: well-formedness, one-step checks of the manual's worked examples, and a state that meets the
hypotheses of each statement. -/

namespace Sys2Proof.Tests

open Sys2Proof.Machine Sys2Proof.Safety

-- The kernel evaluates these theorems one after another: all at once they take too many threads.
set_option Elab.async false

/-! ### WellFormed -/

theorem test_offer_id_0_is_ill_formed : Instr.wellFormed (.offerExpiry 0) = false := by decide

theorem test_ticket_0_is_ill_formed : Instr.wellFormed (.claimExpiry 0) = false := by decide

theorem test_write_start_is_no_framing_error : Instr.wellFormed (.spiFramingError .hp0 ⟨[0xB1, 0x30], true⟩) = false := by decide

theorem test_read_start_is_no_framing_error : Instr.wellFormed (.spiFramingError .hp1 ⟨[0xB2], true⟩) = false := by decide

theorem test_resync_is_no_framing_error : Instr.wellFormed (.spiFramingError .hp0 ⟨[0xFF, 0xFF, 0xFF, 0xFF], true⟩) = false := by
  decide

theorem test_no_byte_is_no_framing_error : Instr.wellFormed (.spiFramingError .hp0 ⟨[], false⟩) = false := by decide

theorem test_well_formed : Instr.wellFormed (.offerExpiry 255) = true ∧ Instr.wellFormed (.claimExpiry 1) = true ∧
    Instr.wellFormed (.spiFramingError .hp0 ⟨[0xFF, 0xFF, 0xFF], true⟩) = true := by decide

/-! ### States for the tests -/

/-- An OPEN session: keepalive 1,000 ms of which 900 remain, attention threshold 4, acknowledgement point 0. -/
def running (number : BitVec 16) : Session :=
  { state := .opened { period := 1000, remaining := 900, threshold := 4, rise := 0, fall := 0, ackPoint := 0, mark := none }
    number := number, heldCount := 0, given := 0, acknowledged := 0, lost := 0, unreportedLost := 0, previousEnd := .none }

/-- The hub after reset with a session OPEN on every port, of numbers 7, 8 and 9. -/
def hub : State := { State.reset with sessions := ⟨running 7, running 8, running 9⟩ }

/-- The resources of a set HELD by a port, with generation 1. -/
def holding (s : State) (p : Port) (set : ResourceSet) : State :=
  (s.withEntries set fun x => { x with state := .held p, generation := 1 }).withSession p
    fun x => { x with heldCount := x.heldCount + (members set).length }

/-- The resources of a set ORPHANED with a port as last holder. -/
def orphaning (s : State) (p : Port) (set : ResourceSet) : State :=
  s.withEntries set fun x => { x with state := .orphaned p }

/-- A set that a port holds, offered to another port under an id. -/
def offering (s : State) (id : Byte) (p q : Port) (set : ResourceSet) : State :=
  (s.withEntries set fun x => { x with state := .offered p id }).withOffers
    (s.offers ++ [{ id := id, offerer := p, target := q, set := set, remaining := 100 }])

/-- A queued claim. -/
def waiting (s : State) (ticket : Byte) (p : Port) (set : ResourceSet) : State :=
  s.withWaitList (s.waitList ++ [{ ticket := ticket, port := p, set := set, adopt := false, remaining := 200 }])

/-- An engine in a state with a configuration. -/
def engaged (s : State) (e : EngineNo) (c : EngineConfig) (st : EngineState) : State :=
  s.withEngine e fun g => { g with config := some c, state := st, taken := s.timeCount }

/-- The time count at a value, with every tick taken. -/
def atCount (s : State) (n : Count) : State := { s.withEngines (fun _ g => { g with taken := n }) with timeCount := n }

/-- The frame of a request of a port's session, with tag 0x30. -/
def frameOf (s : State) (rq : Request) (p : Port) (payload : List Byte) : Frame :=
  { tag := 0x30, code := requestCode rq, session := (s.session p).number, payload := payload }

/-- The port that the Arbiter looks at just before a port. -/
def priorPort : Port → Port
  | .hp0 => .hp2
  | .hp1 => .hp0
  | .hp2 => .hp1

/-- A frame PENDING at a port, which the Arbiter serves next. -/
def pendingAt (s : State) (p : Port) (f : Frame) : State :=
  (s.withPort p fun u => { u with state := .pending f none }).served (priorPort p)

/-- A request PENDING at a port, which the Arbiter serves next. -/
def asking (s : State) (rq : Request) (p : Port) (payload : List Byte) : State := pendingAt s p (frameOf s rq p payload)

/-- The state after a command. -/
def after (c : Instr) (s : State) : State :=
  match exec c s with
  | .next t => t
  | .fault _ => s
  | .refused _ => s

/-- The state after a request is taken. -/
def asked (s : State) (rq : Request) (p : Port) (payload : List Byte) : State :=
  after (commandOf p rq) (asking s rq p payload)

/-- The status and payload that a port holds for its host. -/
def answerAt (s : State) (p : Port) : Option (Status × List Byte) :=
  match (s.port p).state with
  | .answered r => some (r.status, r.payload)
  | .receiving _ (some r) => some (r.status, r.payload)
  | .receiving _ none => none
  | .idle => none
  | .pending _ _ => none

/-- The bodies of the journal's records with the ports interested in them. -/
def recorded (s : State) : List (RecordBody × PortSet) := s.journal.map fun r => (r.body, r.interest)

theorem taking_pendingAt (s : State) (p : Port) (f : Frame) (h : s.inReset = none) : (pendingAt s p f).taking p = some f := by
  have hp : (pendingAt s p f).port p = { s.port p with state := .pending f none } := by
    simp only [pendingAt, State.port, State.served, State.withPort, PerPort.get_set, if_true]
  have hq : ((pendingAt s p f).port p).request = some f := by rw [hp]; rfl
  have hl : nextPort (pendingAt s p f).servedLast = p := by cases p <;> rfl
  simp only [State.taking, State.arbiterChoice, hl, State.isPending, hq, Option.isSome_some, if_true]
  have hr : (pendingAt s p f).inReset = none := h
  simp [hr]

theorem ready_asking {s : State} {rq : Request} {p : Port} {payload : List Byte}
    (hl : payload.length = requestLength rq) (h : s.inReset = none) :
    Ready (asking s rq p payload) rq p (frameOf s rq p payload) :=
  ⟨taking_pendingAt s p _ h, rfl, hl, by simp [frameOf], by simp [frameOf]⟩

theorem passes_asking {s : State} {rq : Request} {p : Port} {payload : List Byte} (h : s.isOpen p = true) :
    Passes (asking s rq p payload) p (frameOf s rq p payload) := ⟨h, rfl⟩

/-! ### Encodings (sections 10.2.1, 10.3, 10.6.1) -/

theorem test_ping_frame : frameBytes { tag := 0x30, code := 0x04, session := 7, payload := [] } =
    [0x30, 0x04, 0x00, 0x07, 0x00, 0x5C] := by decide +kernel

theorem test_resource_set_bytes : resourceSetAt [0x02, 0x00, 0x00, 0x00, 0x30] 0 = some (Machine.setOf fun r => r = 4 ∨ r = 5 ∨ r = 33) ∧
    resourceSetAt [0x10, 0x00, 0x00, 0x00, 0x30] 0 = none := by decide +kernel

theorem test_fault_record_bytes :
    recordBytes { seq := 0x12C, time := 11100, body := .lineFault 7 .high .low, interest := ⟨true, false, false⟩ } =
      [0, 0, 0x01, 0x2C, 0, 0, 0x2B, 0x5C, 0x02, 0x07, 0x01, 0x00, 0, 0, 0, 0, 0, 0, 0, 0] := by decide +kernel

/-! ### Sessions (section 2.9) -/

theorem test_open_after_reset : answerAt (asked State.reset .openSession .hp1 [0x01, 0xF4, 1, 0]) .hp1 =
    some (.ok, [0x00, 0x01, 4, 0]) := by decide +kernel

theorem test_replace_reports_orphans :
    answerAt (asked (holding hub .hp1 3) .openSession .hp1 [0x03, 0xE8, 1, 1]) .hp1 = some (.ok, [0x00, 0x09, 3, 2]) := by
  decide +kernel

theorem test_lapse_reports_lost :
    recorded (after (.lapse .hp1) (holding hub .hp1 3)) = [(.leaseLost .hp1 3, ⟨true, false, true⟩)] ∧
    ((after (.lapse .hp1) (holding hub .hp1 3)).entry 1).state = .orphaned .hp1 := by decide +kernel

theorem test_close_frees : ((asked (holding hub .hp1 3) .closeSession .hp1 []).entry 0).state = .free ∧
    (asked (holding hub .hp1 3) .closeSession .hp1 []).journal = [] := by decide +kernel

theorem test_ping_without_session : answerAt (asked State.reset .ping .hp1 []) .hp1 = some (.noSession, []) ∧
    answerAt (asked (after (.lapse .hp1) hub) .ping .hp1 []) .hp1 = some (.staleSession, []) := by decide +kernel

theorem test_ping_restarts : ((asked hub .ping .hp0 []).openFields .hp0).map OpenSession.remaining = some 1000 := by
  decide +kernel

theorem test_status_clears :
    ((asked (after (.spiWriteTransaction .hp0 [1] true) hub) .status .hp0 [1]).port .hp0).framingErrors = 0 ∧
    ((answerAt (asked (after (.spiWriteTransaction .hp0 [1] true) hub) .status .hp0 [1]) .hp0).map
      fun a => byteAt a.2 3) = some 1 := by decide +kernel

theorem test_time_needs_no_session : answerAt (asked (atCount State.reset 258) .time .hp2 []) .hp2 =
    some (.ok, [0, 0, 1, 2, 1]) := by decide +kernel

theorem test_unknown_code :
    answerAt (after (.unknownCodeRequest .hp0) (pendingAt hub .hp0 ⟨0x30, 0x77, 7, []⟩)) .hp0 = some (.badRequest, []) := by
  decide +kernel

/-! ### Leases (sections 1.7, 4.7) -/

/-- The table of section 1.7. -/
def table17 : State :=
  (hub.withEntryOf fun r x =>
    if r = 4 then { x with state := .held .hp0, generation := 7, failsafe := .driveLow }
    else if r = 5 then { state := .orphaned .hp1, generation := 3, failsafe := .driveHigh }
    else if r = 33 then { state := .offered .hp2 5, generation := 2, failsafe := .driveLow }
    else if r = 34 then { state := .free, generation := 1, failsafe := .driveHigh }
    else x).withOffers [{ id := 5, offerer := .hp2, target := .hp1, set := 1#36 <<< 33, remaining := 10 }]

theorem test_claim_refusals :
    answerAt (asked table17 .claim .hp1 [0, 0, 0, 0, 0x60, 0, 0, 0]) .hp1 = some (.orphaned, [5, 1]) ∧
    answerAt (asked table17 .claim .hp1 [2, 0, 0, 0, 0x40, 0, 0, 0]) .hp1 = some (.offered, [33, 2]) ∧
    answerAt (asked table17 .claim .hp1 [2, 0, 0, 0, 0x50, 1, 0, 0]) .hp1 = some (.heldByOther, [4, 0]) ∧
    answerAt (asked table17 .claim .hp0 [2, 0, 0, 0, 0x00, 0, 0, 0]) .hp0 = some (.heldByOther, [33, 2]) := by
  decide +kernel

theorem test_claim_granted :
    let t := asked table17 .claim .hp1 [4, 0, 0, 0, 0x60, 1, 0, 0]
    answerAt t .hp1 = some (.ok, [0, 4, 0, 1, 0, 2]) ∧ (t.line 5).commanded = .high ∧ (t.line 5).direction = .output ∧
      (t.line 6).direction = .input ∧ (t.engine 2).out = .low ∧ (t.session .hp1).heldCount = 3 := by decide +kernel

theorem test_claim_queued :
    let t := asked (holding hub .hp0 0xF) .claim .hp1 [0, 0, 0, 0, 0x0C, 2, 0x03, 0xE8]
    answerAt t .hp1 = some (.queued, [1, 2, 0]) ∧ t.waitList.map WaitEntry.remaining = [1000] := by decide +kernel

theorem test_release_grants_younger :
    let t := asked (waiting (waiting (holding hub .hp0 0xF) 1 .hp1 0xC) 2 .hp2 0x18) .release .hp0 [0, 0, 0, 0, 0x08]
    t.waitList.map WaitEntry.ticket = [1] ∧ (t.entry 3).state = .held .hp2 ∧ (t.entry 3).generation = 2 ∧
      recorded t = [(.claimSettled .hp2 2 .granted 0x18, ⟨false, false, true⟩)] := by decide +kernel

theorem test_claim_expires :
    recorded (after (.claimExpiry 2) (waiting (holding hub .hp0 8) 2 .hp2 0x18)) =
      [(.claimSettled .hp2 2 .expired 0x18, ⟨false, false, true⟩)] := by decide +kernel

theorem test_cancel_claim :
    (asked (waiting (holding hub .hp0 8) 2 .hp2 0x18) .cancelClaim .hp2 [2]).waitList = [] ∧
    answerAt (asked (waiting (holding hub .hp0 8) 2 .hp2 0x18) .cancelClaim .hp1 [2]) .hp1 = some (.offerGone, []) := by
  decide +kernel

theorem test_set_failsafe_moves_free_level :
    let t := asked (holding hub .hp0 1) .setFailsafe .hp0 [0, 0, 0, 0, 1, 0, 0, 0, 0, 0, 0, 0, 0, 1]
    (t.entry 0).failsafe = .driveHigh ∧ (t.line 0).drive = .float := by decide +kernel

theorem test_leases_bytes :
    ((answerAt (asked table17 .leases .hp0 []) .hp0).map fun a => ((a.2.drop 12).take 6, (a.2.drop 99).take 3, a.2.drop 108)) =
      some ([0x40, 0, 7, 0xD4, 0, 3], [0xA0, 0, 2], [5, 0, 0, 0]) := by decide +kernel

/-! ### Offers (section 3.8) -/

theorem test_offer :
    let t := asked { holding hub .hp0 0x3000 with offerCounter := 6 } .offer .hp0 [0, 0, 0, 0x30, 0, 1, 0, 100]
    answerAt t .hp0 = some (.ok, [7]) ∧ (t.entry 12).state = .offered .hp0 7 ∧
      recorded t = [(.offerMade .hp0 7 0x3000 100, ⟨false, true, false⟩)] := by decide +kernel

/-- The line L12 held by HP0 and offered to HP1 under id 9. -/
def offer9 : State := offering (holding hub .hp0 0x1000) 9 .hp0 .hp1 0x1000

theorem test_accept :
    let t := asked offer9 .accept .hp1 [9]
    answerAt t .hp1 = some (.ok, [0, 0, 0, 0x10, 0, 0, 2]) ∧ (t.entry 12).state = .held .hp1 ∧
      recorded t = [(.offerSettled .hp0 9 .accepted, ⟨true, false, false⟩)] ∧
      answerAt (asked offer9 .accept .hp2 [9]) .hp2 = some (.offerGone, []) := by decide +kernel

theorem test_decline :
    let t := asked offer9 .decline .hp1 [9]
    (t.entry 12).state = .held .hp0 ∧ (t.entry 12).generation = 1 ∧
      recorded t = [(.offerSettled .hp0 9 .declined, ⟨true, false, false⟩)] := by decide +kernel

theorem test_withdraw : recorded (asked offer9 .withdraw .hp0 [9]) =
    [(.offerSettled .hp0 9 .withdrawn, ⟨false, true, false⟩)] := by decide +kernel

theorem test_offer_expires : recorded (after (.offerExpiry 9) offer9) =
    [(.offerSettled .hp0 9 .expired, ⟨true, true, false⟩)] := by decide +kernel

theorem test_release_of_offered :
    answerAt (asked offer9 .release .hp0 [0, 0, 0, 0x10, 0]) .hp0 = some (.offered, [12, 0]) := by decide +kernel

/-! ### Lines (section 5.9) -/

/-- L7 held by HP0, which subscribes to it, with the given cell. -/
def line7 (filtered : Level) (run : Nat) (monitor : Monitor) (drive : Drive) : State :=
  ((holding hub .hp0 0x80).withOpen .hp0 fun o => { o with rise := 0x80, fall := 0x80 }).withLine 7 fun _ =>
    { raw := filtered, run := run, filtered := filtered, direction := .output
      commanded := if drive = .high then .high else .low, monitor := monitor, drive := drive }

theorem test_write_lines :
    let t := asked (line7 .low 0 .watching .low) .writeLines .hp0 [0, 0, 0, 0x80, 0, 0, 0, 0x80]
    (t.line 7).drive = .high ∧ (t.line 7).monitor = .settling 5 := by decide +kernel

theorem test_sample_accepts_edge :
    let t := after (.lineSample 0x80) (line7 .low 2 (.settling 3) .high)
    (t.line 7).filtered = .high ∧ (t.line 7).run = 0 ∧ (t.line 7).monitor = .settling 2 ∧
      recorded t = [(.lineEdge 7 .high, ⟨true, false, false⟩)] := by decide +kernel

theorem test_sample_finds_fault :
    let t := after (.lineSample 0) (line7 .high 2 .watching .high)
    (t.line 7).monitor = .faulted ∧
      recorded t = [(.lineEdge 7 .low, ⟨true, false, false⟩), (.lineFault 7 .high .low, ⟨true, false, false⟩)] ∧
      t.attn.get .hp0 = true := by decide +kernel

theorem test_settle_end : ((after (.monitorSettleEnd 7) (line7 .high 0 (.settling 1) .high)).line 7).monitor = .watching := by
  decide +kernel

theorem test_set_direction :
    let t := asked (holding hub .hp0 0x80) .setDirection .hp0 [0, 0, 0, 0, 0x80, 0, 0, 0, 0x80]
    (t.line 7).drive = .low ∧ answerAt (asked hub .setDirection .hp0 [2, 0, 0, 0, 0, 0, 0, 0, 0]) .hp0 =
      some (.badArgument, [33, 0xFF]) := by decide +kernel

theorem test_read_lines :
    ((answerAt (asked (line7 .low 0 .faulted .high) .readLines .hp1 []) .hp1).map fun a => byteAt a.2 7) = some 0x34 := by
  decide +kernel

/-! ### The force input (5.7) -/

/-- The configuration of section 6.15. -/
def train : EngineConfig :=
  { mode := .pulseTrain, a := 30, b := 20, repeatCount := 2, input := none, edge := .rising, gate := some 9
    gateLevel := .high, trigger := .command, rearm := false }

/-- T3 held by HP2, with the engine TE3 in a state at a count. -/
def te3 (n : Count) (st : EngineState) (pulses : Nat) : State :=
  (engaged (atCount (holding hub .hp2 (1#36 <<< 35)) n) 3 train st).withEngine 3 fun g => { g with pulses := pulses }

theorem test_force_asserted :
    let t := after .fsafeAssertion (te3 1000 (.timed .high 1030) 1)
    (t.engine 3).state = .idle ∧
      recorded t = [(.engineResult 3 .pulseTrain .forced 1 0, ⟨false, false, true⟩),
        (.forceChange true, ⟨true, true, true⟩)] := by decide +kernel

theorem test_third_low_sample_asserts :
    (after (.nfsafeMonitorSample .low) { hub with force := { asserted := false, run := 2 } }).force.asserted = true ∧
    (after (.nfsafeMonitorSample .low) { hub with force := { asserted := false, run := 1 } }).force.asserted = false := by
  decide +kernel

theorem test_force_released : recorded (after .fsafeRelease { hub with force := { asserted := true, run := 0 } }) =
    [(.forceChange false, ⟨true, true, true⟩)] := by decide +kernel

/-! ### Engines (sections 6.14, 6.15) -/

theorem test_gate_shuts :
    let t := after (.lineSample 0) ((te3 1015 (.timed .high 1030) 0).withLine 9 fun c =>
      { c with raw := .high, filtered := .high, run := 2 })
    (t.engine 3).state = .gated .high 15 ∧ (t.engine 3).out = .low := by decide +kernel

theorem test_train_ends :
    let t := after (.pulseTrainPhaseEnd 3) { te3 1124 (.timed .low 1125) 1 with timeCount := 1125 }
    (t.engine 3).state = .idle ∧ recorded t = [(.engineResult 3 .pulseTrain .done 2 0, ⟨false, false, true⟩)] := by
  decide +kernel

/-- The configuration of section 6.14. -/
def pulse : EngineConfig :=
  { mode := .delayedPulse, a := 200, b := 50, repeatCount := 0, input := some 3, edge := .rising, gate := none
    gateLevel := .low, trigger := .line, rearm := true }

/-- T1 held by HP0, with the engine TE1 in a state at a count. -/
def te1 (n : Count) (c : EngineConfig) (st : EngineState) : State :=
  engaged (atCount (holding hub .hp0 (1#36 <<< 33)) n) 1 c st

theorem test_configure :
    ((asked (te1 5000 train .idle) .configureEngine .hp0
      [1, 2, 0, 0, 200, 0, 0, 50, 0, 0, 3, 0, 0xFF, 0, 1, 1]).engine 1).config = some pulse ∧
    answerAt (asked (te1 5000 train .idle) .configureEngine .hp0
      [1, 0, 0, 0, 200, 0, 0, 50, 0, 0, 3, 0, 0xFF, 0, 1, 1]) .hp0 = some (.badArgument, []) := by decide +kernel

theorem test_start_arms : ((asked (te1 5000 pulse .idle) .startEngine .hp0 [1]).engine 1).state = .armed none := by
  decide +kernel

theorem test_edge_fires :
    ((after (.lineSample 8) ((te1 5120 pulse (.armed none)).withLine 3 fun c => { c with run := 2 })).engine 1).state =
      .timed .delay 5320 := by decide +kernel

theorem test_delay_ends :
    let t := after (.delayedPulsePhaseEnd 1) { te1 5319 pulse (.timed .delay 5320) with timeCount := 5320 }
    (t.engine 1).state = .timed .pulse 5370 ∧ (t.engine 1).out = .high := by decide +kernel

theorem test_pulse_ends :
    let t := after (.delayedPulsePhaseEnd 1) { te1 5369 pulse (.timed .pulse 5370) with timeCount := 5370 }
    (t.engine 1).state = .armed none ∧
      recorded t = [(.engineResult 1 .delayedPulse .done 1 0, ⟨true, false, false⟩)] := by decide +kernel

theorem test_stop : recorded (asked (te1 5800 pulse (.armed none)) .stopEngine .hp0 [1]) =
    [(.engineResult 1 .delayedPulse .stopped 0 0, ⟨true, false, false⟩)] := by decide +kernel

theorem test_engine_status :
    ((answerAt (asked (te1 5000 pulse (.timed .delay 5320)) .engineStatus .hp1 [1]) .hp1).map fun a => a.2.take 18) =
      some [2, 3, 1, 2, 0, 0, 200, 0, 0, 50, 0, 0, 3, 0, 0xFF, 0, 1, 1] := by decide +kernel

/-- A measurement of rising edges on L3 with a limit of 100 ticks. -/
def measuring (mode : Mode) : EngineConfig := { pulse with mode := mode, a := 100, trigger := .command, rearm := false }

theorem test_limit_ends :
    recorded (after (.measureLimitEnd 1)
      { te1 1099 (measuring .measureWidth) (.measuring 1040 1100) with timeCount := 1100 }) =
      [(.engineResult 1 .measureWidth .timeout 60 0, ⟨true, false, false⟩)] := by decide +kernel

theorem test_window_ends :
    recorded (after (.countWindowEnd 1) { (te1 1099 (measuring .countEdges) (.timed .counting 1100)).withEngine 1
      (fun g => { g with edges := 12 }) with timeCount := 1100 }) =
      [(.engineResult 1 .countEdges .done 12 0, ⟨true, false, false⟩)] := by decide +kernel

theorem test_tick_wraps : (after .tick (atCount hub 0xFFFFFFFF)).timeCount = 0 := by decide +kernel

/-- R127, R99: the result of the tick 5,370 is recorded, with that count, before the count rises again. -/
theorem test_tick_waits_for_engines :
    let t := after .tick { te1 5369 pulse (.timed .pulse 5370) with timeCount := 5370 }
    t.timeCount = 5371 ∧ t.journal.map Record.time = [5370] := by decide +kernel

theorem test_engine_tick_counts :
    ((after (.engineTick 1) { te1 5000 pulse (.armed none) with timeCount := 5001 }).engine 1).elapsed = 1 := by
  decide +kernel

/-! ### The journal (section 7.9) -/

/-- The journal of section 7.9 before step 5. -/
def shared : State :=
  { (hub.withOpen .hp0 fun o => { o with ackPoint := 40 }).withOpen .hp1 fun o =>
      { o with ackPoint := 40, mark := some 43, threshold := 2 } with
    journal := [⟨41, 1000, .lineEdge 5 .high, ⟨true, true, false⟩⟩, ⟨42, 1100, .lineEdge 5 .low, ⟨true, false, false⟩⟩,
      ⟨43, 1200, .lineEdge 5 .high, ⟨true, true, false⟩⟩]
    nextSeq := 44, attn := ⟨false, true, false⟩ }

theorem test_fetch_acknowledges :
    let t := asked shared .fetch .hp1 [1, 0, 0, 0, 41, 1]
    ((answerAt t .hp1).map fun a => a.2.take 12) = some [1, 0, 0, 0, 0, 0, 0, 43, 0, 0, 0, 43] ∧
      t.journal.map Record.interest = [⟨true, false, false⟩, ⟨true, false, false⟩, ⟨true, true, false⟩] ∧
      (t.session .hp1).acknowledged = 1 ∧ t.attn.get .hp1 = false := by decide +kernel

theorem test_fetch_without_mark :
    answerAt (asked shared .fetch .hp0 [1, 0, 0, 0, 42, 6]) .hp0 = some (.badArgument, []) := by decide +kernel

theorem test_subscribe :
    ((asked hub .subscribe .hp0 [0, 0, 0, 0, 0x80, 0, 0, 0, 0, 0x20]).openFields .hp0).map (fun o => (o.rise, o.fall)) =
      some (0x80, 0x20) := by decide +kernel

theorem test_set_attention : (asked shared .setAttention .hp0 [3]).attn.get .hp0 = true ∧
    (asked shared .setAttention .hp1 [3]).attn.get .hp1 = false := by decide +kernel

/-! ### The profile (section 8.5) -/

/-- The hub of section 8.5 before step 3, with HP0's payload. -/
def profiled : State :=
  ((hub.withEntries 4 fun x => { x with failsafe := .driveHigh }).withLine 2 fun c =>
    { c with raw := .high, filtered := .high, drive := .high, monitor := .watching }).withLine 6 fun c =>
      { c with raw := .high, run := 2 }

/-- The payload of step 3. -/
def profilePayload : List Byte := [2, 2] ++ List.replicate 6 3 ++ [5] ++ List.replicate 25 3 ++ [0, 0, 0, 4]

theorem test_set_profile :
    let t := asked profiled .setProfile .hp0 profilePayload
    (t.line 2).drive = .float ∧ (t.line 2).monitor = .idle ∧ (t.line 6).run = 0 ∧ (t.line 6).filtered = .low ∧
      recorded t = [(.profileChanged .hp0 .us100, ⟨true, true, true⟩)] := by decide +kernel

theorem test_set_profile_not_quiet :
    answerAt (asked (holding hub .hp1 0x200) .setProfile .hp0 profilePayload) .hp0 = some (.notQuiet, []) := by
  decide +kernel

theorem test_get_profile :
    ((answerAt (asked hub .getProfile .hp0 []) .hp0).map fun a => (a.2.take 3, a.2.drop 34)) =
      some ([1, 2, 3], [0, 0, 0, 0]) := by decide +kernel

/-! ### Ports (sections 9.10, 11.4) -/

/-- The PING of section 10.2.1. -/
def pingBytes : List Byte := [0x30, 0x04, 0x00, 0x07, 0x00, 0x5C]

theorem test_spi_write : ((after (.spiWriteTransaction .hp0 pingBytes true) hub).port .hp0).state =
    .pending ⟨0x30, 0x04, 7, []⟩ none := by decide +kernel

theorem test_spi_wrong_check :
    answerAt (after (.spiWriteTransaction .hp0 [0x31, 0x04, 0x00, 0x07, 0x00, 0x5C] true) hub) .hp0 =
      some (.checkError, []) := by decide +kernel

theorem test_spi_overrun :
    let t := after (.spiWriteTransaction .hp0 pingBytes true) (asking hub .leases .hp0 [])
    (t.port .hp0).overruns = 1 ∧ (t.port .hp0).overrunLatch = true ∧ (t.port .hp0).request.isSome = true := by
  decide +kernel

/-- R164: 0x00 during the direction byte, then what R160 gives. -/
theorem test_spi_read_pending : ((after (.spiReadTransaction .hp0 ⟨3, true⟩) (asking hub .ping .hp0 [])).port .hp0).sent =
    [0, 0xF0, 0, 0] := by decide +kernel

/-- R164: 0x00 throughout a write, with the data output driven while the select is low. -/
theorem test_spi_write_sends_zeros :
    let t := after (.spiWriteTransaction .hp0 [0x30, 0x04] false) hub
    (t.port .hp0).sent = [0, 0, 0] ∧ (t.port .hp0).driven = true ∧ ((after (.frameLost .hp0) t).port .hp0).driven = false := by
  decide +kernel

theorem test_spi_framing_error : ((after (.spiFramingError .hp1 ⟨[0x55], true⟩) hub).port .hp1).framingErrors = 1 := by
  decide +kernel

/-- HP1 in a transaction that began with 0xFF and has had two bytes. -/
def judging : State :=
  (asking hub .ping .hp1 []).withPort .hp1 fun u => { u with link := .judging [0xFF, 0x12], driven := true, sent := [0, 0] }

/-- R164: a first byte 0xFF is judged at the fourth byte, and no byte of it is before. -/
theorem test_start_is_judged_at_the_fourth_byte :
    let t := after (.spiFramingError .hp1 ⟨[0xFF, 0x12], false⟩) hub
    let u := after (.frameComplete .hp1 [0x34, 0x56]) t
    ((t.port .hp1).link, (t.port .hp1).framingErrors, (t.port .hp1).driven, (t.port .hp1).sent) =
        (.judging [0xFF, 0x12], 0, true, [0, 0]) ∧
      ((u.port .hp1).link, (u.port .hp1).framingErrors, (u.port .hp1).sent) = (.ignoring, 1, [0, 0, 0, 0]) := by
  decide +kernel

/-- R164, R167: four bytes 0xFF are a resync at the fourth, and the select high before it is a framing error. -/
theorem test_start_of_four_or_fewer :
    let t := after (.spiFramingError .hp1 ⟨[0xFF], false⟩) (asking hub .ping .hp1 [])
    let u := after (.frameComplete .hp1 [0xFF, 0xFF, 0xFF]) t
    ((u.port .hp1).state, (u.port .hp1).resyncs, (u.port .hp1).framingErrors, (u.port .hp1).link) =
        (.idle, 1, 0, .ignoring) ∧
      ((after (.frameLost .hp1) t).port .hp1).framingErrors = 1 ∧ (after (.frameLost .hp1) t).isPending .hp1 = true := by
  decide +kernel

theorem test_resync :
    let t := after (.resync (.spi .hp0 0 true)) (asking hub .ping .hp0 [])
    (t.port .hp0).state = .idle ∧ (t.port .hp0).resyncs = 1 ∧ t.isOpen .hp0 = true := by decide +kernel

/-- R164: the data output is driven while the select is low after a resync, and not when it is high again. -/
theorem test_resync_with_the_select_low :
    let t := after (.resync (.spi .hp0 1 false)) hub
    (t.port .hp0).driven = true ∧ (t.port .hp0).sent = [0, 0, 0, 0, 0] ∧
      ((after (.frameLost .hp0) t).port .hp0).driven = false ∧ ((after (.frameLost .hp0) t).port .hp0).framingErrors = 0 := by
  decide +kernel

/-- HP0 in a write transaction with two bytes of a frame in. -/
def writing : State :=
  hub.withPort .hp0 fun u => { u with state := .receiving [0x30, 0x04] none, link := .writing }

theorem test_frame_completes : ((after (.frameComplete .hp0 [0x00, 0x07, 0x00, 0x5C]) writing).port .hp0).state =
    .pending ⟨0x30, 0x04, 7, []⟩ none := by decide +kernel

theorem test_frame_lost : ((after (.frameLost .hp0) writing).port .hp0).framingErrors = 1 ∧
    ((after (.frameLost .hp0) writing).port .hp0).state = .idle := by decide +kernel

theorem test_i2c_write :
    let t := after (.i2cWriteTransaction 0x2C [0x30, 0x04, 0x00, 0x09, 0x00, 0x9E] true) hub
    (t.port .hp2).acks = List.replicate 7 true ∧
      ((after (.i2cWriteTransaction 0x2D pingBytes true) hub).port .hp2).acks = [false] := by decide +kernel

/-- R168: the LEN byte 0x31 and what follows are not acknowledged, and the frame is lost. -/
theorem test_i2c_len_above_48 :
    let t := after (.i2cWriteTransaction 0x2C [0x30, 0x04, 0x00, 0x09, 0x31, 0x00] true) hub
    (t.port .hp2).acks = [true, true, true, true, true, false, false] ∧ (t.port .hp2).framingErrors = 1 ∧
      (t.port .hp2).state = .idle := by decide +kernel

theorem test_general_call : ((after (.i2cWriteTransaction 0 [0x5B] true) hub).port .hp2).resyncs = 1 := by decide +kernel

/-- R168: a repeated START completes the frame before the read that follows, which finds the port PENDING. -/
theorem test_i2c_write_and_read_in_one_transfer :
    let t := after (.i2cReadTransaction 0x2C 53 true)
      (after (.i2cWriteTransaction 0x2C pingBytes false) hub)
    (t.port .hp2).state = .pending ⟨0x30, 0x04, 7, []⟩ none ∧ (t.port .hp2).link = .stretching 53 10 true := by
  decide +kernel

theorem test_i2c_read_stretches :
    let t := after (.i2cReadTransaction 0x2C 53 true) (asking hub .fetch .hp2 [0, 0, 0, 0, 0, 6])
    (t.port .hp2).link = .stretching 53 10 true ∧ (t.port .hp2).acks = [true] ∧
      ((after (.i2cReadTransaction 0 1 true) hub).port .hp2).acks = [false] := by decide +kernel

/-- HP2 stretching a read while its FETCH is PENDING. -/
def stretched : State :=
  (asking hub .fetch .hp2 [0, 0, 0, 0, 0, 6]).withPort .hp2 fun u => { u with link := .stretching 3 1 true }

theorem test_answer_releases_stretch : (((after (.fetch .hp2) stretched).port .hp2).sent, ((after (.fetch .hp2) stretched).port
    .hp2).link) = ([0x30, 0x00, 0x00], Link.quiet) := by decide +kernel

theorem test_stretch_limit : ((after .stretchLimit stretched).port .hp2).sent = [0xF0, 0, 0] ∧
    ((after .stretchLimit stretched).port .hp2).request.isSome = true := by decide +kernel

theorem test_stuck_scl :
    ((after .stuckSclAbort (hub.withPort .hp2 fun u => { u with link := .reading })).port .hp2).framingErrors = 1 := by
  decide +kernel

/-! ### Reset (9.9) and the idle step -/

theorem test_reset_floats_and_clears :
    let t := after (.reset (.pinLow 5000)) (line7 .high 0 .watching .high)
    (t.line 7).drive = .float ∧ t.inReset = some .pin ∧
      (after (.reset (.pinLow 999)) (line7 .high 0 .watching .high)) = line7 .high 0 .watching .high := by decide +kernel

theorem test_reset_ends_with_straps :
    let t := after (.resetEnd { ResetPins.standard with straps := 3, nFsafe := .low, lines := 0x80, select1Low := true })
      { hub with inReset := some .pin }
    t.i2cAddress = 0x2F ∧ t.force.asserted = true ∧ (t.line 7).filtered = .high ∧ t.resetCause = .pin ∧
      t.isOpen .hp0 = false ∧ (t.port .hp1).link = .ignoring ∧ (t.port .hp0).driven = false ∧
      (t.port .hp1).driven = true ∧ ((after (.frameLost .hp1) t).port .hp1).driven = false := by decide +kernel

theorem test_idle_step_runs_timers_out :
    (hub.withOpen .hp0 fun o => { o with remaining := 1 }).alone.pending = [.lapse .hp0] := by decide +kernel

/-! ### A state for the hypotheses of each statement -/

theorem blocked_nil {s : State} (h : s.waitList = []) : Blocked s := by
  intro w hw
  rw [h] at hw
  cases hw

theorem waitWf_nil {s : State} (h : s.waitList = []) : WaitWf s :=
  ⟨by simp [h], by simp [h], by simp [h], blocked_nil h⟩

/-- The offer table and the OFFERED entries agree, as far as it can be computed. -/
def offersAgree (s : State) : Bool :=
  decide (s.offers.length ≤ 4 ∧ (s.offers.map Offer.id).Pairwise (· < ·) ∧
    ∀ o ∈ s.offers, o.id ≠ 0 ∧ o.target ≠ o.offerer ∧ s.isOpen o.offerer = true ∧ s.isOpen o.target = true ∧ o.set ≠ 0 ∧
      ∀ r, inSet o.set r = true → (s.entry r).state = .offered o.offerer o.id) &&
  (List.finRange 36).all fun r =>
    match (s.entry r).state with
    | .offered p id => s.offers.any fun o => decide (o.id = id ∧ o.offerer = p ∧ inSet o.set r = true)
    | .free => true
    | .held _ => true
    | .orphaned _ => true

theorem offersWf_of_agree {s : State} (h : offersAgree s = true) : OffersWf s := by
  simp only [offersAgree, Bool.and_eq_true, decide_eq_true_eq] at h
  obtain ⟨⟨h1, h2, h3⟩, h4⟩ := h
  refine ⟨h1, h2, h3, fun r p id hs => ?_⟩
  have k := List.all_eq_true.mp h4 r (List.mem_finRange r)
  simp only [hs, List.any_eq_true, decide_eq_true_eq] at k
  exact k

theorem no_end_due {s : State} (h : ∀ e, s.endDue e = false) : ∀ e, NoEndDue s e := h

theorem lowest_zero {set : ResourceSet} {bad : Resource → Prop} (h : inSet set 0 = true) (k : bad 0) :
    LowestWith set bad 0 := ⟨h, k, fun r _ _ => Nat.zero_le r.val⟩

theorem step_idle {s : State} (h : s.pending = []) : step s = .next s.alone := by simp [step, h]

theorem witness_StepRunsFrontCommand : ({ hub with pending := [.tick, .stretchLimit] } : State).pending =
    .tick :: [.stretchLimit] := rfl

theorem witness_IdleStepLetsTimePass :
    (hub.pending = [] ∧ hub.inReset = none ∧ (∀ p, (hub.port p).request = none) ∧ (hub.openFields .hp0).isSome = true) ∧
    (offer9.pending = [] ∧ offer9.offers ≠ []) ∧
    ((waiting hub 1 .hp0 1).pending = [] ∧ (waiting hub 1 .hp0 1).waitList ≠ []) ∧
    ((asking hub .ping .hp1 []).pending = [] ∧
      (asking hub .ping .hp1 []).taking .hp1 = some (frameOf hub .ping .hp1 [])) ∧
    ((pendingAt hub .hp0 ⟨0x30, 0x77, 7, []⟩).taking .hp0 = some ⟨0x30, 0x77, 7, []⟩ ∧
      ∀ rq, (0x77 : Byte) ≠ requestCode rq) ∧
    (({ hub with inReset := some .pin } : State).pending = [] ∧ ({ hub with inReset := some .pin } : State).inReset ≠ none) :=
  ⟨⟨rfl, rfl, by intro p; cases p <;> rfl, rfl⟩, ⟨rfl, by decide +kernel⟩, ⟨rfl, by decide +kernel⟩,
    ⟨rfl, taking_pendingAt _ _ _ rfl⟩, ⟨taking_pendingAt _ _ _ rfl, by intro rq; cases rq <;> decide⟩, rfl, by decide⟩

theorem witness_CommandsThatDoNothing :
    (({ hub with inReset := some .pin } : State).inReset ≠ none ∧ (∀ ev, Instr.tick ≠ .reset ev) ∧
      ∀ pins, Instr.tick ≠ .resetEnd pins) ∧
    ∀ f, (asking hub .ping .hp0 []).taking .hp0 = some f → f.code ≠ requestCode .claim := by
  refine ⟨⟨by decide, by simp, by simp⟩, fun f h => ?_⟩
  rw [asking, taking_pendingAt _ _ _ rfl] at h
  cases h
  decide

theorem witness_ArbiterTakesInTurn : (asking hub .ping .hp2 []).inReset = none ∧
    ∃ p, ((asking hub .ping .hp2 []).port p).request ≠ none := ⟨rfl, .hp2, by decide +kernel⟩

theorem witness_SessionCheckAndPing :
    (Ready (asking State.reset .ping .hp0 []) .ping .hp0 (frameOf State.reset .ping .hp0 []) ∧
      RefusedBySession (asking State.reset .ping .hp0 []) .hp0 (frameOf State.reset .ping .hp0 []) .noSession) ∧
    RefusedBySession (asking (after (.lapse .hp0) hub) .ping .hp0 []) .hp0 (frameOf hub .ping .hp0 []) .staleSession ∧
    RefusedBySession hub .hp0 (frameOf hub .ping .hp1 []) .staleSession ∧
    Ready (asking hub .ping .hp0 []) .ping .hp0 (frameOf hub .ping .hp0 []) ∧
    Passes (asking hub .ping .hp0 []) .hp0 (frameOf hub .ping .hp0 []) :=
  ⟨⟨ready_asking rfl rfl, .inl ⟨rfl, rfl⟩⟩, .inr (.inl ⟨by decide +kernel, rfl⟩),
    .inr (.inr ⟨rfl, by decide +kernel, rfl⟩), ready_asking rfl rfl, passes_asking rfl⟩

theorem witness_MalformedRequestsRefused :
    ((asking hub .ping .hp0 [0]).taking .hp0 = some (frameOf hub .ping .hp0 [0]) ∧
      (frameOf hub .ping .hp0 [0]).payload.length ≠ requestLength .ping) ∧
    (pendingAt hub .hp0 ⟨0xF0, 0x04, 7, []⟩).taking .hp0 = some ⟨0xF0, 0x04, 7, []⟩ ∧
    ((pendingAt hub .hp0 ⟨0x30, 0x77, 7, []⟩).taking .hp0 = some ⟨0x30, 0x77, 7, []⟩ ∧
      ∀ rq, (0x77 : Byte) ≠ requestCode rq) ∧
    (Ready (asking hub .setDirection .hp0 [0x11, 0, 0, 0, 0, 0, 0, 0, 0]) .setDirection .hp0
        (frameOf hub .setDirection .hp0 [0x11, 0, 0, 0, 0, 0, 0, 0, 0]) ∧
      Passes (asking hub .setDirection .hp0 [0x11, 0, 0, 0, 0, 0, 0, 0, 0]) .hp0
        (frameOf hub .setDirection .hp0 [0x11, 0, 0, 0, 0, 0, 0, 0, 0]) ∧
      2 ^ 36 ≤ fieldAt [0x11, 0, 0, 0, 0, 0, 0, 0, 0] 0 5) ∧
    (Ready (asking hub .status .hp0 [2]) .status .hp0 (frameOf hub .status .hp0 [2]) ∧ flagByte .status = some (0, 1) ∧
      2 ^ 1 ≤ (byteAt [2] 0).toNat) ∧
    (Ready (asking hub .claim .hp0 [0, 0, 0, 0, 1, 4, 0, 0]) .claim .hp0 (frameOf hub .claim .hp0 [0, 0, 0, 0, 1, 4, 0, 0]) ∧
      Passes (asking hub .claim .hp0 [0, 0, 0, 0, 1, 4, 0, 0]) .hp0 (frameOf hub .claim .hp0 [0, 0, 0, 0, 1, 4, 0, 0]) ∧
      flagByte .claim = some (5, 2) ∧ 2 ^ 2 ≤ (byteAt [0, 0, 0, 0, 1, 4, 0, 0] 5).toNat) :=
  ⟨⟨taking_pendingAt _ _ _ rfl, by decide⟩, taking_pendingAt _ _ _ rfl,
    ⟨taking_pendingAt _ _ _ rfl, by intro rq; cases rq <;> decide⟩,
    ⟨ready_asking rfl rfl, passes_asking rfl, by decide⟩, ⟨ready_asking rfl rfl, rfl, by decide⟩,
    ready_asking rfl rfl, passes_asking rfl, rfl, by decide⟩

theorem witness_StatusReported :
    Ready (asking hub .status .hp2 [1]) .status .hp2 (frameOf hub .status .hp2 [1]) ∧
    (frameOf hub .status .hp2 [1]).payload = [boolCode true] ∧ [0] = [boolCode false] :=
  ⟨ready_asking rfl rfl, rfl, rfl⟩

theorem journalWf_nil {s : State} (h : s.journal = []) : JournalWf s := by simp [JournalWf, h]

theorem witness_SessionOpened :
    (Ready (asking State.reset .openSession .hp0 [0, 10, 128, 1]) .openSession .hp0
        (frameOf State.reset .openSession .hp0 [0, 10, 128, 1]) ∧
      fieldAt [0, 10, 128, 1] 0 2 = 10 ∧ fieldAt [0, 10, 128, 1] 2 1 = 128 ∧
      (asking State.reset .openSession .hp0 [0, 10, 128, 1]).isOpen .hp0 = false ∧
      JournalWf (asking State.reset .openSession .hp0 [0, 10, 128, 1])) ∧
    (Ready (asking hub .openSession .hp0 [0xEA, 0x61, 1, 0]) .openSession .hp0
        (frameOf hub .openSession .hp0 [0xEA, 0x61, 1, 0]) ∧ fieldAt [0xEA, 0x61, 1, 0] 0 2 = 60001) ∧
    (Ready (asking hub .openSession .hp0 [0xEA, 0x60, 1, 0]) .openSession .hp0
        (frameOf hub .openSession .hp0 [0xEA, 0x60, 1, 0]) ∧ fieldAt [0xEA, 0x60, 1, 0] 0 2 = 60000 ∧
      (asking hub .openSession .hp0 [0xEA, 0x60, 1, 0]).isOpen .hp0 = true ∧ byteAt [0xEA, 0x60, 1, 0] 3 = 0) :=
  ⟨⟨ready_asking rfl rfl, by decide, by decide, rfl, journalWf_nil rfl⟩, ⟨ready_asking rfl rfl, by decide⟩,
    ready_asking rfl rfl, by decide, rfl, rfl⟩

theorem witness_SessionReplaced :
    let s := asking offer9 .openSession .hp0 [0xEA, 0x60, 1, 1]
    Ready s .openSession .hp0 (frameOf offer9 .openSession .hp0 [0xEA, 0x60, 1, 1]) ∧ OffersWf s ∧ s.isOpen .hp0 = true ∧
      fieldAt [0xEA, 0x60, 1, 1] 0 2 = 60000 ∧ fieldAt [0xEA, 0x60, 1, 1] 2 1 = 1 ∧ byteAt [0xEA, 0x60, 1, 1] 3 = 1 ∧
      (∀ e, NoEndDue s e) ∧
      (after (.openSession .hp0) s).waitList = s.waitList.filter (fun w => decide (w.port ≠ .hp0)) ∧ s.heldSet .hp0 ≠ 0 :=
  ⟨ready_asking rfl rfl, offersWf_of_agree (by decide +kernel), rfl, by decide, by decide, rfl,
    no_end_due (by decide +kernel), by decide +kernel, by decide +kernel⟩

theorem witness_SessionEnds :
    (offer9.inReset = none ∧ offer9.isOpen .hp0 = true ∧ OffersWf offer9 ∧ (∀ e, NoEndDue offer9 e) ∧ offer9.waitList = [] ∧
      offer9.holds .hp0 12 = true ∧ offer9.isOpen .hp1 = true ∧ JournalWf offer9) ∧
    let s := asking offer9 .closeSession .hp1 []
    Ready s .closeSession .hp1 (frameOf offer9 .closeSession .hp1 []) ∧
      Passes s .hp1 (frameOf offer9 .closeSession .hp1 []) ∧ OffersWf s ∧ (∀ e, NoEndDue s e) ∧
      (after (.closeSession .hp1) s).waitList = s.waitList.filter (fun w => decide (w.port ≠ .hp1)) :=
  ⟨⟨rfl, rfl, offersWf_of_agree (by decide +kernel), no_end_due (by decide +kernel), rfl, by decide +kernel, rfl,
      journalWf_nil rfl⟩,
    ready_asking rfl rfl, passes_asking rfl, offersWf_of_agree (by decide +kernel), no_end_due (by decide +kernel),
    by decide +kernel⟩

theorem witness_LeasesAndLinesRead :
    (Ready (asking offer9 .leases .hp2 []) .leases .hp2 (frameOf offer9 .leases .hp2 []) ∧
      Passes (asking offer9 .leases .hp2 []) .hp2 (frameOf offer9 .leases .hp2 []) ∧
      OffersWf (asking offer9 .leases .hp2 []) ∧ ((asking offer9 .leases .hp2 []).entry 12).state = .offered .hp0 9) ∧
    Ready (asking hub .readLines .hp0 []) .readLines .hp0 (frameOf hub .readLines .hp0 []) ∧
      Passes (asking hub .readLines .hp0 []) .hp0 (frameOf hub .readLines .hp0 []) :=
  ⟨⟨ready_asking rfl rfl, passes_asking rfl, offersWf_of_agree (by decide +kernel), by decide +kernel⟩,
    ready_asking rfl rfl, passes_asking rfl⟩

theorem witness_ClaimGranted :
    let s := asking hub .claim .hp0 [8, 0, 0, 0, 1, 2, 0xEA, 0x60]
    Ready s .claim .hp0 (frameOf hub .claim .hp0 [8, 0, 0, 0, 1, 2, 0xEA, 0x60]) ∧
      Passes s .hp0 (frameOf hub .claim .hp0 [8, 0, 0, 0, 1, 2, 0xEA, 0x60]) ∧
      (0x800000001 : ResourceSet).toNat = fieldAt [8, 0, 0, 0, 1, 2, 0xEA, 0x60] 0 5 ∧ (0x800000001 : ResourceSet) ≠ 0 ∧
      (2 : Byte).toNat < 4 ∧ fieldAt [8, 0, 0, 0, 1, 2, 0xEA, 0x60] 6 2 = 60000 ∧
      (∀ r, inSet 0x800000001 r = true → Available s .hp0 false r) ∧ WaitWf s ∧
      (after (.claim .hp0) s).waitList = s.waitList :=
  ⟨ready_asking rfl rfl, passes_asking rfl, by decide, by decide, by decide, by decide,
    fun r _ => .inl (by revert r; decide +kernel), waitWf_nil rfl, by decide +kernel⟩

theorem unavailable {s : State} {p q : Port} {adopt : Bool} {r : Resource} (h : (s.entry r).state = .held q) (n : p ≠ q) :
    ¬Available s p adopt r := by
  rintro (k | k | ⟨_, o, k⟩)
  · rw [h] at k; cases k
  · simp only [State.holds, State.holderOf, h, LeaseState.holder, decide_eq_true_eq, Option.some.injEq] at k
    exact n k.symm
  · rw [h] at k; cases k

theorem witness_ClaimNotGranted :
    let s := holding hub .hp1 1
    (Ready (asking s .claim .hp0 [0x10, 0, 0, 0, 0, 0, 0, 0]) .claim .hp0 (frameOf s .claim .hp0 [0x10, 0, 0, 0, 0, 0, 0, 0]) ∧
      Passes (asking s .claim .hp0 [0x10, 0, 0, 0, 0, 0, 0, 0]) .hp0 (frameOf s .claim .hp0 [0x10, 0, 0, 0, 0, 0, 0, 0]) ∧
      2 ^ 36 ≤ fieldAt [0x10, 0, 0, 0, 0, 0, 0, 0] 0 5) ∧
    fieldAt [0, 0, 0, 0, 1, 2, 0xEA, 0x61] 6 2 = 60001 ∧
    (Ready (asking s .claim .hp0 [0, 0, 0, 0, 1, 0, 0, 0]) .claim .hp0 (frameOf s .claim .hp0 [0, 0, 0, 0, 1, 0, 0, 0]) ∧
      LowestWith 1 (fun k => ¬Available (asking s .claim .hp0 [0, 0, 0, 0, 1, 0, 0, 0]) .hp0 false k) 0 ∧
      OffersWf (asking s .claim .hp0 [0, 0, 0, 0, 1, 0, 0, 0])) ∧
    (Ready (asking s .claim .hp0 [0, 0, 0, 0, 1, 2, 0, 1]) .claim .hp0 (frameOf s .claim .hp0 [0, 0, 0, 0, 1, 2, 0, 1]) ∧
      LowestWith 1 (fun k => ¬Available (asking s .claim .hp0 [0, 0, 0, 0, 1, 2, 0, 1]) .hp0 false k) 0 ∧
      WaitWf (asking s .claim .hp0 [0, 0, 0, 0, 1, 2, 0, 1]) ∧
      ∀ w ∈ (asking s .claim .hp0 [0, 0, 0, 0, 1, 2, 0, 1]).waitList, w.port ≠ .hp0) ∧
    ∃ w ∈ (asking (waiting s 5 .hp0 1) .claim .hp0 [0, 0, 0, 0, 1, 2, 0, 1]).waitList, w.port = .hp0 :=
  ⟨⟨ready_asking rfl rfl, passes_asking rfl, by decide⟩, by decide,
    ⟨ready_asking rfl rfl, lowest_zero (by decide) (unavailable (q := .hp1) (by decide +kernel) (by decide)),
      offersWf_of_agree (by decide +kernel)⟩,
    ⟨ready_asking rfl rfl, lowest_zero (by decide) (unavailable (q := .hp1) (by decide +kernel) (by decide)),
      waitWf_nil rfl, by decide +kernel⟩, by decide +kernel⟩

theorem witness_Released :
    let s := asking (te3 1000 (.timed .high 1030) 1) .release .hp2 [8, 0, 0, 0, 0]
    Ready s .release .hp2 (frameOf (te3 1000 (.timed .high 1030) 1) .release .hp2 [8, 0, 0, 0, 0]) ∧
      Passes s .hp2 (frameOf (te3 1000 (.timed .high 1030) 1) .release .hp2 [8, 0, 0, 0, 0]) ∧
      (engineSet 3).toNat = fieldAt [8, 0, 0, 0, 0] 0 5 ∧ engineSet 3 ≠ 0 ∧
      (∀ r, inSet (engineSet 3) r = true → (s.entry r).state = .held .hp2) ∧ (∀ e, NoEndDue s e) ∧ WaitWf s ∧
      (after (.release .hp2) s).waitList = s.waitList ∧ (s.engine 3).state ≠ .idle ∧ (s.engine 3).config = some train :=
  ⟨ready_asking rfl rfl, passes_asking rfl, by decide +kernel, by decide +kernel, by decide +kernel,
    no_end_due (by decide +kernel), waitWf_nil rfl, by decide +kernel, by decide +kernel, by decide +kernel⟩

theorem witness_ReleaseRefused :
    let s := asking (holding hub .hp1 1) .release .hp0 [0, 0, 0, 0, 1]
    Ready s .release .hp0 (frameOf (holding hub .hp1 1) .release .hp0 [0, 0, 0, 0, 1]) ∧
      Passes s .hp0 (frameOf (holding hub .hp1 1) .release .hp0 [0, 0, 0, 0, 1]) ∧
      (1 : ResourceSet).toNat = fieldAt [0, 0, 0, 0, 1] 0 5 ∧ LowestWith 1 (fun k => (s.entry k).state ≠ .held .hp0) 0 ∧
      fieldAt [0, 0, 0, 0, 0] 0 5 = 0 ∧ fieldAt [0x10, 0, 0, 0, 0] 0 5 = 2 ^ 36 :=
  ⟨ready_asking rfl rfl, passes_asking rfl, by decide, lowest_zero (by decide) (by decide +kernel), by decide, by decide⟩

theorem witness_FailsafeSet :
    let float := [8, 0, 0, 0, 0, 0x80, 0, 0, 0, 0, 0, 0, 0, 0]
    let high := [0, 0, 0, 0, 1, 0, 0, 0, 0, 0, 0, 0, 0, 1]
    (Ready (asking hub .setFailsafe .hp0 float) .setFailsafe .hp0 (frameOf hub .setFailsafe .hp0 float) ∧
      Passes (asking hub .setFailsafe .hp0 float) .hp0 (frameOf hub .setFailsafe .hp0 float) ∧
      ∃ r : Resource, (fieldAt float 0 5).testBit r.val = true ∧ 32 ≤ r.val ∧ fieldAt float 5 9 / 4 ^ r.val % 4 = 2) ∧
    (Ready (asking hub .setFailsafe .hp0 high) .setFailsafe .hp0 (frameOf hub .setFailsafe .hp0 high) ∧
      (1 : ResourceSet).toNat = fieldAt high 0 5 ∧
      (∀ r : Resource, inSet 1 r = true →
        fieldAt high 5 9 / 4 ^ r.val % 4 ≠ 3 ∧ (32 ≤ r.val → fieldAt high 5 9 / 4 ^ r.val % 4 ≠ 2)) ∧
      LowestWith 1 (fun k => (asking hub .setFailsafe .hp0 high).holds .hp0 k = false) 0) ∧
    ∀ r, inSet 1 r = true → (asking (holding hub .hp0 1) .setFailsafe .hp0 high).holds .hp0 r = true :=
  ⟨⟨ready_asking rfl rfl, passes_asking rfl, 35, by decide +kernel⟩,
    ⟨ready_asking rfl rfl, by decide, by decide +kernel, lowest_zero (by decide) (by decide +kernel)⟩, by decide +kernel⟩

theorem witness_QueuedClaimEnds :
    let s := waiting (holding hub .hp0 8) 255 .hp2 0x18
    (s.inReset = none ∧ (s.ticketEntry 255).isSome = true) ∧
    (Ready (asking s .cancelClaim .hp2 [255]) .cancelClaim .hp2 (frameOf s .cancelClaim .hp2 [255]) ∧
      Passes (asking s .cancelClaim .hp2 [255]) .hp2 (frameOf s .cancelClaim .hp2 [255]) ∧
      ((asking s .cancelClaim .hp2 [255]).waitList.map WaitEntry.ticket).Nodup ∧
      ∃ w ∈ (asking s .cancelClaim .hp2 [255]).waitList, w.ticket = 255 ∧ w.port = .hp2) ∧
    Ready (asking s .cancelClaim .hp2 [0]) .cancelClaim .hp2 (frameOf s .cancelClaim .hp2 [0]) ∧
    ∀ w ∈ (asking s .cancelClaim .hp1 [255]).waitList, w.ticket = 255 → w.port ≠ .hp1 :=
  ⟨⟨rfl, by decide +kernel⟩, ⟨ready_asking rfl rfl, passes_asking rfl, by decide +kernel, by decide +kernel⟩,
    ready_asking rfl rfl, by decide +kernel⟩

theorem witness_WaitListExamined :
    Blocked hub ∧
    let s := waiting (waiting (waiting (holding hub .hp0 8) 1 .hp1 8) 2 .hp2 3) 3 .hp0 1
    (s.waitList.map WaitEntry.port).Nodup ∧ (s.waitList.map WaitEntry.ticket).Nodup ∧
      ∃ before w younger, s.waitList = before ++ w :: younger ∧ before ≠ [] ∧ younger ≠ [] ∧
        (∀ v ∈ before, ∃ r, inSet v.set r = true ∧ ¬Available s v.port v.adopt r) ∧
        ∀ r, inSet w.set r = true → Available s w.port w.adopt r := by
  refine ⟨blocked_nil rfl, by decide +kernel, by decide +kernel, [⟨1, .hp1, 8, false, 200⟩], ⟨2, .hp2, 3, false, 200⟩,
    [⟨3, .hp0, 1, false, 200⟩], rfl, by simp, by simp, fun v hv => ?_, fun r _ => .inl (by revert r; decide +kernel)⟩
  rw [List.mem_singleton] at hv
  subst hv
  exact ⟨3, by decide +kernel, unavailable (q := .hp0) (by decide +kernel) (by decide)⟩

theorem witness_OfferMade :
    let s := asking (holding hub .hp0 1) .offer .hp0 [0, 0, 0, 0, 1, 2, 0x27, 0x10]
    Ready s .offer .hp0 (frameOf (holding hub .hp0 1) .offer .hp0 [0, 0, 0, 0, 1, 2, 0x27, 0x10]) ∧
      Passes s .hp0 (frameOf (holding hub .hp0 1) .offer .hp0 [0, 0, 0, 0, 1, 2, 0x27, 0x10]) ∧
      (1 : ResourceSet).toNat = fieldAt [0, 0, 0, 0, 1, 2, 0x27, 0x10] 0 5 ∧
      fieldAt [0, 0, 0, 0, 1, 2, 0x27, 0x10] 5 1 = (portCode .hp2).toNat ∧
      fieldAt [0, 0, 0, 0, 1, 2, 0x27, 0x10] 6 2 = 10000 ∧ s.isOpen .hp2 = true ∧
      (∀ r, inSet 1 r = true → (s.entry r).state = .held .hp0) ∧ s.offers.length < 4 ∧ Blocked s ∧ ∀ e, NoEndDue s e :=
  ⟨ready_asking rfl rfl, passes_asking rfl, by decide, by decide, by decide, rfl, by decide +kernel, by decide,
    blocked_nil rfl, no_end_due (by decide +kernel)⟩

theorem witness_OfferRefused :
    let bad := [0, 0, 0, 0, 1, 1, 0x27, 0x11]
    let good := [0, 0, 0, 0, 1, 1, 0, 1]
    let full := (holding hub .hp0 1).withOffers ((List.range 4).map fun i =>
      { id := BitVec.ofNat 8 (i + 1), offerer := .hp2, target := .hp1, set := 2, remaining := 1 })
    (Ready (asking hub .offer .hp0 bad) .offer .hp0 (frameOf hub .offer .hp0 bad) ∧
      Passes (asking hub .offer .hp0 bad) .hp0 (frameOf hub .offer .hp0 bad) ∧ 10000 < fieldAt bad 6 2) ∧
    (Ready (asking hub .offer .hp0 good) .offer .hp0 (frameOf hub .offer .hp0 good) ∧
      (1 : ResourceSet).toNat = fieldAt good 0 5 ∧ fieldAt good 6 2 = 1 ∧ fieldAt good 5 1 = (portCode .hp1).toNat ∧
      (asking hub .offer .hp0 good).isOpen .hp1 = true ∧
      LowestWith 1 (fun k => (asking hub .offer .hp0 good).holds .hp0 k = false) 0) ∧
    (asking (after (.lapse .hp1) hub) .offer .hp0 good).isOpen .hp1 = false ∧
    (let s := asking (offering hub 9 .hp0 .hp2 1) .offer .hp0 good;
      (∀ r, inSet 1 r = true → s.holds .hp0 r = true) ∧ LowestWith 1 (fun k => (s.entry k).state ≠ .held .hp0) 0) ∧
    (∀ r, inSet 1 r = true → ((asking full .offer .hp0 good).entry r).state = .held .hp0) ∧
    4 ≤ (asking full .offer .hp0 good).offers.length :=
  ⟨⟨ready_asking rfl rfl, passes_asking rfl, by decide⟩,
    ⟨ready_asking rfl rfl, by decide, by decide, by decide, rfl, lowest_zero (by decide) (by decide +kernel)⟩,
    by decide +kernel, ⟨by decide +kernel, lowest_zero (by decide) (by decide +kernel)⟩, by decide +kernel,
    by decide +kernel⟩

theorem pinsExact_of {s : State}
    (h : (∀ l, (s.line l).drive = if s.inReset.isNone then s.effectiveDrive l else .float) ∧
      ∀ e, (s.engine e).out = if s.inReset.isNone then s.engineDrive e else .low) : PinsExact s := h

theorem witness_OfferAccepted :
    let s := asking offer9 .accept .hp1 [9]
    Ready s .accept .hp1 (frameOf offer9 .accept .hp1 [9]) ∧ Passes s .hp1 (frameOf offer9 .accept .hp1 [9]) ∧ OffersWf s ∧
      (∀ e, NoEndDue s e) ∧ (9 : Byte) ≠ 0 ∧ (∃ o, s.offer 9 = some o ∧ o.target = .hp1) ∧ PinsExact s ∧
      WaitWf s ∧ (after (.accept .hp1) s).waitList = s.waitList :=
  ⟨ready_asking rfl rfl, passes_asking rfl, offersWf_of_agree (by decide +kernel), no_end_due (by decide +kernel),
    by decide, ⟨_, rfl, rfl⟩, pinsExact_of (by decide +kernel), waitWf_nil rfl, by decide +kernel⟩

theorem witness_OfferReturned :
    (OffersWf offer9 ∧ Blocked offer9 ∧ (∀ e, NoEndDue offer9 e) ∧ offer9.inReset = none ∧ ∃ o, offer9.offer 9 = some o) ∧
    (Ready (asking offer9 .decline .hp1 [9]) .decline .hp1 (frameOf offer9 .decline .hp1 [9]) ∧
      Passes (asking offer9 .decline .hp1 [9]) .hp1 (frameOf offer9 .decline .hp1 [9]) ∧
      OffersWf (asking offer9 .decline .hp1 [9]) ∧ Blocked (asking offer9 .decline .hp1 [9]) ∧
      (∀ e, NoEndDue (asking offer9 .decline .hp1 [9]) e) ∧
      ∃ o, (asking offer9 .decline .hp1 [9]).offer 9 = some o ∧ o.target = .hp1) ∧
    (Ready (asking offer9 .withdraw .hp0 [9]) .withdraw .hp0 (frameOf offer9 .withdraw .hp0 [9]) ∧
      Passes (asking offer9 .withdraw .hp0 [9]) .hp0 (frameOf offer9 .withdraw .hp0 [9]) ∧
      OffersWf (asking offer9 .withdraw .hp0 [9]) ∧ Blocked (asking offer9 .withdraw .hp0 [9]) ∧
      (∀ e, NoEndDue (asking offer9 .withdraw .hp0 [9]) e) ∧
      ∃ o, (asking offer9 .withdraw .hp0 [9]).offer 9 = some o ∧ o.offerer = .hp0) :=
  ⟨⟨offersWf_of_agree (by decide +kernel), blocked_nil rfl, no_end_due (by decide +kernel), rfl, _, rfl⟩,
    ⟨ready_asking rfl rfl, passes_asking rfl, offersWf_of_agree (by decide +kernel), blocked_nil rfl,
      no_end_due (by decide +kernel), _, rfl, rfl⟩,
    ready_asking rfl rfl, passes_asking rfl, offersWf_of_agree (by decide +kernel), blocked_nil rfl,
    no_end_due (by decide +kernel), _, rfl, rfl⟩

theorem witness_OfferLookedUp :
    (Ready (asking offer9 .accept .hp1 [0]) .accept .hp1 (frameOf offer9 .accept .hp1 [0]) ∧
      Passes (asking offer9 .accept .hp1 [0]) .hp1 (frameOf offer9 .accept .hp1 [0])) ∧
    (Ready (asking offer9 .accept .hp2 [9]) .accept .hp2 (frameOf offer9 .accept .hp2 [9]) ∧
      ∀ o ∈ (asking offer9 .accept .hp2 [9]).offers, o.id = 9 → o.target ≠ .hp2) ∧
    (Ready (asking offer9 .withdraw .hp0 [9]) .withdraw .hp0 (frameOf offer9 .withdraw .hp0 [9]) ∧
      ∃ o, (asking offer9 .withdraw .hp0 [9]).offer 9 = some o ∧ o.offerer = .hp0) :=
  ⟨⟨ready_asking rfl rfl, passes_asking rfl⟩, ⟨ready_asking rfl rfl, by decide +kernel⟩, ready_asking rfl rfl, _, rfl, rfl⟩

theorem witness_DirectionSet :
    let none_ := [0, 0, 0, 0, 0, 0, 0, 0, 0]
    let engine := [1, 0, 0, 0, 0, 0, 0, 0, 0]
    let one := [0, 0, 0, 0, 1, 0, 0, 0, 1]
    (Ready (asking hub .setDirection .hp0 none_) .setDirection .hp0 (frameOf hub .setDirection .hp0 none_) ∧
      Passes (asking hub .setDirection .hp0 none_) .hp0 (frameOf hub .setDirection .hp0 none_) ∧ fieldAt none_ 0 5 = 0) ∧
    ((0x100000000 : ResourceSet).toNat = fieldAt engine 0 5 ∧ LowestWith 0x100000000 (fun k => 32 ≤ k.val) 32) ∧
    (Ready (asking hub .setDirection .hp0 one) .setDirection .hp0 (frameOf hub .setDirection .hp0 one) ∧
      (1 : ResourceSet).toNat = fieldAt one 0 5 ∧ (∀ r : Resource, inSet 1 r = true → r.val < 32) ∧
      LowestWith 1 (fun k => (asking hub .setDirection .hp0 one).holds .hp0 k = false) 0) ∧
    ∀ r, inSet 1 r = true → (asking (holding hub .hp0 1) .setDirection .hp0 one).holds .hp0 r = true :=
  ⟨⟨ready_asking rfl rfl, passes_asking rfl, by decide⟩, ⟨by decide, by unfold LowestWith; decide +kernel⟩,
    ⟨ready_asking rfl rfl, by decide, by decide +kernel, lowest_zero (by decide) (by decide +kernel)⟩, by decide +kernel⟩

theorem witness_LinesWritten :
    let none_ := [0, 0, 0, 0, 0, 0, 0, 1]
    let one := [0x80, 0, 0, 0, 0, 0, 0, 0]
    (Ready (asking hub .writeLines .hp0 none_) .writeLines .hp0 (frameOf hub .writeLines .hp0 none_) ∧
      Passes (asking hub .writeLines .hp0 none_) .hp0 (frameOf hub .writeLines .hp0 none_) ∧ fieldAt none_ 0 4 = 0) ∧
    (Ready (asking hub .writeLines .hp0 one) .writeLines .hp0 (frameOf hub .writeLines .hp0 one) ∧
      (fieldAt one 0 4).testBit 31 = true ∧ (asking hub .writeLines .hp0 one).holds .hp0 (lineResource 31) = false ∧
      ∀ k : Line, (fieldAt one 0 4).testBit k.val = true →
        (asking hub .writeLines .hp0 one).holds .hp0 (lineResource k) = false → 31 ≤ k) ∧
    ∀ l : Line, (fieldAt one 0 4).testBit l.val = true →
      (asking (holding hub .hp0 0x80000000) .writeLines .hp0 one).holds .hp0 (lineResource l) = true :=
  ⟨⟨ready_asking rfl rfl, passes_asking rfl, by decide⟩,
    ⟨ready_asking rfl rfl, by decide +kernel, by decide +kernel, by decide +kernel⟩, by decide +kernel⟩

theorem witness_DriveDecided :
    ((hub.entry (lineResource 0)).state = .free ∧ (hub.entry (lineResource 0)).failsafe = .float) ∧
    ((table17.entry (lineResource 5)).state = .orphaned .hp1 ∧ (table17.entry (lineResource 5)).failsafe = .driveHigh) ∧
    (({ table17 with force := { asserted := true, run := 0 } } : State).force.asserted = true ∧
      (table17.entry (lineResource 4)).failsafe = .driveLow) ∧
    (table17.force.asserted = false ∧ (table17.entry (lineResource 4)).state = .held .hp0 ∧
      (table17.line 4).direction = .input) ∧
    (((line7 .low 0 .watching .low).line 7).direction = .output ∧ ((line7 .low 0 .watching .low).line 7).commanded = .low ∧
      ((line7 .low 0 .watching .low).entry (lineResource 7)).state = .held .hp0) ∧
    ((line7 .high 0 .watching .high).line 7).commanded = .high := by decide +kernel

theorem witness_LinesSampled : hub.inReset = none := rfl

theorem witness_LineEdgeHandedOn :
    let s := line7 .high 2 .watching .high
    let measured := (te1 5300 (measuring .measureWidth) (.measuring 5250 5400)).withLines fun l c =>
      if l = 3 ∨ l = 7 then { c with run := 2, monitor := if l = 7 then .settling 1 else .idle, drive := .low } else c
    (s.inReset = none ∧ sampledLevel s 0 7 ≠ (s.line 7).filtered ∧ (∀ e, (s.engine e).config = none) ∧
      (s.line 7).monitor = .watching ∧ driveLevel (s.line 7).drive = some .high) ∧
    (measured.inReset = none ∧ sampledLevel measured 0x88 3 ≠ (measured.line 3).filtered ∧
      sampledLevel measured 0x88 7 ≠ (measured.line 7).filtered ∧ measured.endDue 1 = false ∧
      (∀ e, e ≠ 1 → (measured.engine e).config = none) ∧
      (measured.engine 1).config = some (measuring .measureWidth) ∧ (measuring .measureWidth).input = some 3 ∧
      (measuring .measureWidth).gate = none ∧ (measured.line 7).monitor = .settling 1 ∧
      ((List.finRange 32).flatMap (sampleRecords measured 0x88)).map Prod.snd =
        [.lineEdge 3 .high, .engineResult 1 .measureWidth .done 50 0, .lineEdge 7 .high, .lineFault 7 .low .high]) := by
  decide +kernel

theorem witness_MonitorSettles :
    let agreed := line7 .high 0 (.settling 1) .high
    let differed := line7 .low 0 (.settling 0) .high
    (agreed.inReset = none ∧ (agreed.line 7).monitor = .settling 1 ∧ driveLevel (agreed.line 7).drive = some .high ∧
      (agreed.line 7).filtered = .high) ∧
    (differed.line 7).monitor = .settling 0 ∧ (differed.line 7).filtered = .low := by decide +kernel

theorem witness_ForceAsserted :
    let s := (engaged (te3 1000 (.timed .high 1030) 1) 1 pulse (.armed none))
    (s.inReset = none ∧ s.force.asserted = false ∧ (∀ e, s.endDue e = false) ∧
      (forcedResults s).map Prod.snd =
        [.engineResult 1 .delayedPulse .forced 0 0, .engineResult 3 .pulseTrain .forced 1 0]) ∧
    (∀ e, (hub.engine e).state = .idle) ∧ ({ hub with force := { asserted := false, run := 2 } } : State).force.run = 2 := by
  decide +kernel

theorem witness_ForceReleasedAndSampled :
    let s : State := { hub with force := { asserted := true, run := 2 } }
    (s.inReset = none ∧ s.force.asserted = true ∧ s.force.run = 2) ∧
    (hub.force.run ≤ 2 ∧ (hub.force.asserted = true ↔ Level.high = .low)) ∧
    (¬(hub.force.asserted = true ↔ Level.low = .low) ∧ hub.force.run < 2) ∧ hub.force.asserted = false := by decide +kernel

/-- The payload that carries the configuration of section 6.14. -/
def pulsePayload : List Byte := [1, 2, 0, 0, 200, 0, 0, 50, 0, 0, 3, 0, 0xFF, 0, 1, 1]

theorem pulse_carried : CarriesConfig pulsePayload pulse ∧ GoodConfig pulse := by
  unfold CarriesConfig GoodConfig
  decide +kernel

theorem witness_EngineConfigured :
    let unknown := [1, 0, 0, 0, 200, 0, 0, 50, 0, 0, 3, 0, 0xFF, 0, 1, 1]
    (Ready (asking hub .configureEngine .hp0 unknown) .configureEngine .hp0 (frameOf hub .configureEngine .hp0 unknown) ∧
      Passes (asking hub .configureEngine .hp0 unknown) .hp0 (frameOf hub .configureEngine .hp0 unknown) ∧
      ¬∃ c, CarriesConfig unknown c ∧ GoodConfig c) ∧
    (fieldAt pulsePayload 0 1 = (1 : EngineNo).val ∧ CarriesConfig pulsePayload pulse ∧ GoodConfig pulse ∧
      Ready (asking hub .configureEngine .hp0 pulsePayload) .configureEngine .hp0
        (frameOf hub .configureEngine .hp0 pulsePayload) ∧
      (asking hub .configureEngine .hp0 pulsePayload).holds .hp0 (engineResource 1) = false) ∧
    (let s := asking (te1 5000 pulse (.armed none)) .configureEngine .hp0 pulsePayload;
      s.holds .hp0 (engineResource 1) = true ∧ NoEndDue s 1 ∧ (s.engine 1).state ≠ .idle) ∧
    ((asking (te1 5000 pulse .idle) .configureEngine .hp0 pulsePayload).engine 1).state = .idle :=
  ⟨⟨ready_asking rfl rfl, passes_asking rfl, by
      rintro ⟨c, h, _⟩
      have k := h.1
      revert k
      cases c.mode <;> decide⟩,
    ⟨by decide, pulse_carried.1, pulse_carried.2, ready_asking rfl rfl, by decide +kernel⟩,
    ⟨by decide +kernel, by unfold NoEndDue; decide +kernel, by decide +kernel⟩, by decide +kernel⟩

/-- The configuration of section 6.14 with trigger COMMAND. -/
def commanded : EngineConfig := { pulse with input := none, trigger := .command }

theorem witness_EngineStarted :
    (Ready (asking hub .startEngine .hp0 [4]) .startEngine .hp0 (frameOf hub .startEngine .hp0 [4]) ∧
      Passes (asking hub .startEngine .hp0 [4]) .hp0 (frameOf hub .startEngine .hp0 [4]) ∧ 4 ≤ fieldAt [4] 0 1) ∧
    ((asking hub .startEngine .hp0 [3]).holds .hp0 (engineResource 3) = false ∧ fieldAt [3] 0 1 = 3) ∧
    (let s := asking { te1 0 pulse .idle with force := { asserted := true, run := 0 } } .startEngine .hp0 [1];
      s.holds .hp0 (engineResource 1) = true ∧ s.force.asserted = true) ∧
    (let s := asking (te1 0 pulse (.armed none)) .startEngine .hp0 [1];
      s.holds .hp0 (engineResource 1) = true ∧ s.force.asserted = false ∧ NoEndDue s 1 ∧ (s.engine 1).state ≠ .idle ∧
        ∀ c, (s.engine 1).config = some c → ¬Fires (s.engine 1) c) ∧
    ((asking (holding hub .hp0 (1#36 <<< 33)) .startEngine .hp0 [1]).engine 1).config = none ∧
    (let s := asking (te1 0 pulse .idle) .startEngine .hp0 [1];
      (s.engine 1).config = some pulse ∧ (s.engine 1).state = .idle ∧ s.holds .hp0 (engineResource 1) = true) ∧
    (let s := asking (te1 0 commanded (.armed none)) .startEngine .hp0 [1];
      (s.engine 1).config = some commanded ∧ NoEndDue s 1 ∧ Fires (s.engine 1) commanded) :=
  ⟨⟨ready_asking rfl rfl, passes_asking rfl, by decide⟩, ⟨by decide +kernel, by decide⟩, ⟨by decide +kernel, rfl⟩,
    ⟨by decide +kernel, rfl, by unfold NoEndDue; decide +kernel, by decide +kernel, fun c h k => by
      have e : ((asking (te1 0 pulse (.armed none)) .startEngine .hp0 [1]).engine 1).config = some pulse := by
        decide +kernel
      rw [e] at h
      cases h
      exact absurd k.2.1 (by decide)⟩,
    by decide +kernel, ⟨by decide +kernel, by decide +kernel, by decide +kernel⟩,
    by decide +kernel, by unfold NoEndDue; decide +kernel, by decide, by decide, none, by decide +kernel⟩

theorem witness_EngineStopped :
    (Ready (asking hub .stopEngine .hp0 [4]) .stopEngine .hp0 (frameOf hub .stopEngine .hp0 [4]) ∧
      Passes (asking hub .stopEngine .hp0 [4]) .hp0 (frameOf hub .stopEngine .hp0 [4]) ∧ 4 ≤ fieldAt [4] 0 1) ∧
    (asking hub .stopEngine .hp0 [0]).holds .hp0 (engineResource 0) = false ∧
    ((asking (te1 0 pulse .idle) .stopEngine .hp0 [1]).engine 1).state = .idle ∧
    (let s := asking (te1 0 pulse (.armed none)) .stopEngine .hp0 [1];
      (s.engine 1).config = some pulse ∧ s.holds .hp0 (engineResource 1) = true ∧ (s.engine 1).state ≠ .idle ∧ NoEndDue s 1) :=
  ⟨⟨ready_asking rfl rfl, passes_asking rfl, by decide⟩, by decide +kernel, by decide +kernel, by decide +kernel,
    by decide +kernel, by decide +kernel, by unfold NoEndDue; decide +kernel⟩

theorem witness_EngineReported :
    (Ready (asking hub .engineStatus .hp2 [4]) .engineStatus .hp2 (frameOf hub .engineStatus .hp2 [4]) ∧
      Passes (asking hub .engineStatus .hp2 [4]) .hp2 (frameOf hub .engineStatus .hp2 [4]) ∧ 4 ≤ fieldAt [4] 0 1) ∧
    (let s := asking (te1 0 pulse (.armed none)) .engineStatus .hp2 [1];
      fieldAt [1] 0 1 = (1 : EngineNo).val ∧ NoEndDue s 1 ∧ (s.engine 1).config = some pulse ∧
        s.holds .hp0 (engineResource 1) = true) ∧
    (let s := asking hub .engineStatus .hp2 [3];
      (s.engine 3).config = none ∧ ∀ q, s.holds q (engineResource 3) = false) :=
  ⟨⟨ready_asking rfl rfl, passes_asking rfl, by decide⟩,
    ⟨by decide, by unfold NoEndDue; decide +kernel, by decide +kernel, by decide +kernel⟩, by decide +kernel, by
      intro q
      cases q <;> decide +kernel⟩

/-- T1 held by HP0, with the end of its pulse reached by the count and not yet taken. -/
def dueHeld : State := { te1 5369 pulse (.timed .pulse 5370) with timeCount := 5370 }

/-- The same engine, offered to HP1. -/
def dueOffered : State := offering dueHeld 9 .hp0 .hp1 (1#36 <<< 33)

theorem test_close_of_the_target_takes_the_due_tick_first :
    recorded (asked dueOffered .closeSession .hp1 []) =
      [(.engineResult 1 .delayedPulse .done 1 0, ⟨true, false, false⟩),
        (.offerSettled .hp0 9 .cancelled, ⟨true, false, false⟩)] := by decide +kernel

theorem near_dueHeld : TicksNear dueHeld ∧ ¬NoEndDue dueHeld 1 := by
  unfold TicksNear NoEndDue
  decide +kernel

theorem reaches_dueHeld : EdgeReaches (dueHeld.engine 1) 3 := ⟨pulse, by decide +kernel, .inl rfl⟩

theorem witness_DueTickTakenFirst :
    let set : ResourceSet := 1#36 <<< 33
    let offer := [2, 0, 0, 0, 0, 1, 0x27, 0x10]
    (dueHeld.inReset = none ∧ TicksNear dueHeld ∧ ¬NoEndDue dueHeld 1 ∧ NoEndDue hub 1) ∧
    (Ready (asking dueHeld .stopEngine .hp0 [1]) .stopEngine .hp0 (frameOf dueHeld .stopEngine .hp0 [1]) ∧
      Passes (asking dueHeld .stopEngine .hp0 [1]) .hp0 (frameOf dueHeld .stopEngine .hp0 [1]) ∧
      (asking dueHeld .stopEngine .hp0 [1]).holds .hp0 (engineResource 1) = true ∧
      (asking dueHeld .stopEngine .hp0 [1]).endDue 1 = true ∧ dueHeld.force.asserted = false) ∧
    (Ready (asking dueHeld .configureEngine .hp0 pulsePayload) .configureEngine .hp0
        (frameOf dueHeld .configureEngine .hp0 pulsePayload) ∧ ∃ c, CarriesConfig pulsePayload c ∧ GoodConfig c) ∧
    (Ready (asking dueHeld .engineStatus .hp2 [1]) .engineStatus .hp2 (frameOf dueHeld .engineStatus .hp2 [1]) ∧
      (asking dueHeld .engineStatus .hp2 [1]).holds .hp2 (engineResource 1) = false) ∧
    (set.toNat = fieldAt [2, 0, 0, 0, 0] 0 5 ∧ set ≠ 0 ∧ enginesOf set = [1] ∧
      Ready (asking dueHeld .release .hp0 [2, 0, 0, 0, 0]) .release .hp0 (frameOf dueHeld .release .hp0 [2, 0, 0, 0, 0]) ∧
      (∀ r, inSet set r = true → ((asking dueHeld .release .hp0 [2, 0, 0, 0, 0]).entry r).state = .held .hp0) ∧
      Ready (asking dueHeld .offer .hp0 offer) .offer .hp0 (frameOf dueHeld .offer .hp0 offer) ∧
      set.toNat = fieldAt offer 0 5 ∧ fieldAt offer 5 1 = (portCode .hp1).toNat ∧ fieldAt offer 6 2 = 10000 ∧
      (asking dueHeld .offer .hp0 offer).offers.length < 4) ∧
    (Ready (asking dueOffered .accept .hp1 [9]) .accept .hp1 (frameOf dueOffered .accept .hp1 [9]) ∧
      Passes (asking dueOffered .accept .hp1 [9]) .hp1 (frameOf dueOffered .accept .hp1 [9]) ∧
      Ready (asking dueOffered .decline .hp1 [9]) .decline .hp1 (frameOf dueOffered .decline .hp1 [9]) ∧
      Ready (asking dueOffered .withdraw .hp0 [9]) .withdraw .hp0 (frameOf dueOffered .withdraw .hp0 [9]) ∧
      dueOffered.inReset = none ∧ dueOffered.offer 9 = some ⟨9, .hp0, .hp1, set, 100⟩ ∧ dueOffered.endDue 1 = true) ∧
    (dueOffered.isOpen .hp0 = true ∧ dueOffered.isOpen .hp1 = true ∧ dueOffered.reachedByEnd .hp0 = [1] ∧
      dueOffered.reachedByEnd .hp1 = [1] ∧
      Ready (asking dueOffered .closeSession .hp1 []) .closeSession .hp1 (frameOf dueOffered .closeSession .hp1 []) ∧
      Ready (asking dueOffered .openSession .hp0 [0, 10, 128, 1]) .openSession .hp0
        (frameOf dueOffered .openSession .hp0 [0, 10, 128, 1]) ∧ fieldAt [0, 10, 128, 1] 0 2 = 10 ∧
      fieldAt [0, 10, 128, 1] 2 1 = 128) ∧
    ({ dueHeld with force := { asserted := false, run := 2 } } : State).force.run = 2 ∧ EdgeReaches (dueHeld.engine 1) 3 :=
  ⟨⟨rfl, near_dueHeld.1, near_dueHeld.2, by unfold NoEndDue; decide +kernel⟩,
    ⟨ready_asking rfl rfl, passes_asking rfl, by decide +kernel, by decide +kernel, rfl⟩,
    ⟨ready_asking rfl rfl, pulse, pulse_carried⟩, ⟨ready_asking rfl rfl, by decide +kernel⟩,
    ⟨by decide, by decide, by decide +kernel, ready_asking rfl rfl, by decide +kernel, ready_asking rfl rfl, by decide,
      by decide, by decide, by decide +kernel⟩,
    ⟨ready_asking rfl rfl, passes_asking rfl, ready_asking rfl rfl, ready_asking rfl rfl, rfl, by decide +kernel,
      by decide +kernel⟩,
    ⟨by decide +kernel, by decide +kernel, by decide +kernel, by decide +kernel, ready_asking rfl rfl,
      ready_asking rfl rfl, by decide, by decide⟩, rfl, reaches_dueHeld⟩

theorem witness_TicksCounted :
    let s : State := { te1 5000 pulse (.armed none) with timeCount := 5001 }
    (s.inReset = none ∧ (s.engine 1).taken ≠ s.timeCount ∧ engineEnd (s.engine 1).state ≠ some ((s.engine 1).taken + 1)) ∧
    TicksNear s ∧ ∀ e, (hub.engine e).taken = hub.timeCount := by
  unfold TicksNear
  decide +kernel

theorem witness_PulseTrainPhaseEnds :
    let due := fun (ph : TimedPhase) (n : Nat) => ({ te3 99 (.timed ph 100) n with timeCount := 100 } : State)
    (EndNow (due .high 0) 3 ∧ ((due .high 0).engine 3).config = some train ∧ train.mode = .pulseTrain) ∧
    (EndNow (due .low 4294967295) 3 ∧ ((due .low 4294967295).engine 3).pulses = 4294967295) ∧
    (EndNow (due .low 1) 3 ∧ ((due .low 1).engine 3).pulses + 1 = train.repeatCount) ∧
    (EndNow (due .low 0) 3 ∧ ((due .low 0).engine 3).pulses + 1 ≠ train.repeatCount) := by
  unfold EndNow
  decide +kernel

theorem witness_DelayedPulsePhaseEnds :
    let due := fun (ph : TimedPhase) (n : Nat) =>
      ({ (te1 99 pulse (.timed ph 100)).withEngine 1 (fun g => { g with pulses := n }) with timeCount := 100 } : State)
    (EndNow (due .delay 0) 1 ∧ ((due .delay 0).engine 1).config = some pulse ∧ pulse.mode = .delayedPulse) ∧
    (EndNow (due .pulse 4294967295) 1 ∧ ((due .pulse 4294967295).engine 1).pulses = 4294967295) ∧
    (EndNow (due .pulse 0) 1 ∧ ((due .pulse 0).engine 1).pulses ≠ 4294967295) := by
  unfold EndNow
  decide +kernel

theorem witness_LimitAndWindowEnd :
    let due := fun (m : Mode) (st : EngineState) => ({ te1 99 (measuring m) st with timeCount := 100 } : State)
    (EndNow (due .measureWidth (.armed (some 100))) 1 ∧
      ((due .measureWidth (.armed (some 100))).engine 1).config = some (measuring .measureWidth)) ∧
    EndNow (due .measurePeriod (.measuring 40 100)) 1 ∧ EndNow (due .countEdges (.timed .counting 100)) 1 := by
  unfold EndNow
  decide +kernel

theorem witness_EdgesAtEngines :
    (let s := te3 1015 (.timed .high 1030) 0;
      (s.engine 3).config = some train ∧ s.endDue 3 = false ∧ train.gate = some 9 ∧ train.gateLevel ≠ .low) ∧
    (te3 1040 (.gated .high 15) 0).endDue 3 = false ∧
    (let s := te1 5120 pulse (.armed none);
      (s.engine 1).config = some pulse ∧ s.endDue 1 = false ∧ pulse.input = some 3) ∧
    (te1 5300 pulse (.timed .delay 5320)).endDue 1 = false ∧
    (te1 5300 (measuring .measureWidth) (.armed (some 5400))).endDue 1 = false ∧
    (te1 5300 (measuring .measureWidth) (.measuring 5250 5400)).endDue 1 = false ∧
    (te1 5300 (measuring .measurePeriod) (.armed (some 5400))).endDue 1 = false ∧
    (te1 5300 (measuring .measurePeriod) (.measuring 5250 5400)).endDue 1 = false ∧
    (te1 5300 (measuring .countEdges) (.timed .counting 5400)).endDue 1 = false := by decide +kernel

theorem witness_RecordAppended :
    (noPort.get .hp0 && hub.isOpen .hp0) = false ∧ (everyPort.get .hp0 && hub.isOpen .hp0) = true ∧
    (hub.openFields .hp0).isSome = true := by decide +kernel

theorem witness_SubscribedAndThresholdSet :
    let bad := [1, 0, 0, 0, 0, 0, 0, 0, 0, 0]
    let good := [0, 0xFF, 0xFF, 0xFF, 0xFF, 0, 0, 0, 0, 0]
    (Ready (asking hub .subscribe .hp0 bad) .subscribe .hp0 (frameOf hub .subscribe .hp0 bad) ∧
      Passes (asking hub .subscribe .hp0 bad) .hp0 (frameOf hub .subscribe .hp0 bad) ∧ 2 ^ 32 ≤ fieldAt bad 0 5) ∧
    (Ready (asking hub .subscribe .hp0 good) .subscribe .hp0 (frameOf hub .subscribe .hp0 good) ∧
      fieldAt good 0 5 = (0xFFFFFFFF : LineSet).toNat ∧ fieldAt good 5 5 = (0 : LineSet).toNat ∧
      ((asking hub .subscribe .hp0 good).openFields .hp0).isSome = true) ∧
    (Ready (asking hub .setAttention .hp0 [129]) .setAttention .hp0 (frameOf hub .setAttention .hp0 [129]) ∧
      Passes (asking hub .setAttention .hp0 [129]) .hp0 (frameOf hub .setAttention .hp0 [129]) ∧
      128 < fieldAt [129] 0 1) ∧
    (Ready (asking hub .setAttention .hp0 [128]) .setAttention .hp0 (frameOf hub .setAttention .hp0 [128]) ∧
      fieldAt [128] 0 1 = 128) :=
  ⟨⟨ready_asking rfl rfl, passes_asking rfl, by decide⟩, ⟨ready_asking rfl rfl, by decide, by decide, rfl⟩,
    ⟨ready_asking rfl rfl, passes_asking rfl, by decide⟩, ready_asking rfl rfl, by decide⟩

theorem witness_Fetched :
    (Ready (asking shared .fetch .hp1 [1, 0, 0, 0, 43, 6]) .fetch .hp1 (frameOf shared .fetch .hp1 [1, 0, 0, 0, 43, 6]) ∧
      Passes (asking shared .fetch .hp1 [1, 0, 0, 0, 43, 6]) .hp1 (frameOf shared .fetch .hp1 [1, 0, 0, 0, 43, 6]) ∧
      fieldAt [1, 0, 0, 0, 43, 6] 5 1 = 6 ∧ (byteAt [1, 0, 0, 0, 43, 6] 0).toNat ≤ 1 ∧
      ∃ o, (asking shared .fetch .hp1 [1, 0, 0, 0, 43, 6]).openFields .hp1 = some o ∧ GoodAck o 43) ∧
    Ready (asking shared .fetch .hp0 [0, 0, 0, 0, 0, 1]) .fetch .hp0 (frameOf shared .fetch .hp0 [0, 0, 0, 0, 0, 1]) ∧
      fieldAt [0, 0, 0, 0, 0, 1] 5 1 = 1 :=
  ⟨⟨ready_asking rfl rfl, passes_asking rfl, by decide, by decide, _, rfl, 43, rfl, by decide +kernel, by decide +kernel⟩,
    ready_asking rfl rfl, by decide⟩

theorem witness_FetchRefused :
    (Ready (asking shared .fetch .hp0 [0, 0, 0, 0, 0, 7]) .fetch .hp0 (frameOf shared .fetch .hp0 [0, 0, 0, 0, 0, 7]) ∧
      Passes (asking shared .fetch .hp0 [0, 0, 0, 0, 0, 7]) .hp0 (frameOf shared .fetch .hp0 [0, 0, 0, 0, 0, 7]) ∧
      6 < fieldAt [0, 0, 0, 0, 0, 7] 5 1) ∧ fieldAt [0, 0, 0, 0, 0, 0] 5 1 = 0 ∧
    (Ready (asking shared .fetch .hp0 [1, 0, 0, 0, 42, 6]) .fetch .hp0 (frameOf shared .fetch .hp0 [1, 0, 0, 0, 42, 6]) ∧
      ∃ o, (asking shared .fetch .hp0 [1, 0, 0, 0, 42, 6]).openFields .hp0 = some o ∧ ¬GoodAck o 42) ∧
    ∃ o, (asking shared .fetch .hp1 [1, 0, 0, 0, 44, 6]).openFields .hp1 = some o ∧ ¬GoodAck o 44 :=
  ⟨⟨ready_asking rfl rfl, passes_asking rfl, by decide⟩, by decide,
    ⟨ready_asking rfl rfl, _, rfl, fun ⟨_, h, _⟩ => nomatch h⟩,
    ⟨_, rfl, fun ⟨m, h, _, k⟩ => by cases h; exact absurd k (by decide +kernel)⟩⟩

theorem witness_TimeAndProfileRead :
    Ready (asking State.reset .time .hp0 []) .time .hp0 (frameOf State.reset .time .hp0 []) ∧
    Ready (asking hub .getProfile .hp0 []) .getProfile .hp0 (frameOf hub .getProfile .hp0 []) ∧
    Passes (asking hub .getProfile .hp0 []) .hp0 (frameOf hub .getProfile .hp0 []) :=
  ⟨ready_asking rfl rfl, ready_asking rfl rfl, passes_asking rfl⟩

theorem witness_ProfileChanged :
    let bad := [4, 2] ++ List.replicate 32 (15 : Byte) ++ [0, 0, 0, 4]
    (Ready (asking hub .setProfile .hp0 bad) .setProfile .hp0 (frameOf hub .setProfile .hp0 bad) ∧
      Passes (asking hub .setProfile .hp0 bad) .hp0 (frameOf hub .setProfile .hp0 bad) ∧ ¬LegalProfile bad) ∧
    (Ready (asking profiled .setProfile .hp0 profilePayload) .setProfile .hp0 (frameOf profiled .setProfile .hp0 profilePayload) ∧
      LegalProfile profilePayload ∧ (∀ r, ((asking profiled .setProfile .hp0 profilePayload).entry r).state = .free) ∧
      (asking profiled .setProfile .hp0 profilePayload).waitList = []) ∧
    ∃ r, ((asking (holding hub .hp1 0x200) .setProfile .hp0 profilePayload).entry r).state ≠ .free :=
  ⟨⟨ready_asking rfl rfl, passes_asking rfl, fun h => absurd h.1 (by decide)⟩,
    ⟨ready_asking rfl rfl, by unfold LegalProfile; decide +kernel, by decide +kernel, rfl⟩, 9, by decide +kernel⟩

theorem not_stretching {u : PortUnit} (h : u.link = .quiet) : ∀ a b c, u.link ≠ .stretching a b c := by simp [h]

theorem not_judging {u : PortUnit} (h : u.link = .quiet) : ∀ bytes, u.link ≠ .judging bytes := by simp [h]

theorem witness_SpiTransactions :
    (hub.inReset = none ∧ NoFrameArriving (hub.port .hp0)) ∧ NoFrameArriving ((asking hub .ping .hp1 []).port .hp1) ∧
    WholeFrame pingBytes ∧ WholeFrame (frameBytes { tag := 1, code := 2, session := 3, payload := List.replicate 48 5 }) ∧
    (pingBytes.take 5).length < (byteAt (pingBytes.take 5) 4).toNat + 6 ∧ 48 < (byteAt [0, 0, 0, 0, 49] 4).toNat ∧
    ((0 : Byte) ≠ 0xB1 ∧ (0 : Byte) ≠ 0xB2 ∧ (0 : Byte) ≠ 0xFF) ∧
    (3 ≤ ([0xFF, 0xFF, 0] : List Byte).length ∧ ∃ x ∈ ([0xFF, 0xFF, 0] : List Byte).take 3, x ≠ 0xFF) ∧
    ([0x12, 0xFF] : List Byte).length < 3 ∧ ([] : List Byte).length < 3 :=
  ⟨⟨rfl, by decide +kernel, not_judging rfl, .inr (.inl rfl)⟩, ⟨by decide +kernel, not_judging rfl, .inl ⟨_, rfl⟩⟩, by unfold WholeFrame; decide,
    by unfold WholeFrame; decide +kernel, by decide, by decide, by decide, by decide, by decide, by decide⟩

/-- HP2 in a write transaction with bytes of a frame in. -/
def writingHp2 (bytes : List Byte) : State :=
  hub.withPort .hp2 fun u => { u with state := .receiving bytes none, link := .writing }

theorem witness_transaction_ends_the_one_before :
    ((writing.port .hp0).link = .writing ∧ (0x55 : Byte) ≠ 0xB1 ∧ (0x55 : Byte) ≠ 0xB2 ∧ (0x55 : Byte) ≠ 0xFF) ∧
    (judging.port .hp1).link = .judging [0xFF, 0x12] ∧
    (((writingHp2 pingBytes).port .hp2).link = .writing ∧ WholeFrame (arrived ((writingHp2 pingBytes).port .hp2))) ∧
    (arrived ((writingHp2 [0x30]).port .hp2) = [0x30]) ∧
    NoFrameArriving { (hub.withPort .hp2 fun u => { u with link := .writing }).port .hp2 with link := .quiet } :=
  ⟨by decide +kernel, rfl, ⟨rfl, by unfold WholeFrame; decide +kernel⟩, rfl, by decide +kernel, not_judging rfl, .inr (.inl rfl)⟩

theorem witness_I2cWrites :
    hub.inReset = none ∧ NoFrameArriving (hub.port .hp2) ∧ (∀ a b c, (hub.port .hp2).link ≠ .stretching a b c) ∧
    WholeFrame pingBytes ∧ (5 ≤ [0, 0, 0, 0, 49].length ∧ 48 < (byteAt [0, 0, 0, 0, 49] 4).toNat) ∧
    (pingBytes.take 5) ≠ [] ∧ (0x2D : BitVec 7) ≠ hub.i2cAddress ∧ hub.i2cAddress ≠ 0 :=
  ⟨rfl, ⟨by decide +kernel, not_judging rfl, .inr (.inl rfl)⟩, not_stretching rfl, by unfold WholeFrame; decide, by decide, by decide,
    by decide +kernel, by decide +kernel⟩

theorem witness_I2cReadsAndStretch :
    (hub.inReset = none ∧ NoFrameArriving (hub.port .hp2) ∧ (∀ a b c, (hub.port .hp2).link ≠ .stretching a b c) ∧
      (hub.port .hp2).request = none ∧ (0x2D : BitVec 7) ≠ hub.i2cAddress) ∧
    (let s := asking hub .ping .hp2 [];
      NoFrameArriving (s.port .hp2) ∧ (∀ a b c, (s.port .hp2).link ≠ .stretching a b c) ∧ (s.port .hp2).request ≠ none) ∧
    (stretched.port .hp2).link = .stretching 3 1 true ∧
    ((hub.withPort .hp2 fun u => { u with link := .reading }).port .hp2).link = .reading ∧
    ((hub.withPort .hp2 fun u => { u with link := .writing }).port .hp2).link = .writing :=
  ⟨⟨rfl, ⟨by decide +kernel, not_judging rfl, .inr (.inl rfl)⟩, not_stretching rfl, rfl, by decide +kernel⟩,
    ⟨⟨by decide +kernel, not_judging rfl, .inl ⟨_, rfl⟩⟩, not_stretching rfl, by decide +kernel⟩, rfl, rfl, rfl⟩

theorem witness_FramesCompletedLostAndResynced :
    (writing.inReset = none ∧ (writing.port .hp0).link = .writing ∧
      WholeFrame (arrived (writing.port .hp0) ++ [0x00, 0x07, 0x00, 0x5C]) ∧ ([0x00, 0x07, 0x00, 0x5C] : List Byte) ≠ []) ∧
    Port.hp0 ≠ .hp2 ∧
    (let s := hub.withPort .hp2 fun u => { u with link := .writing };
      (s.port .hp2).link = .writing ∧ NoFrameArriving { s.port .hp2 with link := .quiet }) ∧
    (judging.inReset = none ∧ (judging.port .hp1).link = .judging [0xFF, 0x12] ∧ [0xFF, 0x12].length < 4 ∧
      ([0xFF, 0x12] : List Byte).head? = some 0xFF) ∧
    ((after (.resync (.spi .hp1 0 false)) hub).port .hp1).link = .ignoring ∧
    ((after (.i2cReadTransaction hub.i2cAddress 3 false) hub).port .hp2).link = .reading :=
  ⟨⟨rfl, rfl, by unfold WholeFrame; decide +kernel, by decide⟩, by decide, ⟨rfl, by decide +kernel, not_judging rfl, .inr (.inl rfl)⟩,
    ⟨rfl, rfl, by decide, rfl⟩, by decide +kernel, by decide +kernel⟩

theorem witness_ResetBeginsAndEnds :
    (ResetEvent.pinLow 5000 = .pinLow 5000 ∧ 5000 ≤ 5000 ∧ hub.inReset = none) ∧ (999 : Nat) < 1000 ∧
    (1000 ≤ 4999 ∧ 4999 < 5000) ∧ ({ hub with inReset := some .pin } : State).inReset = some .pin ∧
    ({ ResetPins.standard with select0Low := true, select1Low := true } : ResetPins).select0Low = true :=
  ⟨⟨rfl, by decide, rfl⟩, by decide, by decide, rfl, rfl⟩

theorem witness_FramesReadBack : ({ tag := 1, code := 2, session := 3, payload := List.replicate 48 5 } : Frame).payload.length ≤
    48 := by decide

/-- The hub with a record for every session. -/
def recording : State := hub.append everyPort 5 (.forceChange true)

theorem witness_JournalKept :
    JournalWf recording ∧ CountersBalance recording ∧ TicksNear recording ∧ ∃ t, step recording = .next t := by
  have j : recording.journal = [⟨1, 5, .forceChange true, ⟨true, true, true⟩⟩] := by decide +kernel
  have o : ∀ p, recording.isOpen p = true := by intro p; cases p <;> decide +kernel
  refine ⟨⟨by simp [j], fun r hr => ?_⟩, fun p _ _ => ?_, by unfold TicksNear; decide +kernel, _, step_idle (by decide +kernel)⟩
  · rw [j, List.mem_singleton] at hr
    exact ⟨by rw [hr]; rfl, fun p _ => o p⟩
  · cases p <;> decide +kernel

theorem witness_AttentionKept : AttentionExact recording ∧ ∃ t, step recording = .next t :=
  ⟨by intro p; cases p <;> decide +kernel, _, step_idle (by decide +kernel)⟩

/-- The hub with a pulse train running on T3 and its pin driven. -/
def pulsing : State := (te3 1000 (.timed .high 1030) 1).redrive everyResource

theorem leasesWf_pulsing : LeasesWf pulsing :=
  ⟨fun _ p _ => by cases p <;> decide +kernel, fun p => by cases p <;> decide +kernel,
    offersWf_of_agree (by decide +kernel), waitWf_nil (by decide +kernel), by unfold EnginesHeld; decide +kernel⟩

theorem witness_LeasesKept : LeasesWf pulsing ∧ ∃ t, step pulsing = .next t :=
  ⟨leasesWf_pulsing, _, step_idle (by decide +kernel)⟩

theorem witness_PinsKept : LeasesWf pulsing ∧ PinsExact pulsing ∧ EngineFailsafes pulsing ∧ ∃ t, step pulsing = .next t :=
  ⟨leasesWf_pulsing, pinsExact_of (by decide +kernel), by unfold EngineFailsafes; decide +kernel, _,
    step_idle (by decide +kernel)⟩

theorem witness_OwnersMoveTheirState : (∃ t, exec (.engineTick 3) pulsing = .next t) ∧
    ∀ pins, Instr.engineTick 3 ≠ .resetEnd pins := ⟨⟨_, rfl⟩, by simp⟩

end Sys2Proof.Tests
end

section
/-! PROOFS. The layer that the statements about resources share: a request's run on the state with the keepalive timer
restarted, the lowest member of a set with a property, and the set field of a payload. -/

namespace Sys2Proof.Proofs

open Sys2Proof.Machine Sys2Proof.Safety Sys2Proof.Laws

/-! ### A request that passes the session check (R30, R31, R161) -/

/-- The state in which the body of a request of port `p` runs: the Arbiter's pointer names `p` and its keepalive timer
is at the full period. -/
def taken (s : State) (p : Port) : State := (s.served p).restartKeepalive p

@[simp] theorem taken_leases (s : State) (p : Port) : (taken s p).leases = s.leases := by
  simp [taken, State.restartKeepalive, State.served]

@[simp] theorem taken_offers (s : State) (p : Port) : (taken s p).offers = s.offers := by
  simp [taken, State.restartKeepalive, State.served]

@[simp] theorem taken_offerCounter (s : State) (p : Port) : (taken s p).offerCounter = s.offerCounter := by
  simp [taken, State.restartKeepalive, State.served]

@[simp] theorem taken_waitList (s : State) (p : Port) : (taken s p).waitList = s.waitList := by
  simp [taken, State.restartKeepalive, State.served]

@[simp] theorem taken_ticketCounter (s : State) (p : Port) : (taken s p).ticketCounter = s.ticketCounter := by
  simp [taken, State.restartKeepalive, State.served]

@[simp] theorem taken_entry (s : State) (p : Port) (r : Resource) : (taken s p).entry r = s.entry r := restart_entry s p r

@[simp] theorem taken_line (s : State) (p : Port) (l : Line) : (taken s p).line l = s.line l := restart_line s p l

@[simp] theorem taken_engine (s : State) (p : Port) (e : EngineNo) : (taken s p).engine e = s.engine e :=
  restart_engine s p e

@[simp] theorem taken_holds (s : State) (p q : Port) (r : Resource) : (taken s p).holds q r = s.holds q r := by
  unfold State.holds State.holderOf
  rw [taken_entry]

/-- A state with the session records of `taken s p` has, of `s`, only that keepalive timer restarted. -/
theorem onlyRestarted_of_sessions {s t : State} {p : Port} (h : t.sessions = (taken s p).sessions) :
    OnlyRestarted s t p := by
  have same : ∀ q, t.session q = (taken s p).session q := fun q => congrArg (PerPort.get · q) h
  exact ⟨(same p).trans (restart_only s p).1, fun q hq => (same q).trans ((restart_only s p).2 q hq)⟩

theorem taken_field (s : State) (p : Port) : SameField s (taken s p) := by
  simp [SameField, taken, State.restartKeepalive, State.served]

theorem taken_journal (s : State) (p : Port) : SameJournal s (taken s p) := by
  simp [SameJournal, taken, State.restartKeepalive, State.served]

/-- The restart and the answer alone. -/
theorem onlyAnswered_taken (s : State) (p : Port) (tag : Byte) (rep : Reply) :
    OnlyAnswered s ((taken s p).answer p tag rep) p :=
  ⟨restart_only s p, by simp [SameTables], taken_field s p, taken_journal s p, (restart_outside s p).1⟩

/-- The answer to a request is placed outside what `SameRest` speaks of. -/
theorem sameRest_answer {s v : State} {p : Port} (tag : Byte) (rep : Reply) (h : SameOutside (s.served p) v) :
    SameRest s (v.answer p tag rep) := h.1

section Requests

variable {s : State} {rq : Request} {p : Port} {f : Frame} {body : State → Port → List Byte → State × Reply} {rep : Reply}

/-- A request that passes its checks leaves what its body leaves, with the body's reply placed in the port. -/
theorem take_of_body {v : State} (hc : hasSessionCheck rq = true) (h : Ready s rq p f) (hp : Passes s p f)
    (hb : body (taken s p) p f.payload = (v, rep)) :
    (s.awake fun s => s.take rq p body) = .next (v.answer p f.tag rep) := by
  rw [ready_awake h, take_passes body hc h hp, ← taken, hb]

/-- A body that only replies: the request is answered, and nothing else but the keepalive timer moves. -/
theorem take_of_reply (hc : hasSessionCheck rq = true) (h : Ready s rq p f) (hp : Passes s p f)
    (hb : body (taken s p) p f.payload = (taken s p, rep)) :
    ∃ t, (s.awake fun s => s.take rq p body) = .next t ∧ Answered s t p f rep.status rep.payload ∧ OnlyAnswered s t p :=
  ⟨_, take_of_body hc h hp hb, answered_of_outside f rep (restart_outside s p), onlyAnswered_taken s p f.tag rep⟩

end Requests

/-! ### Naming a resource (R176) -/

theorem namesResource_naming (s : State) (p : Port) (st : Status) (r : Resource) :
    namesResource s r ((taken s p).naming st r).payload := by
  unfold namesResource State.naming
  rw [taken_entry]
  cases (s.entry r).state <;> rfl

/-! ### Sets and their members (R3, R174) -/

theorem mem_members {set : ResourceSet} {r : Resource} : r ∈ members set ↔ inSet set r = true := by
  simp [members]

theorem members_ascending (set : ResourceSet) : (members set).Pairwise (· < ·) :=
  (List.pairwise_lt_finRange 36).filter _

/-- The search through the members finds the lowest one with the property. -/
theorem find_lowest {set : ResourceSet} {bad : Resource → Prop} {test : Resource → Bool} {r : Resource}
    (ht : ∀ k, test k = true ↔ bad k) (h : LowestWith set bad r) : (members set).find? test = some r := by
  obtain ⟨hr, hbad, hlow⟩ := h
  have found : ((members set).find? test).isSome := List.find?_isSome.2 ⟨r, mem_members.2 hr, (ht r).2 hbad⟩
  obtain ⟨k, hk⟩ := Option.isSome_iff_exists.1 found
  obtain ⟨tk, before, after, split, none_before⟩ := List.find?_eq_some_iff_append.1 hk
  have kr : k ≤ r := by
    have hmem : r ∈ before ++ k :: after := split ▸ mem_members.2 hr
    rcases List.mem_append.1 hmem with hb | hb
    · have := none_before r hb
      simp [(ht r).2 hbad] at this
    · rcases List.mem_cons.1 hb with rfl | ha
      · exact le_rfl
      · have ascending := List.pairwise_append.1 (split ▸ members_ascending set)
        exact ((List.pairwise_cons.1 ascending.2.1).1 r ha).le
  have rk : r ≤ k := hlow k (mem_members.1 (List.mem_of_find?_eq_some hk)) ((ht k).1 tk)
  rw [hk, le_antisymm kr rk]

theorem ne_zero_of_inSet {set : ResourceSet} {r : Resource} (h : inSet set r = true) : set ≠ 0 := by
  rintro rfl
  simp [inSet] at h

/-! ### The set field of a payload (R3, R174) -/

theorem resourceSetAt_eq_some {pl : List Byte} {i : Nat} {set : ResourceSet} (h : set.toNat = fieldAt pl i 5) :
    resourceSetAt pl i = some set := by
  unfold resourceSetAt
  rw [← h, if_pos set.isLt, BitVec.ofNat_toNat, BitVec.setWidth_eq]

/-- A field that is no set of resources, or the empty one. -/
theorem resourceSetAt_of_bad {pl : List Byte} {i : Nat} (h : 2 ^ 36 ≤ fieldAt pl i 5 ∨ fieldAt pl i 5 = 0) :
    resourceSetAt pl i = none ∨ resourceSetAt pl i = some 0 := by
  rcases h with h | h
  · exact .inl (if_neg (Nat.not_lt.2 h))
  · exact .inr (resourceSetAt_eq_some (by simp [h]))

theorem inSet_resourceSetAt {pl : List Byte} {i : Nat} {set : ResourceSet} (h : resourceSetAt pl i = some set)
    (r : Resource) : inSet set r = (fieldAt pl i 5).testBit r.val := by
  unfold resourceSetAt at h
  split at h
  · cases h
    rw [inSet, BitVec.getLsbD_ofNat, decide_eq_true r.isLt, Bool.true_and]
  · cases h

end Sys2Proof.Proofs
end

section
/-! PROOFS. The refusals of RELEASE (R21). -/

namespace Sys2Proof.Proofs

open Sys2Proof.Machine Sys2Proof.Safety Sys2Proof.Laws

theorem releaseOperands_eq_none {pl : List Byte} (h : 2 ^ 36 ≤ fieldAt pl 0 5 ∨ fieldAt pl 0 5 = 0) :
    releaseOperands pl = none := by
  rcases resourceSetAt_of_bad h with h | h <;> simp [releaseOperands, h]

theorem releaseOperands_eq_some {pl : List Byte} {set : ResourceSet} (h : set.toNat = fieldAt pl 0 5) (hn : set ≠ 0) :
    releaseOperands pl = some set := by
  simp only [releaseOperands, resourceSetAt_eq_some h, if_neg hn]

/-- Of a resource that is not HELD by the port, the status tells whether the port has offered it. -/
theorem releaseRefusal_eq {s : State} {p : Port} {r : Resource} (h : (s.entry r).state ≠ .held p) :
    s.releaseRefusal p r = if s.holds p r then .offered else .notHolder := by
  unfold State.releaseRefusal State.holds State.holderOf
  cases hs : (s.entry r).state with
  | free => simp [LeaseState.holder]
  | held q =>
    have : q ≠ p := fun hq => h (by rw [hs, hq])
    simp [LeaseState.holder, this]
  | offered q id => simp [LeaseState.holder]
  | orphaned q => simp [LeaseState.holder]

theorem releaseBody_badArgument {s : State} {p : Port} {pl : List Byte}
    (h : 2 ^ 36 ≤ fieldAt pl 0 5 ∨ fieldAt pl 0 5 = 0) : releaseBody s p pl = (s, bare .badArgument) := by
  simp [releaseBody, releaseOperands_eq_none h]

theorem releaseBody_refused {s : State} {p : Port} {pl : List Byte} {set : ResourceSet} {r : Resource}
    (h : set.toNat = fieldAt pl 0 5) (hr : LowestWith set (fun k => (s.entry k).state ≠ .held p) r) :
    releaseBody s p pl = (s, s.naming (s.releaseRefusal p r) r) := by
  have stops : (members set).find? (fun k => !s.heldBy p k) = some r :=
    find_lowest (fun k => by simp [State.heldBy]) hr
  simp [releaseBody, releaseOperands_eq_some h (ne_zero_of_inSet hr.1), stops]

/-- Settles O16: both refusals are replies of RELEASE's body, which leaves the state as it is. -/
theorem releaseRefused : Obligations.ReleaseRefused := by
  intro s p f ready passes
  refine ⟨fun bad => take_of_reply rfl ready passes (releaseBody_badArgument bad), fun set hset r hr => ?_⟩
  have low : LowestWith set (fun k => ((taken s p).entry k).state ≠ .held p) r := by simpa using hr
  obtain ⟨t, run, answered, only⟩ := take_of_reply rfl ready passes (releaseBody_refused hset low)
  rw [releaseRefusal_eq low.2.1, taken_holds] at answered
  exact ⟨t, run, _, namesResource_naming s p _ r, answered, only⟩

end Sys2Proof.Proofs
end

section
/-! PROOFS. SET FAILSAFE (R24), and the drives decided again (R84, R88, R114). -/

namespace Sys2Proof.Proofs

open Sys2Proof.Machine Sys2Proof.Safety Sys2Proof.Laws

/-! ### Drives decided again -/

/-- Deciding drives again changes no wanted drive: it reads nothing that it writes. -/
theorem effectiveDrive_redrive (s : State) (set : ResourceSet) (l : Line) :
    (s.redrive set).effectiveDrive l = s.effectiveDrive l := by
  have direction : ((s.redrive set).line l).direction = (s.line l).direction := by
    rw [State.line_redrive, State.decidedCell]
    split_ifs <;> rfl
  have commanded : ((s.redrive set).line l).commanded = (s.line l).commanded := by
    rw [State.line_redrive, State.decidedCell]
    split_ifs <;> rfl
  simp only [State.effectiveDrive, direction, commanded, State.entry_redrive, State.redrive_force, State.redrive_profile]

theorem engineDrive_redrive (s : State) (set : ResourceSet) (e : EngineNo) :
    (s.redrive set).engineDrive e = s.engineDrive e := by
  have state : ((s.redrive set).engine e).state = (s.engine e).state := by
    rw [State.engine_redrive, State.decidedEngine]
    split_ifs <;> rfl
  simp only [State.engineDrive, state, State.entry_redrive, State.redrive_force]

theorem decidedCell_eq_decidedAgain (s : State) (l : Line) : s.decidedCell l = decidedAgain s l (s.line l) := by
  unfold State.decidedCell decidedAgain monitorFor
  cases s.effectiveDrive l <;> rfl

/-- The cells after drives are decided again, each said of the state that this leaves. -/
theorem line_redrive_decidedAgain (s : State) (set : ResourceSet) (l : Line) :
    (s.redrive set).line l =
      if inSet set (lineResource l) then decidedAgain (s.redrive set) l (s.line l) else s.line l := by
  have same : decidedAgain (s.redrive set) l (s.line l) = decidedAgain s l (s.line l) := by
    unfold decidedAgain
    rw [effectiveDrive_redrive, State.redrive_profile]
  rw [State.line_redrive, same, decidedCell_eq_decidedAgain]

theorem engine_redrive_engineDrive (s : State) (set : ResourceSet) (e : EngineNo) :
    (s.redrive set).engine e =
      if inSet set (engineResource e) then { s.engine e with out := (s.redrive set).engineDrive e } else s.engine e := by
  rw [State.engine_redrive, engineDrive_redrive, State.decidedEngine]

theorem decidedAgain_answer (s : State) (p : Port) (tag : Byte) (rep : Reply) (l : Line) (c : LineCell) :
    decidedAgain (s.answer p tag rep) l c = decidedAgain s l c := rfl

theorem engineDrive_answer (s : State) (p : Port) (tag : Byte) (rep : Reply) (e : EngineNo) :
    (s.answer p tag rep).engineDrive e = s.engineDrive e := rfl

/-! ### The values of the payload (R24, R175) -/

theorem legalFailsafe_iff (r : Resource) (code : Nat) :
    legalFailsafe r (failsafeOf (code % 4)) = true ↔ code % 4 ≠ 3 ∧ (32 ≤ r.val → code % 4 ≠ 2) := by
  have small : code % 4 < 4 := Nat.mod_lt _ (by decide)
  generalize code % 4 = c at small
  interval_cases c <;> simp [failsafeOf, legalFailsafe]

theorem namesFailsafe_failsafeOf {code : Nat} (x : Failsafe) (h : code % 4 ≠ 3) :
    NamesFailsafe (code % 4) ((failsafeOf (code % 4)).getD x) := by
  have small : code % 4 < 4 := Nat.mod_lt _ (by decide)
  generalize code % 4 = c at small h
  interval_cases c <;> simp_all [failsafeOf, NamesFailsafe]

theorem setFailsafeOperands_eq_none {pl : List Byte}
    (h : 2 ^ 36 ≤ fieldAt pl 0 5 ∨ fieldAt pl 0 5 = 0 ∨
      ∃ r : Resource, (fieldAt pl 0 5).testBit r.val = true ∧
        (fieldAt pl 5 9 / 4 ^ r.val % 4 = 3 ∨ (32 ≤ r.val ∧ fieldAt pl 5 9 / 4 ^ r.val % 4 = 2))) :
    setFailsafeOperands pl = none := by
  rw [← or_assoc] at h
  unfold setFailsafeOperands
  rcases h with bad | ⟨r, hr, illegal⟩
  · rcases resourceSetAt_of_bad bad with h | h <;> simp [h]
  · cases hs : resourceSetAt pl 0 with
    | none => rfl
    | some set =>
      refine if_neg fun ⟨_, all⟩ => ?_
      have legal := List.all_eq_true.1 all r (mem_members.2 ((inSet_resourceSetAt hs r).trans hr))
      obtain ⟨not3, not2⟩ := (legalFailsafe_iff r _).1 legal
      exact illegal.elim not3 fun ⟨engine, is2⟩ => not2 engine is2

theorem setFailsafeOperands_eq_some {pl : List Byte} {set : ResourceSet} (h : set.toNat = fieldAt pl 0 5) (hn : set ≠ 0)
    (legal : ∀ r : Resource, inSet set r = true →
      fieldAt pl 5 9 / 4 ^ r.val % 4 ≠ 3 ∧ (32 ≤ r.val → fieldAt pl 5 9 / 4 ^ r.val % 4 ≠ 2)) :
    setFailsafeOperands pl = some set := by
  have all : (members set).all (fun r => legalFailsafe r (failsafeAt pl r)) = true :=
    List.all_eq_true.2 fun r hr => (legalFailsafe_iff r _).2 (legal r (mem_members.1 hr))
  simp only [setFailsafeOperands, resourceSetAt_eq_some h]
  exact if_pos ⟨hn, all⟩

/-! ### The failsafe values replaced -/

theorem setFailsafes_entry (s : State) (set : ResourceSet) (pl : List Byte) (r : Resource) :
    (s.setFailsafes set pl).entry r =
      if inSet set r then { s.entry r with failsafe := (failsafeAt pl r).getD (s.entry r).failsafe } else s.entry r := by
  simp [State.setFailsafes]

theorem setFailsafes_line (s : State) (set : ResourceSet) (pl : List Byte) (l : Line) :
    (s.setFailsafes set pl).line l =
      if inSet set (lineResource l) then decidedAgain (s.setFailsafes set pl) l (s.line l) else s.line l := by
  rw [State.setFailsafes, line_redrive_decidedAgain, State.line_withEntryOf]

theorem setFailsafes_engine (s : State) (set : ResourceSet) (pl : List Byte) (e : EngineNo) :
    (s.setFailsafes set pl).engine e =
      if inSet set (engineResource e) then { s.engine e with out := (s.setFailsafes set pl).engineDrive e }
      else s.engine e := by
  rw [State.setFailsafes, engine_redrive_engineDrive, State.engine_withEntryOf]

theorem setFailsafes_outside (s : State) (set : ResourceSet) (pl : List Byte) : SameOutside s (s.setFailsafes set pl) := by
  simp [SameOutside, SameRest, SameControl, SamePorts, State.setFailsafes]

theorem setFailsafeBody_badArgument {s : State} {p : Port} {pl : List Byte} (h : setFailsafeOperands pl = none) :
    setFailsafeBody s p pl = (s, bare .badArgument) := by
  simp [setFailsafeBody, h]

theorem setFailsafeBody_notHolder {s : State} {p : Port} {pl : List Byte} {set : ResourceSet} {r : Resource}
    (h : setFailsafeOperands pl = some set) (hr : LowestWith set (fun k => s.holds p k = false) r) :
    setFailsafeBody s p pl = (s, s.naming .notHolder r) := by
  have stops : s.lowestNotHeld p set = some r := find_lowest (fun k => by simp) hr
  simp [setFailsafeBody, h, stops]

theorem setFailsafeBody_ok {s : State} {p : Port} {pl : List Byte} {set : ResourceSet}
    (h : setFailsafeOperands pl = some set) (held : ∀ r, inSet set r = true → s.holds p r = true) :
    setFailsafeBody s p pl = (s.setFailsafes set pl, bare .ok) := by
  have passes : s.lowestNotHeld p set = none :=
    List.find?_eq_none.2 fun r hr => by simp [held r (mem_members.1 hr)]
  simp [setFailsafeBody, h, passes]

/-- Settles O17: the refusals are replies of SET FAILSAFE's body; a run that passes replaces the values and decides the
drives again. -/
theorem failsafeSet : Obligations.FailsafeSet := by
  intro s p f ready passes
  refine ⟨fun bad => take_of_reply rfl ready passes (setFailsafeBody_badArgument (setFailsafeOperands_eq_none bad)),
    fun set hset hn legal => ?_⟩
  have operands := setFailsafeOperands_eq_some hset hn legal
  refine ⟨fun r hr => ?_, fun held => ?_⟩
  · have low : LowestWith set (fun k => (taken s p).holds p k = false) r := by simpa using hr
    obtain ⟨t, run, answered, only⟩ := take_of_reply rfl ready passes (setFailsafeBody_notHolder operands low)
    exact ⟨t, run, _, namesResource_naming s p _ r, answered, only⟩
  · have body := setFailsafeBody_ok operands (s := taken s p) (p := p) (by simpa using held)
    have outside := (restart_outside s p).trans (setFailsafes_outside (taken s p) set f.payload)
    refine ⟨_, take_of_body rfl ready passes body, answered_of_outside f (bare .ok) outside, fun r hr => ?_, fun r hr => ?_,
      fun l => ?_, fun e => ?_, onlyRestarted_of_sessions (by simp [State.setFailsafes]), by simp [State.setFailsafes],
      by simp [State.setFailsafes], by simp [State.setFailsafes], by simp [State.setFailsafes],
      by simpa [SameJournal, State.setFailsafes] using taken_journal s p, sameRest_answer _ _ outside⟩
    · simp only [State.entry_answer, setFailsafes_entry, hr, if_true, taken_entry]
      exact ⟨trivial, trivial, namesFailsafe_failsafeOf _ (legal r hr).1⟩
    · simp [setFailsafes_entry, hr]
    · rw [State.line_answer, setFailsafes_line, decidedAgain_answer, taken_line]
    · rw [State.engine_answer, setFailsafes_engine, engineDrive_answer, taken_engine]

end Sys2Proof.Proofs
end

section
/-! PROOFS. A CLAIM that is not granted (R12, R13, R17, R18, R65), and the counter that gives ids (R46, R63). -/

namespace Sys2Proof.Proofs

open Sys2Proof.Machine Sys2Proof.Safety Sys2Proof.Laws

/-! ### The next id of a counter (R46, R63) -/

theorem nextId_ne_zero (n : Byte) : nextId n ≠ 0 := by
  unfold nextId
  split <;> bv_omega

theorem toNat_nextId (n : Byte) : (nextId n).toNat = n.toNat % 255 + 1 := by
  unfold nextId
  split <;> bv_omega

/-- The ids that follow an id run through 1 to 255 in turn. -/
theorem toNat_iterate_nextId {n : Byte} (h : n ≠ 0) (k : Nat) :
    (nextId^[k] n).toNat = (n.toNat - 1 + k) % 255 + 1 := by
  induction k with
  | zero =>
    have := n.isLt
    have : n.toNat ≠ 0 := fun h0 => h (BitVec.eq_of_toNat_eq h0)
    simp only [Function.iterate_zero, id_eq]
    omega
  | succ k ih =>
    rw [Function.iterate_succ_apply', toNat_nextId, ih]
    omega

theorem iterate_nextId_inj {n : Byte} (h : n ≠ 0) {i j : Nat} (hi : i < 255) (hj : j < 255)
    (eq : nextId^[i] n = nextId^[j] n) : i = j := by
  have := congrArg BitVec.toNat eq
  rw [toNat_iterate_nextId h, toNat_iterate_nextId h] at this
  omega

/-- The search goes past ids in use alone, and ends at an id that is free or when its fuel is spent. -/
theorem freeId_spec (used : List Byte) (fuel : Nat) (n : Byte) :
    ∃ k ≤ fuel, freeId used fuel n = nextId^[k] n ∧ (∀ j < k, nextId^[j] n ∈ used) ∧
      (nextId^[k] n ∉ used ∨ k = fuel) := by
  induction fuel generalizing n with
  | zero => exact ⟨0, le_rfl, rfl, by simp, .inr rfl⟩
  | succ fuel ih =>
    unfold freeId
    split
    next inUse =>
      obtain ⟨k, bound, result, skipped, last⟩ := ih (nextId n)
      refine ⟨k + 1, Nat.succ_le_succ bound, result, fun j hj => ?_, last.imp_right (congrArg (· + 1))⟩
      cases j with
      | zero => exact inUse
      | succ j => exact skipped j (Nat.lt_of_succ_lt_succ hj)
    next free => exact ⟨0, Nat.zero_le _, rfl, by simp, .inl free⟩

/-- Not every id of one turn more than there are ids in use is in use. -/
theorem exists_free_id {used : List Byte} (few : used.length < 255) {n : Byte} (h : n ≠ 0) :
    ¬∀ j < used.length + 1, nextId^[j] n ∈ used := by
  intro all
  have nodup : ((List.range (used.length + 1)).map (nextId^[·] n)).Nodup :=
    List.Nodup.map_on
      (fun i hi j hj => iterate_nextId_inj h ((List.mem_range.1 hi).trans_le few) ((List.mem_range.1 hj).trans_le few))
      List.nodup_range
  have inside : (List.range (used.length + 1)).map (nextId^[·] n) ⊆ used := by
    intro id hid
    obtain ⟨j, hj, rfl⟩ := List.mem_map.1 hid
    exact all j (List.mem_range.1 hj)
  have := (nodup.subperm inside).length_le
  simp at this

/-- With fewer than 255 ids in use, as many skips as there are ids in use find a free one. -/
theorem allocated_freeId (counter : Byte) {used : List Byte} (few : used.length < 255) :
    Allocated counter used (freeId used used.length (nextId counter)) := by
  obtain ⟨k, bound, result, skipped, last⟩ := freeId_spec used used.length (nextId counter)
  refine ⟨k, bound, result, ?_, skipped⟩
  rw [result]
  rcases last with free | rfl
  · exact free
  · intro inUse
    refine exists_free_id few (nextId_ne_zero counter) fun j hj => ?_
    rcases Nat.lt_succ_iff_lt_or_eq.1 hj with lt | rfl
    · exact skipped j lt
    · exact inUse

/-- At most one queued claim of a port: at most three. -/
theorem waitList_length_le {s : State} (h : (s.waitList.map WaitEntry.port).Nodup) : s.waitList.length ≤ 3 := by
  have inside : s.waitList.map WaitEntry.port ⊆ allPorts := fun q _ => by cases q <;> simp [allPorts]
  simpa [allPorts] using (h.subperm inside).length_le

theorem allocated_nextTicket {s : State} (h : WaitWf s) :
    Allocated s.ticketCounter (s.waitList.map WaitEntry.ticket) s.nextTicket := by
  obtain ⟨ports, -⟩ := h
  have short := waitList_length_le ports
  have few : s.tickets.length < 255 := by simp [State.tickets]; omega
  simpa [State.nextTicket, State.tickets] using allocated_freeId s.ticketCounter few

/-! ### What stops a claim (R13, R17) -/

theorem available_iff {s : State} {p : Port} {adopt : Bool} {r : Resource} :
    s.available p adopt r = true ↔ Available s p adopt r := by
  unfold State.available Available State.holds State.holderOf
  cases (s.entry r).state <;> simp [availableState, LeaseState.holder]

theorem available_taken (s : State) (p : Port) (adopt : Bool) (r : Resource) :
    Available (taken s p) p adopt r ↔ Available s p adopt r := by
  simp only [Available, taken_entry, taken_holds]

/-- An id names at most one open offer (R45). -/
theorem offer_unique {s : State} (h : OffersWf s) {o o' : Offer} (ho : o ∈ s.offers) (ho' : o' ∈ s.offers)
    (same : o.id = o'.id) : o = o' := by
  obtain ⟨-, ascending, -⟩ := h
  exact List.inj_on_of_nodup_map (ascending.imp fun lt => BitVec.ne_of_lt lt) ho ho' same

/-- The status of a refused claim is the one of Table 1-3. -/
theorem stoppedClaim_claimRefusal {s : State} {p : Port} {adopt : Bool} {r : Resource} (wf : OffersWf s)
    (h : ¬Available s p adopt r) : StoppedClaim s p r (s.claimRefusal p r) := by
  unfold State.claimRefusal
  cases hs : (s.entry r).state with
  | free => exact absurd (.inl hs) h
  | held q => exact .inl ⟨⟨q, hs⟩, rfl⟩
  | orphaned q => exact .inr (.inl ⟨⟨q, hs⟩, rfl⟩)
  | offered q id =>
    refine .inr (.inr ⟨q, id, hs, ?_⟩)
    cases ho : s.offer id with
    | none =>
      simp only [ho]
      exact .inr ⟨fun o mem same => absurd same (by simpa using List.find?_eq_none.1 ho o mem), trivial⟩
    | some o =>
      have mem : o ∈ s.offers := List.mem_of_find?_eq_some ho
      have same : o.id = id := by simpa using List.find?_some ho
      simp only [ho]
      by_cases target : o.target = p
      · exact .inl ⟨⟨o, mem, same, target⟩, if_pos target⟩
      · refine .inr ⟨fun o' mem' same' => ?_, if_neg target⟩
        rwa [offer_unique wf mem' mem (same'.trans same.symm)]

theorem claimRefusal_taken (s : State) (p : Port) (r : Resource) :
    (taken s p).claimRefusal p r = s.claimRefusal p r := by
  simp only [State.claimRefusal, taken_entry, State.offer, taken_offers]

/-! ### CLAIM's operands (R12, R174) -/

theorem claimOperands_eq_none {pl : List Byte}
    (h : 2 ^ 36 ≤ fieldAt pl 0 5 ∨ fieldAt pl 0 5 = 0 ∨
      ¬((byteAt pl 5).getLsbD 1 = true → 1 ≤ fieldAt pl 6 2 ∧ fieldAt pl 6 2 ≤ 60000)) :
    claimOperands pl = none := by
  rw [← or_assoc] at h
  unfold claimOperands
  rcases h with bad | illegal
  · rcases resourceSetAt_of_bad bad with h | h <;> simp [h]
  · cases resourceSetAt pl 0 with
    | none => rfl
    | some set => exact if_neg fun ⟨_, _, legal⟩ => illegal legal

theorem claimOperands_eq_some {pl : List Byte} {set : ResourceSet} (h : set.toNat = fieldAt pl 0 5) (hn : set ≠ 0)
    (flags : (byteAt pl 5).toNat < 4)
    (legal : (byteAt pl 5).getLsbD 1 = true → 1 ≤ fieldAt pl 6 2 ∧ fieldAt pl 6 2 ≤ 60000) :
    claimOperands pl =
      some
        { set := set, adopt := (byteAt pl 5).getLsbD 0
          wait := if (byteAt pl 5).getLsbD 1 then some (fieldAt pl 6 2) else none } := by
  simp only [claimOperands, resourceSetAt_eq_some h]
  exact if_pos ⟨hn, decide_eq_true flags, legal⟩

/-! ### The outcomes of CLAIM's body -/

/-- The state with a claim queued under the next ticket (R18). -/
def enqueued (s : State) (w : WaitEntry) : State :=
  { s with ticketCounter := w.ticket, waitList := s.waitList ++ [w] }

theorem enqueued_outside (s : State) (w : WaitEntry) : SameOutside s (enqueued s w) := .refl s

section Bodies

variable {s : State} {p : Port} {pl : List Byte} {o : ClaimOperands} {r : Resource}

theorem lowestUnavailable_eq {adopt : Bool} {set : ResourceSet} (h : LowestWith set (fun k => ¬Available s p adopt k) r) :
    s.lowestUnavailable p adopt set = some r :=
  find_lowest (fun k => by rw [← available_iff]; simp) h

theorem claimBody_badArgument (h : claimOperands pl = none) : claimBody s p pl = (s, bare .badArgument) := by
  simp [claimBody, h]

theorem claimBody_refused (h : claimOperands pl = some o) (wait : o.wait = none)
    (low : LowestWith o.set (fun k => ¬Available s p o.adopt k) r) :
    claimBody s p pl = (s, s.naming (s.claimRefusal p r) r) := by
  simp [claimBody, h, lowestUnavailable_eq low, wait]

theorem claimBody_limit {ms : Nat} {w : WaitEntry} (h : claimOperands pl = some o) (wait : o.wait = some ms)
    (low : LowestWith o.set (fun k => ¬Available s p o.adopt k) r) (queued : s.queuedClaim p = some w) :
    claimBody s p pl = (s, { status := .limit, payload := [w.ticket] }) := by
  simp [claimBody, h, lowestUnavailable_eq low, wait, queueClaim, queued]

theorem claimBody_queued {ms : Nat} (h : claimOperands pl = some o) (wait : o.wait = some ms)
    (low : LowestWith o.set (fun k => ¬Available s p o.adopt k) r) (queued : s.queuedClaim p = none) :
    claimBody s p pl =
      (enqueued s { ticket := s.nextTicket, port := p, set := o.set, adopt := o.adopt, remaining := ms },
        { status := .queued, payload := s.nextTicket :: (s.naming .queued r).payload }) := by
  simp [claimBody, h, lowestUnavailable_eq low, wait, queueClaim, queued, enqueued]

end Bodies

theorem nextTicket_taken (s : State) (p : Port) : (taken s p).nextTicket = s.nextTicket := by
  simp [State.nextTicket, State.tickets]

theorem queuedClaim_taken (s : State) (p : Port) : (taken s p).queuedClaim p = s.queuedClaim p := by
  simp [State.queuedClaim]

/-- Settles O14: each outcome is one outcome of CLAIM's body at the lowest unavailable resource. -/
theorem claimNotGranted : Obligations.ClaimNotGranted := by
  intro s p f ready passes flags ms _
  refine ⟨fun _ bad => take_of_reply rfl ready passes (claimBody_badArgument (claimOperands_eq_none bad)),
    fun set hset hn small legal r hr => ?_⟩
  have operands := claimOperands_eq_some hset hn small legal
  have low : LowestWith set (fun k => ¬Available (taken s p) p (flags.getLsbD 0) k) r := by
    simpa only [available_taken] using hr
  refine ⟨fun noWait wf => ?_, fun wait ⟨v, hv, vp⟩ => ?_, fun wait wf alone => ?_⟩
  · obtain ⟨t, run, answered, only⟩ :=
      take_of_reply rfl ready passes (claimBody_refused operands (if_neg (Bool.eq_false_iff.1 noWait)) low)
    refine ⟨t, run, _, _, ?_, namesResource_naming s p _ r, answered, only⟩
    rw [claimRefusal_taken]
    exact stoppedClaim_claimRefusal wf hr.2.1
  · have found : (s.queuedClaim p).isSome := List.find?_isSome.2 ⟨v, hv, decide_eq_true vp⟩
    obtain ⟨w, hw⟩ := Option.isSome_iff_exists.1 found
    have wp : w.port = p := by simpa using List.find?_some hw
    exact ⟨w, List.mem_of_find?_eq_some hw, wp, take_of_reply rfl ready passes
      (claimBody_limit operands (if_pos wait) low ((queuedClaim_taken s p).trans hw))⟩
  · have none_queued : (taken s p).queuedClaim p = none := by
      rw [queuedClaim_taken]
      exact List.find?_eq_none.2 fun w hw => by simpa using alone w hw
    have body := claimBody_queued operands (if_pos wait) low none_queued
    have outside : ∀ w, SameOutside (s.served p) (enqueued (taken s p) w) :=
      fun w => (restart_outside s p).trans (enqueued_outside _ w)
    refine ⟨_, take_of_body rfl ready passes body, _, namesResource_naming s p _ r, answered_of_outside f _ (outside _),
      ?_, ?_, taken_leases s p, taken_offers s p, taken_offerCounter s p, restart_only s p, taken_field s p,
      taken_journal s p, sameRest_answer _ _ (outside _)⟩
    · show Allocated _ _ (taken s p).nextTicket
      rw [nextTicket_taken]
      exact allocated_nextTicket wf
    · exact congrArg (· ++ _) (taken_waitList s p)

end Sys2Proof.Proofs
end

section
/-! PROOFS. The bytes of a payload: rows of equal length, numbers, and fields packed into one byte (R172, R175). -/

namespace Sys2Proof.Proofs

open Sys2Proof.Machine Sys2Proof.Safety Sys2Proof.Laws

/-! ### Positions in a list of bytes -/

theorem byteAt_drop (bytes : List Byte) (n i : Nat) : byteAt (bytes.drop n) i = byteAt bytes (n + i) := by
  simp [byteAt]

theorem fieldAt_drop (bytes : List Byte) (n i len : Nat) : fieldAt (bytes.drop n) i len = fieldAt bytes (n + i) len := by
  simp [fieldAt, List.drop_drop]

/-- Rows of equal length: dropping whole rows drops their elements. -/
theorem drop_flatMap_rows {α β : Type} {width : Nat} {row : α → List β} (h : ∀ a, (row a).length = width) (l : List α)
    (n : Nat) : (l.flatMap row).drop (width * n) = (l.drop n).flatMap row := by
  induction n generalizing l with
  | zero => simp
  | succ n ih =>
    cases l with
    | nil => simp
    | cons a l =>
      rw [List.flatMap_cons, Nat.mul_succ, Nat.add_comm, ← List.drop_drop, List.drop_left' (h a), ih, List.drop_succ_cons]

/-! ### Numbers -/

theorem natOfBytes_append_singleton (bytes : List Byte) (b : Byte) :
    natOfBytes (bytes ++ [b]) = natOfBytes bytes * 256 + b.toNat := by
  simp [natOfBytes]

theorem length_bytesOfNat (k n : Nat) : (bytesOfNat k n).length = k := by
  induction k generalizing n with
  | zero => rfl
  | succ k ih => simp [bytesOfNat, ih]

/-- A number spelled in `k` bytes and read back. -/
theorem natOfBytes_bytesOfNat (k n : Nat) : natOfBytes (bytesOfNat k n) = n % 256 ^ k := by
  induction k generalizing n with
  | zero => simp [bytesOfNat, natOfBytes, Nat.mod_one]
  | succ k ih =>
    have split : n % 256 ^ (k + 1) = n % 256 + 256 * (n / 256 % 256 ^ k) := by rw [Nat.pow_succ', Nat.mod_mul]
    have last : (BitVec.ofNat 8 n).toNat = n % 256 := BitVec.toNat_ofNat n 8
    rw [bytesOfNat, natOfBytes_append_singleton, ih, last, split]
    omega

/-! ### Fields of one byte -/

/-- A field above the bits of the rest: the byte's value is the sum. -/
theorem toNat_shift_or {a b : Byte} {n : Nat} (low : b.toNat < 2 ^ n) (high : 2 ^ n * a.toNat < 256) :
    (a <<< n ||| b).toNat = 2 ^ n * a.toNat + b.toNat := by
  rw [BitVec.toNat_or, BitVec.toNat_shiftLeft, Nat.shiftLeft_eq, Nat.mul_comm, Nat.mod_eq_of_lt high,
    ← Nat.two_pow_add_eq_or_of_lt low]

/-- Four fields of two bits, the highest first: the layout of an entry of LEASES (R176). -/
theorem toNat_entryFields {a b c d : Byte} (ha : a.toNat < 4) (hb : b.toNat < 4) (hc : c.toNat < 4) (hd : d.toNat < 4) :
    (a <<< 6 ||| b <<< 4 ||| c <<< 2 ||| d).toNat = 64 * a.toNat + 16 * b.toNat + 4 * c.toNat + d.toNat := by
  have h2 : (c <<< 2 ||| d).toNat = 2 ^ 2 * c.toNat + d.toNat := toNat_shift_or (by omega) (by omega)
  have h4 : (b <<< 4 ||| (c <<< 2 ||| d)).toNat = 2 ^ 4 * b.toNat + (c <<< 2 ||| d).toNat :=
    toNat_shift_or (by omega) (by omega)
  have h6 : (a <<< 6 ||| (b <<< 4 ||| (c <<< 2 ||| d))).toNat = 2 ^ 6 * a.toNat + (b <<< 4 ||| (c <<< 2 ||| d)).toNat :=
    toNat_shift_or (by omega) (by omega)
  rw [BitVec.or_assoc, BitVec.or_assoc, h6, h4, h2]
  omega

/-- Five fields, the lowest first: the layout of a line in READ LINES (R176). -/
theorem toNat_lineFields {a b c d e : Byte} (ha : a.toNat < 2) (hb : b.toNat < 2) (hc : c.toNat < 4) (hd : d.toNat < 2)
    (he : e.toNat < 2) :
    (a ||| b <<< 1 ||| c <<< 2 ||| d <<< 4 ||| e <<< 5).toNat =
      a.toNat + 2 * b.toNat + 4 * c.toNat + 16 * d.toNat + 32 * e.toNat := by
  have h1 : (b <<< 1 ||| a).toNat = 2 ^ 1 * b.toNat + a.toNat := toNat_shift_or (by omega) (by omega)
  have h2 : (c <<< 2 ||| (b <<< 1 ||| a)).toNat = 2 ^ 2 * c.toNat + (b <<< 1 ||| a).toNat :=
    toNat_shift_or (by omega) (by omega)
  have h4 : (d <<< 4 ||| (c <<< 2 ||| (b <<< 1 ||| a))).toNat = 2 ^ 4 * d.toNat + (c <<< 2 ||| (b <<< 1 ||| a)).toNat :=
    toNat_shift_or (by omega) (by omega)
  rw [BitVec.or_comm a, BitVec.or_comm _ (c <<< 2), BitVec.or_comm _ (d <<< 4), BitVec.or_comm _ (e <<< 5),
    toNat_shift_or (by omega) (by omega), h4, h2, h1]
  omega

end Sys2Proof.Proofs
end

section
/-! PROOFS. LEASES and READ LINES (R25, R87, R176). -/

namespace Sys2Proof.Proofs

open Sys2Proof.Machine Sys2Proof.Safety Sys2Proof.Laws

/-! ### The first byte of an entry of LEASES -/

/-- The port field of an entry: 3 for none. -/
def namedCode (st : LeaseState) : Byte :=
  match st.named with
  | some p => portCode p
  | none => 3

/-- The slot field of an entry: 0 when it is not OFFERED. -/
def slotCode (s : State) (st : LeaseState) : Byte :=
  match st with
  | .offered _ id => BitVec.ofNat 8 (s.offerSlot id)
  | .free | .held _ | .orphaned _ => 0

theorem leaseByte_eq (s : State) (r : Resource) :
    s.leaseByte r =
      leaseStateCode (s.entry r).state <<< 6 ||| namedCode (s.entry r).state <<< 4 |||
        failsafeCode (s.entry r).failsafe <<< 2 ||| slotCode s (s.entry r).state := by
  unfold State.leaseByte namedCode slotCode
  rfl

theorem toNat_leaseStateCode_lt (st : LeaseState) : (leaseStateCode st).toNat < 4 := by cases st <;> simp [leaseStateCode]

theorem toNat_failsafeCode_lt (v : Failsafe) : (failsafeCode v).toNat < 4 := by cases v <;> decide

theorem toNat_portCode_lt (p : Port) : (portCode p).toNat < 4 := by cases p <;> decide

theorem toNat_namedCode_lt (st : LeaseState) : (namedCode st).toNat < 4 := by
  unfold namedCode
  split
  · exact toNat_portCode_lt _
  · decide

/-- The four fields of an entry's first byte add up. -/
theorem toNat_leaseByte {s : State} {r : Resource} (slot : (slotCode s (s.entry r).state).toNat < 4) :
    (s.leaseByte r).toNat =
      64 * (leaseStateCode (s.entry r).state).toNat + 16 * (namedCode (s.entry r).state).toNat +
        4 * (failsafeCode (s.entry r).failsafe).toNat + (slotCode s (s.entry r).state).toNat := by
  rw [leaseByte_eq,
    toNat_entryFields (toNat_leaseStateCode_lt _) (toNat_namedCode_lt _) (toNat_failsafeCode_lt _) slot]

/-! ### The offer slots -/

theorem length_offerSlots (s : State) : s.offerSlots.length = 4 := by simp [State.offerSlots, Config.offerCapacity]

theorem byteAt_offerSlots (s : State) {i : Nat} (h : i < 4) :
    byteAt s.offerSlots i = ((s.offers[i]?).map Offer.id).getD 0 := by
  simp only [byteAt, State.offerSlots, Config.offerCapacity, List.getD_eq_getElem?_getD, List.getElem?_map,
    List.getElem?_range h, Option.map_some, Option.getD_some]
  cases s.offers[i]? <;> rfl

/-- An OFFERED entry's offer stands in the slot that the entry names (R45, R176). -/
theorem offerSlot_spec {s : State} {r : Resource} {q : Port} {id : Byte} (wf : OffersWf s)
    (h : (s.entry r).state = .offered q id) :
    s.offerSlot id < 4 ∧ byteAt s.offerSlots (s.offerSlot id) = id := by
  obtain ⟨few, -, -, offered⟩ := wf
  obtain ⟨o, mem, same, -⟩ := offered r q id h
  have inside : s.offerSlot id < s.offers.length := List.findIdx_lt_length_of_exists ⟨o, mem, decide_eq_true same⟩
  have slot : s.offerSlot id < 4 := inside.trans_le few
  refine ⟨slot, ?_⟩
  have found : (s.offers[s.offerSlot id]).id = id :=
    of_decide_eq_true (List.findIdx_getElem (p := fun o : Offer => decide (o.id = id)) (w := inside))
  simp [byteAt_offerSlots s slot, inside, found]

theorem toNat_slotCode_lt {s : State} (wf : OffersWf s) (r : Resource) : (slotCode s (s.entry r).state).toNat < 4 := by
  cases h : (s.entry r).state with
  | offered q id =>
    have := (offerSlot_spec wf h).1
    simp only [slotCode, BitVec.toNat_ofNat]
    omega
  | free => simp [slotCode]
  | held q => simp [slotCode]
  | orphaned q => simp [slotCode]

/-- An entry's first byte, taken apart into its fields (R25, R176). -/
theorem leaseByte_fields {s : State} (wf : OffersWf s) (r : Resource) :
    (s.leaseByte r).toNat / 64 = (leaseStateCode (s.entry r).state).toNat ∧
      (s.leaseByte r).toNat / 16 % 4 = (namedCode (s.entry r).state).toNat ∧
      (s.leaseByte r).toNat / 4 % 4 = (failsafeCode (s.entry r).failsafe).toNat ∧
      (s.leaseByte r).toNat % 4 = (slotCode s (s.entry r).state).toNat := by
  have slot := toNat_slotCode_lt wf r
  have failsafe := toNat_failsafeCode_lt (s.entry r).failsafe
  have named := toNat_namedCode_lt (s.entry r).state
  rw [toNat_leaseByte slot]
  omega

theorem slotCode_of_offered {s : State} {r : Resource} {q : Port} {id : Byte} (wf : OffersWf s)
    (h : (s.entry r).state = .offered q id) : (slotCode s (s.entry r).state).toNat = s.offerSlot id := by
  have slot := (offerSlot_spec wf h).1
  simp only [h, slotCode, BitVec.toNat_ofNat]
  omega

theorem slotCode_of_not_offered {s : State} {st : LeaseState} (h : ∀ q id, st ≠ .offered q id) : slotCode s st = 0 := by
  cases st with
  | offered q id => exact absurd rfl (h q id)
  | free => rfl
  | held q => rfl
  | orphaned q => rfl

/-! ### The payload of LEASES -/

/-- The three bytes of an entry. -/
def leaseRow (s : State) (r : Resource) : List Byte := s.leaseByte r :: bytesOfNat 2 (s.entry r).generation.toNat

theorem length_leaseRow (s : State) (r : Resource) : (leaseRow s r).length = 3 := by
  simp [leaseRow, length_bytesOfNat]

theorem leasesPayload_eq (s : State) : s.leasesPayload = (List.finRange 36).flatMap (leaseRow s) ++ s.offerSlots := rfl

theorem length_leaseRows (s : State) : ((List.finRange 36).flatMap (leaseRow s)).length = 108 := by
  simp [List.length_flatMap, length_leaseRow]

theorem length_leasesPayload (s : State) : s.leasesPayload.length = 112 := by
  rw [leasesPayload_eq, List.length_append, length_leaseRows, length_offerSlots]

theorem leasesPayload_drop_row (s : State) (r : Resource) :
    ∃ rest, s.leasesPayload.drop (3 * r.val) = leaseRow s r ++ rest := by
  have here : (List.finRange 36).drop r.val = r :: (List.finRange 36).drop (r.val + 1) := by
    simpa using List.drop_eq_getElem_cons (l := List.finRange 36) (i := r.val) (by simp)
  rw [leasesPayload_eq, List.drop_append_of_le_length (by rw [length_leaseRows]; omega),
    drop_flatMap_rows (length_leaseRow s), here, List.flatMap_cons, List.append_assoc]
  exact ⟨_, rfl⟩

theorem leasesPayload_drop_slots (s : State) : s.leasesPayload.drop 108 = s.offerSlots := by
  rw [leasesPayload_eq, List.drop_left' (length_leaseRows s)]

theorem byteAt_leasesPayload_entry (s : State) (r : Resource) :
    byteAt s.leasesPayload (3 * r.val) = s.leaseByte r := by
  obtain ⟨rest, row⟩ := leasesPayload_drop_row s r
  rw [← Nat.add_zero (3 * r.val), ← byteAt_drop, row]
  rfl

theorem fieldAt_leasesPayload_generation (s : State) (r : Resource) :
    fieldAt s.leasesPayload (3 * r.val + 1) 2 = (s.entry r).generation.toNat := by
  obtain ⟨rest, row⟩ := leasesPayload_drop_row s r
  have bytes : ((leaseRow s r ++ rest).drop 1).take 2 = bytesOfNat 2 (s.entry r).generation.toNat :=
    List.take_left' (length_bytesOfNat 2 _)
  rw [← fieldAt_drop, row, fieldAt, bytes, natOfBytes_bytesOfNat]
  exact Nat.mod_eq_of_lt (s.entry r).generation.isLt

theorem byteAt_leasesPayload_slot (s : State) (i : Nat) : byteAt s.leasesPayload (108 + i) = byteAt s.offerSlots i := by
  rw [← byteAt_drop, leasesPayload_drop_slots]

theorem leasesPayload_taken (s : State) (p : Port) : (taken s p).leasesPayload = s.leasesPayload := by
  simp only [State.leasesPayload, State.leaseByte, State.offerSlots, State.offerSlot, taken_entry, taken_offers]

/-! ### The byte of a line -/

theorem toNat_levelCode_lt (v : Level) : (levelCode v).toNat < 2 := by cases v <;> decide

theorem toNat_driveCode_lt (d : Drive) : (driveCode d).toNat < 4 := by cases d <;> decide

theorem toNat_directionCode_lt (d : Direction) : (directionCode d).toNat < 2 := by cases d <;> decide

theorem toNat_boolCode (b : Bool) : (boolCode b).toNat = if b then 1 else 0 := by cases b <;> rfl

theorem isFaulted_iff (m : Monitor) : isFaulted m = true ↔ m = .faulted := by cases m <;> simp [isFaulted]

/-- The five fields of a line's byte add up. -/
theorem toNat_cellByte (c : LineCell) :
    (cellByte c).toNat =
      (levelCode c.raw).toNat + 2 * (levelCode c.filtered).toNat + 4 * (driveCode c.drive).toNat +
        16 * (directionCode c.direction).toNat + 32 * (if c.monitor = .faulted then 1 else 0) := by
  have flag : (boolCode (isFaulted c.monitor)).toNat < 2 := by rw [toNat_boolCode]; split <;> decide
  rw [cellByte, toNat_lineFields (toNat_levelCode_lt _) (toNat_levelCode_lt _) (toNat_driveCode_lt _)
    (toNat_directionCode_lt _) flag, toNat_boolCode]
  simp only [isFaulted_iff]

theorem length_linesPayload (s : State) : s.linesPayload.length = 32 := by simp [State.linesPayload]

theorem byteAt_linesPayload (s : State) (l : Line) : byteAt s.linesPayload l.val = cellByte (s.line l) := by
  simp [byteAt, State.linesPayload]

theorem linesPayload_taken (s : State) (p : Port) : (taken s p).linesPayload = s.linesPayload := by
  simp only [State.linesPayload, taken_line]

/-- Settles O12: each payload is a reply of its body, read back field by field. -/
theorem leasesAndLinesRead : Obligations.LeasesAndLinesRead := by
  refine ⟨fun s p f ready passes => ?_, fun s p f ready passes => ?_⟩
  · obtain ⟨t, run, answered, only⟩ := take_of_reply (body := leasesBody) rfl ready passes rfl
    rw [leasesPayload_taken] at answered
    refine ⟨t, run, _, answered, only, length_leasesPayload s, fun wf r => ?_, fun i => ?_⟩
    · obtain ⟨state, named, failsafe, slot⟩ := leaseByte_fields wf r
      rw [byteAt_leasesPayload_entry, fieldAt_leasesPayload_generation, state, named, failsafe, slot]
      refine ⟨rfl, ?_, rfl, rfl, fun q id offered => ?_, fun notOffered => ?_⟩
      · cases (s.entry r).state <;> rfl
      · rw [slotCode_of_offered wf offered, byteAt_leasesPayload_slot, (offerSlot_spec wf offered).2]
      · rw [slotCode_of_not_offered notOffered]
        rfl
    · rw [byteAt_leasesPayload_slot, byteAt_offerSlots s i.isLt]
  · obtain ⟨t, run, answered, only⟩ := take_of_reply (body := readLinesBody) rfl ready passes rfl
    rw [linesPayload_taken] at answered
    refine ⟨t, run, _, answered, only, length_linesPayload s, fun l => ?_⟩
    rw [byteAt_linesPayload, toNat_cellByte]

end Sys2Proof.Proofs
end

section
/-! PROOFS. A request as one command: its body, and what the session check makes of it (R31, R161). -/

namespace Sys2Proof.Proofs

open Sys2Proof.Machine Sys2Proof.Safety Sys2Proof.Laws

/-- A request's own meaning, after its checks of code, length and session. -/
def bodyOf : Request → State → Port → List Byte → State × Reply
  | .status => statusBody
  | .openSession => openBody
  | .closeSession => closeBody
  | .ping => pingBody
  | .time => timeBody
  | .claim => claimBody
  | .cancelClaim => cancelBody
  | .release => releaseBody
  | .setFailsafe => setFailsafeBody
  | .leases => leasesBody
  | .offer => offerBody
  | .accept => settleBody Offer.target acceptFound
  | .decline => settleBody Offer.target declineFound
  | .withdraw => settleBody Offer.offerer withdrawFound
  | .setDirection => setDirectionBody
  | .writeLines => writeLinesBody
  | .readLines => readLinesBody
  | .configureEngine => configureBody
  | .startEngine => startBody
  | .stopEngine => stopBody
  | .engineStatus => engineStatusBody
  | .subscribe => subscribeBody
  | .fetch => fetchBody
  | .setAttention => attentionBody
  | .setProfile => setProfileBody
  | .getProfile => getProfileBody

/-- Each request command is the taking of its request around its body. -/
theorem exec_commandOf (s : State) (rq : Request) (p : Port) :
    exec (commandOf p rq) s = s.awake fun s => s.take rq p (bodyOf rq) := by
  cases rq <;> rfl

theorem hasSessionCheck_of_ne {rq : Request} (status : rq ≠ .status) (time : rq ≠ .time) (opening : rq ≠ .openSession) :
    hasSessionCheck rq = true := by
  unfold hasSessionCheck
  split
  · exact absurd rfl status
  · exact absurd rfl time
  · exact absurd rfl opening
  · rfl

/-- The answer alone, with the Arbiter's pointer, changes nothing beside the port. -/
theorem nothingBeside_answer_served (s : State) (p : Port) (tag : Byte) (rep : Reply) :
    NothingBeside s ((s.served p).answer p tag rep) := answer_beside (s.served p) p tag rep

theorem sessionCheck_of_refused {s : State} {p : Port} {f : Frame} {st : Status} (h : RefusedBySession s p f st) :
    s.sessionCheck p f.session = some st := by
  unfold State.sessionCheck
  rcases h with ⟨closed, rfl⟩ | ⟨lapsed, rfl⟩ | ⟨isOpen, other, rfl⟩
  · rw [closed]
  · rw [lapsed]
  · cases state : (s.session p).state with
    | opened o => exact if_neg other
    | closed => simp [State.isOpen, State.openFields, state] at isOpen
    | lapsed => rfl

section Requests

variable {s : State} {rq : Request} {p : Port} {f : Frame} {body : State → Port → List Byte → State × Reply} {rep : Reply}

/-- A request that the session check refuses is answered with the check's status, and nothing else happens (R31). -/
theorem take_of_refused {st : Status} (hc : hasSessionCheck rq = true) (h : Ready s rq p f)
    (refused : RefusedBySession s p f st) :
    ∃ t, (s.awake fun s => s.take rq p body) = .next t ∧ Answered s t p f st [] ∧ NothingBeside s t := by
  refine ⟨(s.served p).answer p f.tag (bare st), ?_, answered_of_outside f (bare st) (.refl _),
    nothingBeside_answer_served s p f.tag (bare st)⟩
  rw [ready_awake h, take_refused body hc h (sessionCheck_of_refused refused)]

/-- A request without a session check leaves what its body leaves, with the body's reply placed in the port. -/
theorem take_of_free_body {v : State} (hc : hasSessionCheck rq = false) (h : Ready s rq p f)
    (hb : body (s.served p) p f.payload = (v, rep)) :
    (s.awake fun s => s.take rq p body) = .next (v.answer p f.tag rep) := by
  rw [ready_awake h, take_free body hc h, hb]

/-- A body without a session check that only replies: the request is answered, and nothing else happens. -/
theorem take_of_free_reply (hc : hasSessionCheck rq = false) (h : Ready s rq p f)
    (hb : body (s.served p) p f.payload = (s.served p, rep)) :
    ∃ t, (s.awake fun s => s.take rq p body) = .next t ∧ Answered s t p f rep.status rep.payload ∧ NothingBeside s t :=
  ⟨_, take_of_free_body hc h hb, answered_of_outside f rep (.refl _), nothingBeside_answer_served s p f.tag rep⟩

end Requests

end Sys2Proof.Proofs
end

section
/-! PROOFS. What the bodies of requests can move in a session record: held counts, journal counters and delivery states,
and for SUBSCRIBE and SET ATTENTION fields of their own; never the keepalive timer (R30). -/

namespace Sys2Proof.Proofs

open Sys2Proof.Machine Sys2Proof.Safety Sys2Proof.Laws

/-! ### Only held counts, journal counters and delivery states moved -/

/-- Of the session records, only held counts, journal counters and delivery states moved. -/
def OnlyCountsMoved (s t : State) : Prop := ∀ q, besideCounts (t.session q) = besideCounts (s.session q)

theorem OnlyCountsMoved.refl (s : State) : OnlyCountsMoved s s := fun _ => rfl

theorem OnlyCountsMoved.trans {s t u : State} (h : OnlyCountsMoved s t) (k : OnlyCountsMoved t u) : OnlyCountsMoved s u :=
  fun q => (k q).trans (h q)

theorem OnlyCountsMoved.foldl {α : Type} {f : State → α → State} (h : ∀ s a, OnlyCountsMoved s (f s a)) (l : List α)
    (s : State) : OnlyCountsMoved s (l.foldl f s) := by
  induction l generalizing s with
  | nil => exact .refl s
  | cons a l ih => exact (h s a).trans (ih _)

theorem OnlyCountsMoved.of_sessions {s t : State} (h : t.sessions = s.sessions) : OnlyCountsMoved s t :=
  fun q => congrArg (fun x => besideCounts (PerPort.get x q)) h

theorem OnlyCountsMoved.of_journalMoved {s t : State} (h : OnlyJournalMoved s t) : OnlyCountsMoved s t :=
  fun q => congrArg (fun x : Session => { x with heldCount := 0 }) (h q)

theorem OnlyCountsMoved.of_happening {s t : State} {e : EngineNo} (h : EngineHappening s t e) : OnlyCountsMoved s t := by
  obtain ⟨-, moved, -⟩ := h
  exact .of_journalMoved moved

/-! ### The shared operations -/

theorem withSession_countsMoved {s : State} {p : Port} {f : Session → Session}
    (h : besideCounts (f (s.session p)) = besideCounts (s.session p)) : OnlyCountsMoved s (s.withSession p f) := by
  intro q
  rw [State.session_withSession]
  split
  next same => rw [h, same]
  next => rfl

theorem withMark_countsMoved (s : State) (p : Port) (mark : Option Seq) :
    OnlyCountsMoved s (s.withOpen p fun o => { o with mark := mark }) := by
  unfold State.withOpen
  split
  next o state => exact withSession_countsMoved (by simp [besideCounts, sessionFrame, state])
  next => exact .refl s
  next => exact .refl s

theorem append_countsMoved (s : State) (ps : PortSet) (t : Count) (b : RecordBody) :
    OnlyCountsMoved s (s.append ps t b) := .of_journalMoved (append_moved s ps t b)

theorem catchUp_countsMoved (s : State) (e : EngineNo) : OnlyCountsMoved s (s.catchUp e) :=
  .of_happening (catchUp_happening s e)

theorem catchUpAll_countsMoved (s : State) (es : List EngineNo) : OnlyCountsMoved s (s.catchUpAll es) :=
  .foldl catchUp_countsMoved es s

theorem stopEngine_countsMoved (s : State) (o : EngineOutcome) (e : EngineNo) : OnlyCountsMoved s (s.stopEngine o e) :=
  .of_happening (stopEngine_happening s o e)

theorem gain_countsMoved (s : State) (p : Port) (n : Nat) : OnlyCountsMoved s (s.gain p n) := withSession_countsMoved rfl

theorem lose_countsMoved (s : State) (p : Port) (n : Nat) : OnlyCountsMoved s (s.lose p n) := withSession_countsMoved rfl

theorem grant_countsMoved (s : State) (p : Port) (set : ResourceSet) : OnlyCountsMoved s (s.grant p set) := by
  obtain ⟨-, -, -, own, other⟩ := grant_rest s p set
  intro q
  by_cases hq : q = p
  · rw [hq, own]
    rfl
  · rw [other q hq]

theorem letGo_countsMoved (s : State) (set : ResourceSet) (a : LeaseState) : OnlyCountsMoved s (s.letGo set a) := by
  obtain ⟨-, -, sessions, -⟩ := letGo_rest s set a
  exact .of_sessions sessions

theorem grantQueued_countsMoved (s : State) (w : WaitEntry) : OnlyCountsMoved s (s.grantQueued w) := by
  unfold State.grantQueued
  refine ((grant_countsMoved s w.port w.set).trans (.of_sessions ?_)).trans (append_countsMoved _ _ _ _)
  simp [State.removeTicket]

theorem examineEntry_countsMoved (s : State) (w : WaitEntry) : OnlyCountsMoved s (s.examineEntry w) := by
  unfold State.examineEntry
  split
  · exact grantQueued_countsMoved s w
  · exact .refl s

theorem examine_countsMoved (s : State) : OnlyCountsMoved s s.examine := .foldl examineEntry_countsMoved _ s

theorem returnOffer_countsMoved (s : State) (o : Offer) : OnlyCountsMoved s (s.returnOffer o) := by
  unfold State.returnOffer
  refine (catchUpAll_countsMoved s (enginesOf o.set)).trans (.of_sessions ?_)
  simp [State.removeOffer]

theorem endOffer_countsMoved (s : State) (o : Offer) (out : OfferOutcome) (ps : PortSet) :
    OnlyCountsMoved s (s.endOffer o out ps) := by
  unfold State.endOffer State.appendSettled
  exact ((returnOffer_countsMoved s o).trans (append_countsMoved _ _ _ _)).trans (examine_countsMoved _)

theorem makeOffer_countsMoved (s : State) (p : Port) (o : OfferOperands) : OnlyCountsMoved s (s.makeOffer p o) := by
  unfold State.makeOffer
  dsimp only
  refine (((catchUpAll_countsMoved s (enginesOf o.set)).trans (.of_sessions ?_)).trans (append_countsMoved _ _ _ _)).trans
    (examine_countsMoved _)
  simp

theorem acceptOffer_countsMoved (s : State) (o : Offer) : OnlyCountsMoved s (s.acceptOffer o) := by
  unfold State.acceptOffer State.appendSettled
  dsimp only
  refine .trans ?_ (append_countsMoved _ _ _ _)
  refine .trans ?_ (.of_sessions (State.redrive_sessions _ _))
  refine .trans ?_ (gain_countsMoved _ _ _)
  refine .trans ?_ (lose_countsMoved _ _ _)
  refine (catchUpAll_countsMoved s (enginesOf o.set)).trans (.of_sessions ?_)
  simp [State.removeOffer]

theorem releaseSet_countsMoved (s : State) (p : Port) (set : ResourceSet) : OnlyCountsMoved s (s.releaseSet p set) := by
  unfold State.releaseSet
  dsimp only
  exact ((((catchUpAll_countsMoved s (enginesOf set)).trans (.foldl (fun s e => stopEngine_countsMoved s .stopped e) _ _)).trans
    (letGo_countsMoved _ _ _)).trans (lose_countsMoved _ _ _)).trans (examine_countsMoved _)

theorem changeProfile_countsMoved (s : State) (p : Port) (x : Profile) : OnlyCountsMoved s (s.changeProfile p x) := by
  unfold State.changeProfile
  refine (OnlyCountsMoved.of_sessions ?_).trans (append_countsMoved _ _ _ _)
  simp [State.enterMonitors, State.reseed]

theorem state_of_openFields {s : State} {p : Port} {o : OpenSession} (h : s.openFields p = some o) :
    (s.session p).state = .opened o := by
  unfold State.openFields at h
  split at h <;> simp_all

theorem acknowledge_countsMoved {s : State} {p : Port} {o : OpenSession} (n : Seq) (h : s.openFields p = some o) :
    OnlyCountsMoved s (s.acknowledge p o n) := by
  unfold State.acknowledge
  dsimp only
  refine .trans ?_ (.of_sessions (State.reattend_sessions _ _))
  refine .trans (.of_sessions (State.withJournal_sessions s _)) (withSession_countsMoved ?_)
  simp [besideCounts, sessionFrame, state_of_openFields h]

theorem deliver_countsMoved (s : State) (p : Port) (m : Nat) : OnlyCountsMoved s (s.deliver p m).1 := by
  unfold State.deliver
  split
  · exact .refl s
  · dsimp only
    refine .trans ?_ (.of_sessions (State.reattend_sessions _ _))
    refine (withMark_countsMoved s p _).trans (withSession_countsMoved ?_)
    rfl

/-! ### The bodies -/

theorem claimBody_countsMoved (s : State) (p : Port) (pl : List Byte) : OnlyCountsMoved s (claimBody s p pl).1 := by
  unfold claimBody
  split
  · exact .refl s
  next o _ =>
    split
    · unfold grantNow
      dsimp only
      split
      · exact grant_countsMoved s p o.set
      · exact (grant_countsMoved s p o.set).trans (examine_countsMoved _)
    · split
      · exact .refl s
      · unfold queueClaim
        split <;> exact .of_sessions rfl

theorem cancelBody_countsMoved (s : State) (p : Port) (pl : List Byte) : OnlyCountsMoved s (cancelBody s p pl).1 := by
  unfold cancelBody
  split
  · exact .refl s
  · split
    · exact .refl s
    · split <;> exact .of_sessions rfl

theorem releaseBody_countsMoved (s : State) (p : Port) (pl : List Byte) : OnlyCountsMoved s (releaseBody s p pl).1 := by
  unfold releaseBody
  split
  · exact .refl s
  · split
    · exact .refl s
    · exact releaseSet_countsMoved s p _

theorem setFailsafeBody_countsMoved (s : State) (p : Port) (pl : List Byte) :
    OnlyCountsMoved s (setFailsafeBody s p pl).1 := by
  unfold setFailsafeBody
  split
  · exact .refl s
  · split
    · exact .refl s
    · exact .of_sessions (by simp [State.setFailsafes])

theorem offerBody_countsMoved (s : State) (p : Port) (pl : List Byte) : OnlyCountsMoved s (offerBody s p pl).1 := by
  unfold offerBody
  split
  · exact .refl s
  · split
    · exact .refl s
    · split
      · exact .refl s
      · split
        · exact .refl s
        · split
          · exact .refl s
          · exact makeOffer_countsMoved s p _

/-- A settling request moves what the settling of its offer moves. -/
theorem settleBody_countsMoved (role : Offer → Port) {settle : State → Offer → State × Reply}
    (h : ∀ s o, OnlyCountsMoved s (settle s o).1) (s : State) (p : Port) (pl : List Byte) :
    OnlyCountsMoved s (settleBody role settle s p pl).1 := by
  unfold settleBody
  split
  · exact .refl s
  · split
    · exact .refl s
    · split
      · exact h s _
      · exact .refl s

theorem setDirectionBody_countsMoved (s : State) (p : Port) (pl : List Byte) :
    OnlyCountsMoved s (setDirectionBody s p pl).1 := by
  unfold setDirectionBody
  split
  · exact .refl s
  · split
    · exact .refl s
    · split
      · exact .refl s
      · exact .of_sessions (by simp [State.setDirections])

theorem writeLinesBody_countsMoved (s : State) (p : Port) (pl : List Byte) :
    OnlyCountsMoved s (writeLinesBody s p pl).1 := by
  unfold writeLinesBody
  split
  · exact .refl s
  · split
    · exact .refl s
    · exact .of_sessions (by simp [State.writeValues])

theorem configureBody_countsMoved (s : State) (p : Port) (pl : List Byte) : OnlyCountsMoved s (configureBody s p pl).1 := by
  unfold configureBody
  split
  · exact .refl s
  next e c _ =>
    split
    · exact .refl s
    · dsimp only
      split
      · exact catchUp_countsMoved s e
      · exact (catchUp_countsMoved s e).trans (.of_sessions rfl)

theorem startReady_countsMoved (s : State) (e : EngineNo) : OnlyCountsMoved s (startReady s e).1 := by
  unfold startReady
  split
  · exact .refl s
  · split
    · exact .of_sessions (by simp [State.startRun])
    · split
      · exact .of_sessions (by simp)
      · exact .refl s

theorem startBody_countsMoved (s : State) (p : Port) (pl : List Byte) : OnlyCountsMoved s (startBody s p pl).1 := by
  unfold startBody
  split
  · exact .refl s
  next e _ =>
    split
    · exact .refl s
    · split
      · exact .refl s
      · exact (catchUp_countsMoved s e).trans (startReady_countsMoved _ e)

theorem stopBody_countsMoved (s : State) (p : Port) (pl : List Byte) : OnlyCountsMoved s (stopBody s p pl).1 := by
  unfold stopBody
  split
  · exact .refl s
  next e _ =>
    split
    · exact .refl s
    · exact (catchUp_countsMoved s e).trans (stopEngine_countsMoved _ _ e)

theorem engineStatusBody_countsMoved (s : State) (p : Port) (pl : List Byte) :
    OnlyCountsMoved s (engineStatusBody s p pl).1 := by
  unfold engineStatusBody
  split
  · exact .refl s
  · exact catchUp_countsMoved s _

theorem fetchBody_countsMoved (s : State) (p : Port) (pl : List Byte) : OnlyCountsMoved s (fetchBody s p pl).1 := by
  unfold fetchBody
  split
  next f o _ fields =>
    split
    · exact deliver_countsMoved s p _
    · split
      · exact (acknowledge_countsMoved _ fields).trans (deliver_countsMoved _ p _)
      · exact .refl s
  · exact .refl s
  · exact .refl s

theorem setProfileBody_countsMoved (s : State) (p : Port) (pl : List Byte) :
    OnlyCountsMoved s (setProfileBody s p pl).1 := by
  unfold setProfileBody
  split
  · exact .refl s
  · split
    · exact changeProfile_countsMoved s p _
    · exact .refl s

/-! ### The keepalive timer -/

/-- The period and the time left of a session's keepalive timer, while it is OPEN (R30). -/
def keepalive (x : Session) : Option (Nat × Nat) :=
  match x.state with
  | .opened o => some (o.period, o.remaining)
  | .closed => none
  | .lapsed => none

/-- No keepalive timer moved. -/
def SameKeepalive (s t : State) : Prop := ∀ q, keepalive (t.session q) = keepalive (s.session q)

theorem keepalive_besideCounts (x : Session) : keepalive (besideCounts x) = keepalive x := by
  cases h : x.state <;> simp [keepalive, besideCounts, sessionFrame, h]

theorem OnlyCountsMoved.sameKeepalive {s t : State} (h : OnlyCountsMoved s t) : SameKeepalive s t := fun q => by
  rw [← keepalive_besideCounts, h q, keepalive_besideCounts]

/-- A change of other fields of an OPEN session than its timer. -/
theorem withOpen_sameKeepalive (s : State) (p : Port) {f : OpenSession → OpenSession}
    (h : ∀ o, (f o).period = o.period ∧ (f o).remaining = o.remaining) : SameKeepalive s (s.withOpen p f) := by
  intro q
  rw [State.session_withOpen]
  split
  next same =>
    subst same
    cases state : (s.session q).state with
    | opened o => simp [keepalive, state, h]
    | closed => rfl
    | lapsed => rfl
  next => rfl

theorem subscribeBody_sameKeepalive (s : State) (p : Port) (pl : List Byte) : SameKeepalive s (subscribeBody s p pl).1 := by
  unfold subscribeBody
  split
  · exact fun _ => rfl
  · exact withOpen_sameKeepalive s p fun _ => ⟨rfl, rfl⟩

theorem attentionBody_sameKeepalive (s : State) (p : Port) (pl : List Byte) : SameKeepalive s (attentionBody s p pl).1 := by
  unfold attentionBody
  split
  · exact fun _ => rfl
  · exact withOpen_sameKeepalive s p fun _ => ⟨rfl, rfl⟩

/-- The body of a request with a session check moves no keepalive timer, unless it closes the session. -/
theorem bodyOf_sameKeepalive {rq : Request} (check : hasSessionCheck rq = true) (staysOpen : rq ≠ .closeSession) (s : State)
    (p : Port) (pl : List Byte) : SameKeepalive s (bodyOf rq s p pl).1 := by
  cases rq with
  | status | openSession | time => cases check
  | closeSession => contradiction
  | ping | leases | readLines | getProfile => exact fun _ => rfl
  | claim => exact (claimBody_countsMoved s p pl).sameKeepalive
  | cancelClaim => exact (cancelBody_countsMoved s p pl).sameKeepalive
  | release => exact (releaseBody_countsMoved s p pl).sameKeepalive
  | setFailsafe => exact (setFailsafeBody_countsMoved s p pl).sameKeepalive
  | offer => exact (offerBody_countsMoved s p pl).sameKeepalive
  | accept =>
    exact (settleBody_countsMoved _ (fun s o => (acceptOffer_countsMoved s o).trans (examine_countsMoved _)) s p
      pl).sameKeepalive
  | decline =>
    exact (settleBody_countsMoved _ (fun s o => endOffer_countsMoved s o .declined _) s p pl).sameKeepalive
  | withdraw =>
    exact (settleBody_countsMoved _ (fun s o => endOffer_countsMoved s o .withdrawn _) s p pl).sameKeepalive
  | setDirection => exact (setDirectionBody_countsMoved s p pl).sameKeepalive
  | writeLines => exact (writeLinesBody_countsMoved s p pl).sameKeepalive
  | configureEngine => exact (configureBody_countsMoved s p pl).sameKeepalive
  | startEngine => exact (startBody_countsMoved s p pl).sameKeepalive
  | stopEngine => exact (stopBody_countsMoved s p pl).sameKeepalive
  | engineStatus => exact (engineStatusBody_countsMoved s p pl).sameKeepalive
  | fetch => exact (fetchBody_countsMoved s p pl).sameKeepalive
  | setProfile => exact (setProfileBody_countsMoved s p pl).sameKeepalive
  | subscribe => exact subscribeBody_sameKeepalive s p pl
  | setAttention => exact attentionBody_sameKeepalive s p pl

/-! ### The session check and PING (R31, R42) -/

theorem keepalive_taken {s : State} {p : Port} {o : OpenSession} (h : s.openFields p = some o) :
    keepalive ((taken s p).session p) = some (o.period, o.period) := by
  rw [taken, (restart_only s p).1]
  simp [restarted, keepalive, state_of_openFields h]

theorem openFields_of_keepalive {s : State} {p : Port} {period remaining : Nat}
    (h : keepalive (s.session p) = some (period, remaining)) :
    ∃ o, s.openFields p = some o ∧ o.period = period ∧ o.remaining = remaining := by
  unfold keepalive at h
  cases state : (s.session p).state <;> simp_all [State.openFields]

/-- Settles O6: a refusal is an answer alone; a request that passes runs its body on the state with the timer restarted,
and no body moves a timer. -/
theorem sessionCheckAndPing : Obligations.SessionCheckAndPing := by
  intro s rq p f status time opening ready
  have check := hasSessionCheck_of_ne status time opening
  rw [exec_commandOf]
  refine ⟨fun st refused => take_of_refused check ready refused, fun passes => ?_⟩
  refine ⟨_, take_of_body check ready passes rfl, fun staysOpen o fields => ?_, ?_⟩
  · refine openFields_of_keepalive ?_
    rw [State.session_answer]
    exact (bodyOf_sameKeepalive check staysOpen (taken s p) p f.payload p).trans (keepalive_taken fields)
  · rintro rfl
    exact ⟨answered_of_outside f (bare .ok) (restart_outside s p), onlyAnswered_taken s p f.tag (bare .ok)⟩

end Sys2Proof.Proofs
end

section
/-! PROOFS. STATUS (R43). -/

namespace Sys2Proof.Proofs

open Sys2Proof.Machine Sys2Proof.Safety Sys2Proof.Laws

/-- The four error counters of a port zeroed (R43). -/
def clearedCounters (u : PortUnit) : PortUnit := { u with checkErrors := 0, overruns := 0, framingErrors := 0, resyncs := 0 }

theorem statusOperands_eq_some {pl : List Byte} {clear : Bool} (h : pl = [boolCode clear]) :
    statusOperands pl = some clear := by
  subst h
  cases clear <;> rfl

theorem statusBody_eq {s : State} {p : Port} {pl : List Byte} {clear : Bool} (h : pl = [boolCode clear]) :
    statusBody s p pl =
      (if clear then s.withPort p clearedCounters else s, { status := .ok, payload := s.statusPayload p }) := by
  simp only [statusBody, statusOperands_eq_some h]
  rfl

theorem quiet_eq (s : State) : s.quiet = decide ((∀ r, (s.entry r).state = .free) ∧ s.waitList = []) := by
  refine Bool.eq_iff_iff.2 ?_
  simp [State.quiet]

/-- The port to which a reply is given, when the latch is as it was before the request was taken. -/
theorem port_answer_self {s v : State} {p : Port} {f : Frame} {rep : Reply}
    (latch : (v.port p).overrunLatch = (s.port p).overrunLatch) :
    (v.answer p f.tag rep).port p = placed (responseTo s (v.answer p f.tag rep) p f rep.status rep.payload) (v.port p) := by
  simp only [State.answer, State.port_withPort, if_true, placeInPort_eq_placed, responseTo, ← latch]
  rfl

/-- Settles O8: the payload is that of the state before the counters are zeroed, which touches the port alone. -/
theorem statusReported : Obligations.StatusReported := by
  intro s p f ready clear payload
  simp only [← quiet_eq]
  cases clear with
  | false =>
    obtain ⟨t, run, ⟨served, own, others⟩, beside⟩ := take_of_free_reply rfl ready (statusBody_eq payload)
    exact ⟨t, run, served, others, own, beside⟩
  | true =>
    have own : ((s.served p).withPort p clearedCounters).port p = clearedCounters (s.port p) := by simp
    refine ⟨_, take_of_free_body rfl ready (statusBody_eq payload), rfl, fun q hq => ?_, ?_, ?_⟩
    · simp [State.answer, hq]
    · exact (port_answer_self (by rw [if_pos rfl, own]; rfl)).trans (congrArg (placed _) own)
    · rw [if_pos rfl, State.answer, withPort_withPort]
      exact withPort_beside (s.served p) p _

end Sys2Proof.Proofs
end

section
/-! PROOFS. OPEN SESSION without replacement (R33, R34). -/

namespace Sys2Proof.Proofs

open Sys2Proof.Machine Sys2Proof.Safety Sys2Proof.Laws

/-! ### The arguments and the refusals -/

/-- The ranges of OPEN SESSION's arguments (R33). -/
def LegalOpening (period threshold : Nat) : Prop := 10 ≤ period ∧ period ≤ 60000 ∧ 1 ≤ threshold ∧ threshold ≤ 128

section Bodies

variable {s : State} {p : Port} {pl : List Byte} {o : OpenOperands}

theorem openOperands_eq_none (h : ¬LegalOpening (fieldAt pl 0 2) (fieldAt pl 2 1)) : openOperands pl = none :=
  if_neg fun ⟨p1, p2, t1, t2, _⟩ => h ⟨p1, p2, t1, t2⟩

theorem openOperands_eq_some (h : LegalOpening (fieldAt pl 0 2) (fieldAt pl 2 1)) (flags : (byteAt pl 3).toNat ≤ 1) :
    openOperands pl =
      some { period := fieldAt pl 0 2, threshold := fieldAt pl 2 1, replace := (byteAt pl 3).getLsbD 0 } := by
  obtain ⟨p1, p2, t1, t2⟩ := h
  exact if_pos ⟨p1, p2, t1, t2, decide_eq_true (Nat.lt_succ_of_le flags)⟩

theorem openBody_badArgument (h : openOperands pl = none) : openBody s p pl = (s, bare .badArgument) := by
  simp [openBody, h]

theorem openBody_sessionOpen (h : openOperands pl = some o) (isOpen : s.isOpen p = true) (keep : o.replace = false) :
    openBody s p pl = (s, bare .sessionOpen) := by
  simp [openBody, h, isOpen, keep]

theorem openBody_opens (h : openOperands pl = some o) (notOpen : s.isOpen p = false) :
    openBody s p pl = openAndReport s p o := by
  simp [openBody, h, notOpen]

end Bodies

/-! ### The record that is opened -/

theorem session_openRecord (s : State) (p q : Port) (period threshold : Nat) :
    (s.openRecord p period threshold).session q = if q = p then opened s s p period threshold else s.session q := by
  simp only [State.openRecord, State.session_reattend, State.session_withSession]
  rfl

/-- A session that is not OPEN has no record pending (R124). -/
theorem records_eq_nil {s : State} {p : Port} (wf : JournalWf s) (notOpen : s.isOpen p = false) : s.records p = [] := by
  obtain ⟨-, interested⟩ := wf
  refine List.filter_eq_nil_iff.2 fun r mem interest => ?_
  obtain ⟨-, onlyOpen⟩ := interested r mem
  exact Bool.eq_false_iff.1 notOpen (onlyOpen p interest)

/-- Nothing pending and no loss unreported: no attention is due (R140). -/
theorem attentionDue_eq_false {s : State} {p : Port} (threshold : ∀ o, s.openFields p = some o → 1 ≤ o.threshold)
    (nothing : s.records p = []) (reported : (s.session p).unreportedLost = 0) : s.attentionDue p = false := by
  unfold State.attentionDue
  split
  · rfl
  next o fields =>
    have positive : o.threshold ≠ 0 := Nat.one_le_iff_ne_zero.1 (threshold o fields)
    simp [State.pendingCount, State.pendingNotice, nothing, reported, positive]

theorem openRecord_others (s : State) (p : Port) (period threshold : Nat) :
    (s.openRecord p period threshold).journal = s.journal ∧ (s.openRecord p period threshold).nextSeq = s.nextSeq ∧
      SameTables s (s.openRecord p period threshold) ∧ SameField s (s.openRecord p period threshold) := by
  simp [State.openRecord, SameTables, SameField]

theorem attn_openRecord_self {s : State} {p : Port} {period threshold : Nat} (legal : 1 ≤ threshold)
    (nothing : s.records p = []) : (s.openRecord p period threshold).attn.get p = false := by
  have own : (s.openRecord p period threshold).session p = opened s s p period threshold := by
    rw [session_openRecord, if_pos rfl]
  have due : (s.openRecord p period threshold).attn.get p = (s.openRecord p period threshold).attentionDue p := by
    simp only [State.openRecord, State.attn_reattend, onlyPort, PerPort.get_of, decide_true, if_true]
    rfl
  refine due.trans (attentionDue_eq_false (fun o fields => ?_) ?_ ?_)
  · rw [State.openFields, own] at fields
    cases fields
    exact legal
  · rw [State.records, (openRecord_others s p period threshold).1]
    exact nothing
  · rw [own]
    rfl

theorem attn_openRecord_other (s : State) {p q : Port} (h : q ≠ p) (period threshold : Nat) :
    (s.openRecord p period threshold).attn.get q = s.attn.get q := by
  simp [State.openRecord, onlyPort, h]

/-- Settles O9: OPEN SESSION's body refuses by its arguments first, then by an OPEN record, and opens the record
otherwise. -/
theorem sessionOpened : Obligations.SessionOpened := by
  intro s p f ready period threshold legal
  refine ⟨fun flags inRange notOpen => ?_, fun outOfRange => ?_, fun inRange isOpen keep => ?_⟩
  · have nothing : JournalWf s → (s.served p).records p = [] := fun wf => records_eq_nil wf notOpen
    have operands := openOperands_eq_some inRange flags
    obtain ⟨-, -, positive, -⟩ := inRange
    have outside := openRecord_outside (s.served p) p period threshold
    obtain ⟨journal, nextSeq, tables, field⟩ := openRecord_others (s.served p) p period threshold
    refine ⟨_, take_of_free_body rfl ready (openBody_opens operands notOpen), ?_, ?_,
      fun q hq => ?_, fun wf => ⟨?_, ?_⟩, fun q hq => ?_, journal, nextSeq, tables, field, outside.1⟩
    · have answered := answered_of_outside (s := s) f (openAndReport (s.served p) p
        { period := period, threshold := threshold, replace := (byteAt f.payload 3).getLsbD 0 }).2 outside
      rw [State.session_answer, session_openRecord, if_pos rfl]
      exact answered
    · rw [State.session_answer, session_openRecord, if_pos rfl, opened, opened, State.answer_nextSeq, nextSeq]
      rfl
    · rw [State.session_answer, session_openRecord, if_neg hq]
      rfl
    · exact congrArg List.length (nothing wf)
    · exact attn_openRecord_self positive (nothing wf)
    · exact attn_openRecord_other _ hq _ _
  · exact take_of_free_reply rfl ready (openBody_badArgument (openOperands_eq_none outOfRange))
  · have flags : (byteAt f.payload 3).toNat ≤ 1 := by simp [keep]
    exact take_of_free_reply rfl ready
      (openBody_sessionOpen (openOperands_eq_some inRange flags) isOpen (by simp [keep]))

end Sys2Proof.Proofs
end

section
/-! PROOFS. TIME and GET PROFILE (R44, R148). -/

namespace Sys2Proof.Proofs

open Sys2Proof.Machine Sys2Proof.Safety Sys2Proof.Laws

/-! ### A number built of the bits of lines (R175) -/

/-- The sum of the powers of two at which a test holds. -/
def powerSum (n : Nat) (test : Fin n → Prop) [DecidablePred test] : Nat :=
  (List.finRange n).foldl (fun m i => if test i then m + 2 ^ i.val else m) 0

theorem powerSum_succ (n : Nat) (test : Fin (n + 1) → Prop) [DecidablePred test] :
    powerSum (n + 1) test =
      if test (Fin.last n) then powerSum n (fun i => test i.castSucc) + 2 ^ n else powerSum n fun i => test i.castSucc := by
  simp [powerSum, List.finRange_succ_last, List.foldl_map]

theorem powerSum_lt (n : Nat) (test : Fin n → Prop) [DecidablePred test] : powerSum n test < 2 ^ n := by
  induction n with
  | zero => simp [powerSum]
  | succ n ih =>
    have small := ih fun i => test i.castSucc
    rw [powerSum_succ]
    split <;> omega

/-- The sum has these bits and no others. -/
theorem testBit_powerSum (n : Nat) (test : Fin n → Prop) [DecidablePred test] (i : Fin n) :
    (powerSum n test).testBit i.val = true ↔ test i := by
  induction n with
  | zero => exact i.elim0
  | succ n ih =>
    have below : (powerSum n fun i => test i.castSucc).testBit n = false := Nat.testBit_lt_two_pow (powerSum_lt n _)
    rw [powerSum_succ]
    cases i using Fin.lastCases with
    | last =>
      rw [Fin.val_last]
      split
      next last => simp [Nat.add_comm _ (2 ^ n), Nat.testBit_two_pow_add_eq, below, last]
      next last => simp [below, last]
    | cast i =>
      rw [Fin.val_castSucc, ← ih (fun i => test i.castSucc) i]
      split
      · rw [Nat.add_comm, Nat.testBit_two_pow_add_gt i.isLt]
      · rfl

/-! ### The payload of GET PROFILE -/

/-- The byte of each line's filter count. -/
def filterBytes (x : Profile) : List Byte := (List.finRange 32).map fun l => (x.filterCount[l]).zeroExtend 8

/-- The bytes whose bits are the output kinds of the lines. -/
def kindBytes (x : Profile) : List Byte := bytesOfNat 4 (powerSum 32 fun l => x.outputKind[l] = .openDrain)

theorem profileBytes_eq (x : Profile) :
    profileBytes x = [tickUnitCode x.tickUnit, intervalCode x.interval] ++ (filterBytes x ++ kindBytes x) := rfl

theorem length_filterBytes (x : Profile) : (filterBytes x).length = 32 := by simp [filterBytes]

theorem length_kindBytes (x : Profile) : (kindBytes x).length = 4 := length_bytesOfNat 4 _

theorem byteAt_profileBytes_filterCount (x : Profile) (l : Line) :
    (byteAt (profileBytes x) (2 + l.val)).toNat = (x.filterCount[l]).toNat := by
  have byte : (filterBytes x)[l.val]? = some ((x.filterCount[l]).zeroExtend 8) := by simp [filterBytes]
  have small := (x.filterCount[l]).isLt
  have rest : (profileBytes x).drop 2 = filterBytes x ++ kindBytes x := rfl
  rw [← byteAt_drop, rest, byteAt, List.getD_eq_getElem?_getD,
    List.getElem?_append_left (by rw [length_filterBytes]; exact l.isLt), byte, Option.getD_some, BitVec.toNat_setWidth]
  omega

theorem fieldAt_profileBytes_outputKind (x : Profile) (l : Line) :
    (fieldAt (profileBytes x) 34 4).testBit l.val = true ↔ x.outputKind[l] = .openDrain := by
  have bytes : (profileBytes x).drop 34 = kindBytes x := by
    rw [profileBytes_eq, ← List.append_assoc]
    exact List.drop_left' (by simp [length_filterBytes])
  have field : fieldAt (profileBytes x) 34 4 = powerSum 32 fun l => x.outputKind[l] = .openDrain := by
    rw [fieldAt, bytes, List.take_of_length_le (length_kindBytes x).le, kindBytes, natOfBytes_bytesOfNat]
    exact Nat.mod_eq_of_lt (powerSum_lt 32 _)
  rw [field]
  exact testBit_powerSum 32 _ l

/-- GET PROFILE's payload is the whole profile, field by field (R148). -/
theorem carriesProfile_profileBytes (x : Profile) : CarriesProfile (profileBytes x) x :=
  ⟨by simp [profileBytes_eq, length_filterBytes, length_kindBytes], rfl, rfl, byteAt_profileBytes_filterCount x,
    fieldAt_profileBytes_outputKind x⟩

/-! ### The payload of TIME -/

theorem fieldAt_timePayload (s : State) : fieldAt s.timePayload 0 4 = s.timeCount.toNat := by
  have bytes : (s.timePayload.drop 0).take 4 = bytesOfNat 4 s.timeCount.toNat := List.take_left' (length_bytesOfNat 4 _)
  rw [fieldAt, bytes, natOfBytes_bytesOfNat]
  exact Nat.mod_eq_of_lt s.timeCount.isLt

theorem byteAt_timePayload (s : State) : byteAt s.timePayload 4 = tickUnitCode s.profile.tickUnit := rfl

/-- Settles O47: both bodies only reply, and each payload is read back field by field. -/
theorem timeAndProfileRead : Obligations.TimeAndProfileRead := by
  refine ⟨fun s p f ready => ?_, fun s p f ready passes => ?_⟩
  · obtain ⟨t, run, answered, beside⟩ := take_of_free_reply (body := timeBody) rfl ready rfl
    exact ⟨t, run, _, answered, beside, by simp [State.timePayload, length_bytesOfNat], fieldAt_timePayload s,
      byteAt_timePayload s⟩
  · obtain ⟨t, run, answered, only⟩ := take_of_reply (body := getProfileBody) rfl ready passes rfl
    refine ⟨t, run, _, answered, only, ?_⟩
    have profile : (taken s p).profile = s.profile := (restart_outside s p).profile
    rw [profile]
    exact carriesProfile_profileBytes s.profile

end Sys2Proof.Proofs
end

section
/-! PROOFS. The refusals of OFFER (R48). -/

namespace Sys2Proof.Proofs

open Sys2Proof.Machine Sys2Proof.Safety Sys2Proof.Laws

/-! ### OFFER's operands (R48, R174) -/

theorem portOf_portCode (p : Port) : portOf (portCode p).toNat = some p := by cases p <;> rfl

theorem portOf_eq_none {n : Nat} (h : 2 < n) : portOf n = none := by
  match n, h with
  | _ + 3, _ => rfl

theorem offerOperands_eq_none {p : Port} {pl : List Byte}
    (h : 2 ^ 36 ≤ fieldAt pl 0 5 ∨ fieldAt pl 0 5 = 0 ∨ fieldAt pl 6 2 = 0 ∨ 10000 < fieldAt pl 6 2 ∨
      2 < fieldAt pl 5 1 ∨ fieldAt pl 5 1 = (portCode p).toNat) :
    offerOperands p pl = none := by
  rw [← or_assoc] at h
  unfold offerOperands
  rcases h with badSet | noWindow | longWindow | noPort | itself
  · rcases resourceSetAt_of_bad badSet with h | h <;> cases portOf (fieldAt pl 5 1) <;> simp [h]
  · cases resourceSetAt pl 0 <;> cases portOf (fieldAt pl 5 1) <;> simp [noWindow]
  · cases resourceSetAt pl 0 <;> cases portOf (fieldAt pl 5 1) <;> simp [Nat.not_le.2 longWindow]
  · cases resourceSetAt pl 0 <;> simp [portOf_eq_none noPort]
  · cases resourceSetAt pl 0 <;> simp [itself, portOf_portCode]

theorem offerOperands_eq_some {p target : Port} {pl : List Byte} {set : ResourceSet} (h : set.toNat = fieldAt pl 0 5)
    (hn : set ≠ 0) (port : fieldAt pl 5 1 = (portCode target).toNat) (other : target ≠ p) (least : 1 ≤ fieldAt pl 6 2)
    (most : fieldAt pl 6 2 ≤ 10000) :
    offerOperands p pl = some { set := set, target := target, window := fieldAt pl 6 2 } := by
  simp only [offerOperands, resourceSetAt_eq_some h, port, portOf_portCode]
  exact if_pos ⟨hn, least, most, other⟩

/-! ### The resources that stop an offer (R2, R5) -/

theorem lowestNotHeld_eq_some {s : State} {p : Port} {set : ResourceSet} {r : Resource}
    (h : LowestWith set (fun k => s.holds p k = false) r) : s.lowestNotHeld p set = some r :=
  find_lowest (fun k => by simp) h

theorem lowestNotHeld_eq_none {s : State} {p : Port} {set : ResourceSet}
    (held : ∀ r, inSet set r = true → s.holds p r = true) : s.lowestNotHeld p set = none :=
  List.find?_eq_none.2 fun r hr => by simp [held r (mem_members.1 hr)]

theorem holds_of_held {s : State} {p : Port} {r : Resource} (h : (s.entry r).state = .held p) : s.holds p r = true := by
  simp [State.holds, State.holderOf, LeaseState.holder, h]

/-- A resource that the port holds is HELD by it or OFFERED (R2). -/
theorem isOffered_iff_of_holds {s : State} {p : Port} {r : Resource} (h : s.holds p r = true) :
    s.isOffered r = true ↔ (s.entry r).state ≠ .held p := by
  unfold State.holds State.holderOf at h
  unfold State.isOffered
  cases hs : (s.entry r).state with
  | held q =>
    have : q = p := by simpa [hs, LeaseState.holder] using h
    simp [this]
  | offered q id => simp
  | free => simp [hs, LeaseState.holder] at h
  | orphaned q => simp [hs, LeaseState.holder] at h

/-- Of a set that the port holds, the lowest resource that is not HELD is the first that is found OFFERED. -/
theorem find_isOffered_eq_some {s : State} {p : Port} {set : ResourceSet} {r : Resource}
    (held : ∀ r, inSet set r = true → s.holds p r = true) (h : LowestWith set (fun k => (s.entry k).state ≠ .held p) r) :
    (members set).find? s.isOffered = some r := by
  obtain ⟨hr, notHeld, lowest⟩ := h
  exact find_lowest (bad := fun k => s.isOffered k = true) (fun _ => Iff.rfl)
    ⟨hr, (isOffered_iff_of_holds (held r hr)).2 notHeld,
      fun k hk offered => lowest k hk ((isOffered_iff_of_holds (held k hk)).1 offered)⟩

theorem find_isOffered_eq_none {s : State} {p : Port} {set : ResourceSet}
    (held : ∀ r, inSet set r = true → (s.entry r).state = .held p) : (members set).find? s.isOffered = none :=
  List.find?_eq_none.2 fun r hr => by simp [State.isOffered, held r (mem_members.1 hr)]

/-! ### The refusals of OFFER's body -/

section Bodies

variable {s : State} {p : Port} {pl : List Byte} {o : OfferOperands} {r : Resource}

theorem offerBody_badArgument (h : offerOperands p pl = none) : offerBody s p pl = (s, bare .badArgument) := by
  simp [offerBody, h]

theorem offerBody_noSession (h : offerOperands p pl = some o) (notOpen : s.isOpen o.target = false) :
    offerBody s p pl = (s, { status := .noSession, payload := [portCode o.target] }) := by
  simp [offerBody, h, notOpen]

theorem offerBody_notHolder (h : offerOperands p pl = some o) (isOpen : s.isOpen o.target = true)
    (low : LowestWith o.set (fun k => s.holds p k = false) r) : offerBody s p pl = (s, s.naming .notHolder r) := by
  simp [offerBody, h, isOpen, lowestNotHeld_eq_some low]

theorem offerBody_offered (h : offerOperands p pl = some o) (isOpen : s.isOpen o.target = true)
    (held : ∀ r, inSet o.set r = true → s.holds p r = true)
    (low : LowestWith o.set (fun k => (s.entry k).state ≠ .held p) r) :
    offerBody s p pl = (s, s.naming .offered r) := by
  simp [offerBody, h, isOpen, lowestNotHeld_eq_none held, find_isOffered_eq_some held low]

theorem offerBody_limit (h : offerOperands p pl = some o) (isOpen : s.isOpen o.target = true)
    (held : ∀ r, inSet o.set r = true → (s.entry r).state = .held p) (full : 4 ≤ s.offers.length) :
    offerBody s p pl = (s, bare .limit) := by
  have notHeld := lowestNotHeld_eq_none fun r hr => holds_of_held (held r hr)
  simp [offerBody, h, isOpen, notHeld, find_isOffered_eq_none held, Config.offerCapacity, full]

end Bodies

theorem taken_isOpen (s : State) (p q : Port) : (taken s p).isOpen q = s.isOpen q := restart_isOpen s p q

/-- Settles O21: each refusal is one reply of OFFER's body, whose checks read nothing that the taking of the request
moves. -/
theorem offerRefused : Obligations.OfferRefused := by
  intro s p f ready passes window
  refine ⟨fun bad => take_of_reply rfl ready passes (offerBody_badArgument (offerOperands_eq_none bad)),
    fun set hset hn least most target port other => ?_⟩
  have operands := offerOperands_eq_some hset hn port other least most
  refine ⟨fun notOpen => ?noSession, fun isOpen r low => ?notHolder, fun isOpen held r low => ?offered,
    fun isOpen held full => ?limit⟩
  case noSession =>
    exact take_of_reply rfl ready passes (offerBody_noSession operands ((taken_isOpen s p target).trans notOpen))
  case notHolder =>
    have body := offerBody_notHolder operands ((taken_isOpen s p target).trans isOpen) (by simpa using low)
    obtain ⟨t, run, answered, only⟩ := take_of_reply rfl ready passes body
    exact ⟨t, run, _, namesResource_naming s p _ r, answered, only⟩
  case offered =>
    have body := offerBody_offered operands ((taken_isOpen s p target).trans isOpen) (by simpa using held)
      (by simpa using low)
    obtain ⟨t, run, answered, only⟩ := take_of_reply rfl ready passes body
    exact ⟨t, run, _, namesResource_naming s p _ r, answered, only⟩
  case limit =>
    exact take_of_reply rfl ready passes
      (offerBody_limit operands ((taken_isOpen s p target).trans isOpen) (by simpa using held) (by simpa using full))

end Sys2Proof.Proofs
end

section
/-! PROOFS. What a pin drives (R82, R83, R114). -/

namespace Sys2Proof.Proofs

open Sys2Proof.Machine Sys2Proof.Safety Sys2Proof.Laws

/-- The failsafe value has the pin of an entry: under force, or without a holder (R83, R114). -/
def OnFailsafe (s : State) (r : Resource) : Prop :=
  s.force.asserted = true ∨ (s.entry r).state = .free ∨ ∃ q, (s.entry r).state = .orphaned q

theorem controlled_eq_false_iff (st : LeaseState) : controlled st = false ↔ st = .free ∨ ∃ q, st = .orphaned q := by
  cases st <;> simp [controlled, LeaseState.holder]

/-- The test that both drives begin with. -/
theorem onFailsafe_iff (s : State) (r : Resource) :
    (s.force.asserted || !controlled (s.entry r).state) = true ↔ OnFailsafe s r := by
  rw [Bool.or_eq_true, Bool.not_eq_true', controlled_eq_false_iff, OnFailsafe]

/-! ### Lines (R82, R83) -/

theorem levelDrive_low (k : OutputKind) : levelDrive k .low = .low := by cases k <;> rfl

theorem levelDrive_high (k : OutputKind) : levelDrive k .high = if k = .openDrain then .float else .high := by
  cases k <;> rfl

theorem failsafeDrive_driveLow (k : OutputKind) : failsafeDrive k .driveLow = .low := levelDrive_low k

theorem failsafeDrive_driveHigh (k : OutputKind) :
    failsafeDrive k .driveHigh = if k = .openDrain then .float else .high := levelDrive_high k

section Lines

variable {s : State} {l : Line}

theorem effectiveDrive_of_onFailsafe (h : OnFailsafe s (lineResource l)) :
    s.effectiveDrive l = failsafeDrive s.profile.outputKind[l] (s.entry (lineResource l)).failsafe :=
  if_pos ((onFailsafe_iff s _).2 h)

theorem effectiveDrive_of_holder (h : ¬OnFailsafe s (lineResource l)) :
    s.effectiveDrive l =
      if (s.line l).direction = .output then levelDrive s.profile.outputKind[l] (s.line l).commanded else .float :=
  if_neg fun test => h ((onFailsafe_iff s _).1 test)

theorem effectiveDrive_of_output (h : ¬OnFailsafe s (lineResource l)) (output : (s.line l).direction = .output) :
    s.effectiveDrive l = levelDrive s.profile.outputKind[l] (s.line l).commanded :=
  (effectiveDrive_of_holder h).trans (if_pos output)

theorem effectiveDrive_of_input (h : ¬OnFailsafe s (lineResource l)) (input : (s.line l).direction = .input) :
    s.effectiveDrive l = .float :=
  (effectiveDrive_of_holder h).trans (if_neg (by simp [input]))

end Lines

/-! ### Engines (R114) -/

theorem failsafeLevel_eq_high_iff (v : Failsafe) : failsafeLevel v = .high ↔ v = .driveHigh := by
  cases v <;> simp [failsafeLevel]

/-- Only the high phase of a train and the pulse after a delay hold TOn high. -/
theorem runLevel_eq_high_iff (st : EngineState) :
    runLevel st = .high ↔ ∃ t, st = .timed .high t ∨ st = .timed .pulse t := by
  cases st with
  | timed phase t => cases phase <;> simp [runLevel]
  | idle => simp [runLevel]
  | armed limit => simp [runLevel]
  | measuring opening limit => simp [runLevel]
  | gated phase remainder => simp [runLevel]

section Engines

variable {s : State} {e : EngineNo}

theorem engineDrive_of_onFailsafe (h : OnFailsafe s (engineResource e)) :
    s.engineDrive e = failsafeLevel (s.entry (engineResource e)).failsafe :=
  if_pos ((onFailsafe_iff s _).2 h)

theorem engineDrive_of_holder (h : ¬OnFailsafe s (engineResource e)) : s.engineDrive e = runLevel (s.engine e).state :=
  if_neg fun test => h ((onFailsafe_iff s _).1 test)

end Engines

/-- Settles O27: a pin has its failsafe value or follows its holder, and each of the two is read through the output kind
of a line or the run of an engine. -/
theorem driveDecided : Obligations.DriveDecided := by
  refine fun s => ⟨fun l => ⟨?failsafeLow, ?failsafeHigh, ?failsafeFloat, ?commandedLow, ?commandedHigh, ?input⟩,
    fun e => ⟨?engineFailsafe, ?engineRun⟩⟩
  case failsafeLow =>
    intro forced value
    rw [effectiveDrive_of_onFailsafe forced, value, failsafeDrive_driveLow]
  case failsafeHigh =>
    intro forced value
    rw [effectiveDrive_of_onFailsafe forced, value, failsafeDrive_driveHigh]
  case failsafeFloat =>
    intro forced value
    rw [effectiveDrive_of_onFailsafe forced, value]
    rfl
  case commandedLow =>
    intro held output value
    rw [effectiveDrive_of_output held output, value, levelDrive_low]
  case commandedHigh =>
    intro held output value
    rw [effectiveDrive_of_output held output, value, levelDrive_high]
  case input => exact effectiveDrive_of_input
  case engineFailsafe =>
    intro forced
    rw [engineDrive_of_onFailsafe forced, failsafeLevel_eq_high_iff]
  case engineRun =>
    intro held
    rw [engineDrive_of_holder held, runLevel_eq_high_iff]

end Sys2Proof.Proofs
end

section
/-! PROOFS. SET DIRECTION and WRITE LINES (R85, R86): cells of lines that the port holds replaced, and their drives
decided again (R84). -/

namespace Sys2Proof.Proofs

open Sys2Proof.Machine Sys2Proof.Safety Sys2Proof.Laws

/-! ### Cells replaced and drives decided again -/

/-- The cells of lines are replaced, and the drives of a set are decided again. -/
def cellsReplaced (s : State) (set : ResourceSet) (cell : Line → LineCell → LineCell) : State :=
  (s.withLines cell).redrive set

theorem line_cellsReplaced (s : State) (set : ResourceSet) (cell : Line → LineCell → LineCell) (l : Line) :
    (cellsReplaced s set cell).line l =
      if inSet set (lineResource l) then decidedAgain (cellsReplaced s set cell) l (cell l (s.line l))
      else cell l (s.line l) := by
  rw [cellsReplaced, line_redrive_decidedAgain, State.line_withLines]

/-- Deciding the drives of a set without an engine leaves the engines alone. -/
theorem redrive_engines {s : State} {set : ResourceSet} (linesOnly : ∀ r, inSet set r = true → r.val < 32) :
    (s.redrive set).engines = s.engines := by
  refine Vector.ext fun i hi => ?_
  have same : (s.redrive set).engine ⟨i, hi⟩ = s.engine ⟨i, hi⟩ := by
    rw [State.engine_redrive, if_neg fun member => ?_]
    exact absurd (linesOnly _ member) (Nat.not_lt.2 (Nat.le_add_right 32 i))
  exact same

theorem cellsReplaced_outside (s : State) (set : ResourceSet) (cell : Line → LineCell → LineCell) :
    SameOutside s (cellsReplaced s set cell) := (withLines_outside s cell).trans (redrive_outside _ set)

/-- A request of a port whose body replaces cells of lines and decides the drives of those lines again. -/
theorem take_of_cellsReplaced {s : State} {rq : Request} {p : Port} {f : Frame}
    {body : State → Port → List Byte → State × Reply} {set : ResourceSet} {cell : Line → LineCell → LineCell}
    (check : hasSessionCheck rq = true) (ready : Ready s rq p f) (passes : Passes s p f)
    (linesOnly : ∀ r, inSet set r = true → r.val < 32)
    (run : body (taken s p) p f.payload = (cellsReplaced (taken s p) set cell, bare .ok)) :
    ∃ t, (s.awake fun s => s.take rq p body) = .next t ∧ Answered s t p f .ok [] ∧
      (∀ l, t.line l = if inSet set (lineResource l) then decidedAgain t l (cell l (s.line l)) else cell l (s.line l)) ∧
      t.engines = s.engines ∧ OnlyRestarted s t p ∧ SameTables s t ∧ SameJournal s t ∧ SameRest s t := by
  have outside := (restart_outside s p).trans (cellsReplaced_outside (taken s p) set cell)
  have engines : (cellsReplaced (taken s p) set cell).engines = s.engines :=
    ((redrive_engines linesOnly).trans (State.withLines_engines _ _)).trans (taken_field s p).2
  refine ⟨_, take_of_body check ready passes run, answered_of_outside f (bare .ok) outside, fun l => ?_, ?_,
    onlyRestarted_of_sessions (by simp [cellsReplaced]), by simp [SameTables, cellsReplaced],
    by simpa [SameJournal, cellsReplaced] using taken_journal s p, sameRest_answer _ _ outside⟩
  · rw [State.line_answer, line_cellsReplaced, taken_line, decidedAgain_answer]
  · rw [State.answer_engines, engines]

/-! ### SET DIRECTION (R85) -/

section Direction

variable {s : State} {p : Port} {pl : List Byte} {set : ResourceSet} {r : Resource}

theorem setDirectionBody_badArgument (h : 2 ^ 36 ≤ fieldAt pl 0 5 ∨ fieldAt pl 0 5 = 0) :
    setDirectionBody s p pl = (s, bare .badArgument) := by
  simp [setDirectionBody, setDirectionSet, releaseOperands_eq_none h]

theorem setDirectionBody_engine (h : set.toNat = fieldAt pl 0 5) (low : LowestWith set (fun k => 32 ≤ k.val) r) :
    setDirectionBody s p pl = (s, s.naming .badArgument r) := by
  have stops : (members set).find? (fun k => !isLine k) = some r := find_lowest (fun k => by simp [isLine]) low
  simp [setDirectionBody, setDirectionSet, releaseOperands_eq_some h (ne_zero_of_inSet low.1), stops]

theorem find_engine_eq_none (linesOnly : ∀ r, inSet set r = true → r.val < 32) :
    (members set).find? (fun k => !isLine k) = none :=
  List.find?_eq_none.2 fun r hr => by simp [isLine, linesOnly r (mem_members.1 hr)]

theorem setDirectionBody_notHolder (h : set.toNat = fieldAt pl 0 5)
    (linesOnly : ∀ r, inSet set r = true → r.val < 32) (low : LowestWith set (fun k => s.holds p k = false) r) :
    setDirectionBody s p pl = (s, s.naming .notHolder r) := by
  simp [setDirectionBody, setDirectionSet, releaseOperands_eq_some h (ne_zero_of_inSet low.1),
    find_engine_eq_none linesOnly, lowestNotHeld_eq_some low]

/-- A cell with the direction that the mask gives its line, when the set names the line. -/
def directed (set : ResourceSet) (pl : List Byte) (l : Line) (c : LineCell) : LineCell :=
  if inSet set (lineResource l) then { c with direction := directionAt pl l } else c

theorem setDirections_eq (s : State) (set : ResourceSet) (pl : List Byte) :
    s.setDirections set pl = cellsReplaced s set (directed set pl) := rfl

theorem setDirectionBody_ok (h : set.toNat = fieldAt pl 0 5) (hn : set ≠ 0)
    (linesOnly : ∀ r, inSet set r = true → r.val < 32) (held : ∀ r, inSet set r = true → s.holds p r = true) :
    setDirectionBody s p pl = (cellsReplaced s set (directed set pl), bare .ok) := by
  simp [setDirectionBody, setDirectionSet, releaseOperands_eq_some h hn, find_engine_eq_none linesOnly,
    lowestNotHeld_eq_none held, setDirections_eq]

end Direction

/-- Settles O25: the refusals are replies of SET DIRECTION's body in the order of its checks; a run that passes replaces
the directions. -/
theorem directionSet : Obligations.DirectionSet := by
  intro s p f ready passes
  refine ⟨fun bad => ?badSet, fun set hset hn => ⟨fun r low => ?engine, fun linesOnly => ⟨fun r low => ?notHolder,
    fun held => ?passes⟩⟩⟩
  case badSet =>
    exact take_of_reply rfl ready passes (setDirectionBody_badArgument (bad.imp_left And.left))
  case engine =>
    obtain ⟨t, run, answered, only⟩ := take_of_reply rfl ready passes (setDirectionBody_engine hset low)
    exact ⟨t, run, _, namesResource_naming s p _ r, answered, only⟩
  case notHolder =>
    obtain ⟨t, run, answered, only⟩ :=
      take_of_reply rfl ready passes (setDirectionBody_notHolder hset linesOnly (by simpa using low))
    exact ⟨t, run, _, namesResource_naming s p _ r, answered, only⟩
  case passes =>
    obtain ⟨t, run, answered, lines, rest⟩ := take_of_cellsReplaced rfl ready passes linesOnly
      (setDirectionBody_ok hset hn linesOnly (by simpa using held))
    refine ⟨t, run, answered, fun l => (lines l).trans ?_, rest⟩
    unfold directed
    split <;> rfl

/-! ### WRITE LINES (R86) -/

theorem inSet_ofLines_ofNat (n : Nat) (r : Resource) :
    inSet (ofLines (BitVec.ofNat 32 n)) r = (decide (r.val < 32) && n.testBit r.val) := by
  simp [inSet, ofLines, BitVec.getLsbD_ofNat, r.isLt]

theorem inSet_ofLines_lineResource (n : Nat) (l : Line) :
    inSet (ofLines (BitVec.ofNat 32 n)) (lineResource l) = n.testBit l.val := by
  rw [inSet_ofLines_ofNat]
  simp [lineResource, l.isLt]

theorem lt_of_inSet_ofLines {n : Nat} {r : Resource} (h : inSet (ofLines (BitVec.ofNat 32 n)) r = true) :
    r.val < 32 := by
  rw [inSet_ofLines_ofNat, Bool.and_eq_true] at h
  exact of_decide_eq_true h.1

/-- What holds of every masked line holds of every member of the mask's set. -/
theorem forall_inSet_ofLines {n : Nat} {good : Resource → Prop}
    (h : ∀ l : Line, n.testBit l.val = true → good (lineResource l)) (r : Resource)
    (hr : inSet (ofLines (BitVec.ofNat 32 n)) r = true) : good r := by
  have line : lineResource ⟨r.val, lt_of_inSet_ofLines hr⟩ = r := rfl
  rw [← line, inSet_ofLines_lineResource] at hr
  exact h ⟨r.val, _⟩ hr

/-- The lowest masked line with a property is the lowest member of the mask's set with it. -/
theorem lowestWith_ofLines {n : Nat} {bad : Resource → Prop} {l : Line} (hl : n.testBit l.val = true)
    (hbad : bad (lineResource l)) (lowest : ∀ k : Line, n.testBit k.val = true → bad (lineResource k) → l ≤ k) :
    LowestWith (ofLines (BitVec.ofNat 32 n)) bad (lineResource l) :=
  ⟨(inSet_ofLines_lineResource n l).trans hl, hbad, forall_inSet_ofLines lowest⟩

section Write

variable {s : State} {p : Port} {pl : List Byte} {r : Resource}

/-- The resources of the lines that WRITE LINES masks. -/
def maskedSet (pl : List Byte) : ResourceSet := ofLines (BitVec.ofNat 32 (fieldAt pl 0 4))

theorem writeLinesBody_badArgument (h : fieldAt pl 0 4 = 0) : writeLinesBody s p pl = (s, bare .badArgument) := by
  simp [writeLinesBody, writeLinesOperands, h]

theorem writeLinesBody_notHolder (named : fieldAt pl 0 4 ≠ 0)
    (low : LowestWith (maskedSet pl) (fun k => s.holds p k = false) r) :
    writeLinesBody s p pl = (s, s.naming .notHolder r) := by
  have stops : s.lowestNotHeld p (ofLines (BitVec.ofNat 32 (fieldAt pl 0 4))) = some r := lowestNotHeld_eq_some low
  simp [writeLinesBody, writeLinesOperands, named, stops]

/-- A cell with the value that the payload gives its line, when the mask names the line. -/
def commandedBy (pl : List Byte) (l : Line) (c : LineCell) : LineCell :=
  if (fieldAt pl 0 4).testBit l.val then { c with commanded := levelOf ((fieldAt pl 4 4).testBit l.val) } else c

theorem writeValues_eq (s : State) (pl : List Byte) :
    s.writeValues (BitVec.ofNat 32 (fieldAt pl 0 4)) (BitVec.ofNat 32 (fieldAt pl 4 4)) =
      cellsReplaced s (maskedSet pl) (commandedBy pl) := by
  have bits : ∀ (n : Nat) (l : Line), (BitVec.ofNat 32 n).getLsbD l.val = n.testBit l.val := fun n l => by
    rw [BitVec.getLsbD_ofNat, decide_eq_true l.isLt, Bool.true_and]
  simp only [State.writeValues, bits]
  rfl

theorem writeLinesBody_ok (named : fieldAt pl 0 4 ≠ 0) (held : ∀ r, inSet (maskedSet pl) r = true → s.holds p r = true) :
    writeLinesBody s p pl = (cellsReplaced s (maskedSet pl) (commandedBy pl), bare .ok) := by
  have passes : s.lowestNotHeld p (ofLines (BitVec.ofNat 32 (fieldAt pl 0 4))) = none := lowestNotHeld_eq_none held
  simp [writeLinesBody, writeLinesOperands, named, passes, writeValues_eq]

end Write

/-- Settles O26: the refusals are replies of WRITE LINES' body; a run that passes replaces the commanded values. -/
theorem linesWritten : Obligations.LinesWritten := by
  intro s p f ready passes
  refine ⟨fun empty => ?noLine, fun l hl notHeld lowest => ?notHolder, fun named held => ?passes⟩
  case noLine => exact take_of_reply rfl ready passes (writeLinesBody_badArgument empty)
  case notHolder =>
    have named : fieldAt f.payload 0 4 ≠ 0 := fun empty => by simp [empty] at hl
    have low : LowestWith (maskedSet f.payload) (fun k => (taken s p).holds p k = false) (lineResource l) := by
      simp only [taken_holds]
      exact lowestWith_ofLines hl notHeld lowest
    obtain ⟨t, run, answered, only⟩ := take_of_reply rfl ready passes (writeLinesBody_notHolder named low)
    exact ⟨t, run, _, namesResource_naming s p _ _, answered, only⟩
  case passes =>
    have holder : ∀ r, inSet (maskedSet f.payload) r = true → (taken s p).holds p r = true := by
      simp only [taken_holds]
      exact forall_inSet_ofLines held
    obtain ⟨t, run, answered, lines, rest⟩ := take_of_cellsReplaced (set := maskedSet f.payload) rfl ready passes
      (fun _ => lt_of_inSet_ofLines) (writeLinesBody_ok named holder)
    refine ⟨t, run, answered, fun l => (lines l).trans ?_, rest⟩
    rw [maskedSet, inSet_ofLines_lineResource, commandedBy]
    split <;> rfl

end Sys2Proof.Proofs
end

section
/-! PROOFS. One record appended (R126 to R128), and every monitor entered from its line's drive (R88). -/

namespace Sys2Proof.Proofs

open Sys2Proof.Machine Sys2Proof.Safety Sys2Proof.Laws

/-! ### The record of an append -/

theorem makeRoom_journal (s : State) :
    s.makeRoom.journal = (if s.journal.length < 128 then s.journal else s.journal.tail) ∧
      s.makeRoom.nextSeq = s.nextSeq := by
  unfold State.makeRoom Config.journalCapacity
  split
  next => exact ⟨rfl, rfl⟩
  next =>
    unfold State.evict
    split
    next empty => exact ⟨by rw [empty, List.tail_nil], rfl⟩
    next records => exact ⟨by rw [records, List.tail_cons], rfl⟩

/-- An append is one record offered to its recipients. -/
theorem appended_append (s : State) (ps : PortSet) (time : Count) (body : RecordBody) :
    Appended s (s.append ps time body) ps.get time body := by
  unfold Appended withRecord
  cases nobody : isNoPort (s.interested ps) with
  | true =>
    rw [append_none nobody]
    exact (if_neg (Bool.eq_false_iff.1 ((Bool.not_eq_true' _).mp nobody))).symm
  | false =>
    obtain ⟨journal, nextSeq⟩ := makeRoom_journal s
    rw [append_some nobody, State.reattend_journal, State.reattend_nextSeq, State.place, journal, nextSeq]
    exact (if_pos ((Bool.not_eq_false' _).mp nobody)).symm

section Append

variable (s : State) (ps : PortSet) (time : Count) (body : RecordBody)

theorem append_entry (r : Resource) : (s.append ps time body).entry r = s.entry r := by
  obtain ⟨leases, -⟩ := append_tables s ps time body
  rw [State.entry, leases, State.entry]

theorem append_line (l : Line) : (s.append ps time body).line l = s.line l := by
  obtain ⟨lines, -⟩ := append_field s ps time body
  rw [State.line, lines, State.line]

theorem append_engine (e : EngineNo) : (s.append ps time body).engine e = s.engine e := by
  obtain ⟨-, engines⟩ := append_field s ps time body
  rw [State.engine, engines, State.engine]

theorem effectiveDrive_append (l : Line) : (s.append ps time body).effectiveDrive l = s.effectiveDrive l := by
  have outside := append_outside s ps time body
  simp only [State.effectiveDrive, append_entry, append_line, outside.force, outside.profile]

theorem engineDrive_append (e : EngineNo) : (s.append ps time body).engineDrive e = s.engineDrive e := by
  have outside := append_outside s ps time body
  simp only [State.engineDrive, append_entry, append_engine, outside.force]

end Append

/-! ### Monitors entered -/

theorem enteredAnew_eq (s : State) (l : Line) (c : LineCell) :
    enteredAnew s l c =
      { c with drive := s.effectiveDrive l, monitor := monitorFor s.profile.filterCount[l] (s.effectiveDrive l) } := by
  unfold enteredAnew monitorFor
  cases s.effectiveDrive l <;> rfl

theorem enteredAnew_congr {s t : State} {l : Line} (drive : t.effectiveDrive l = s.effectiveDrive l)
    (profile : t.profile = s.profile) (c : LineCell) : enteredAnew t l c = enteredAnew s l c := by
  rw [enteredAnew_eq, enteredAnew_eq, drive, profile]

/-- A drive decided again, and then the monitor entered whether or not the drive changed. -/
theorem enteredAnew_of_decidedAgain (s : State) (l : Line) (c : LineCell) :
    { decidedAgain s l c with monitor := monitorFor s.profile.filterCount[l] (decidedAgain s l c).drive } =
      enteredAnew s l c := by
  rw [enteredAnew_eq, decidedAgain]
  split
  next same => rw [same]
  next => rfl

/-- Every drive decided again, and every monitor entered (R80, R84, R88). -/
def drivesEntered (s : State) : State := (s.redrive everyResource).enterMonitors

theorem inSet_everyResource (r : Resource) : inSet everyResource r = true := by
  rw [inSet, everyResource, BitVec.getLsbD_allOnes]
  exact decide_eq_true r.isLt

theorem enterMonitors_outside (s : State) : SameOutside s s.enterMonitors := withLines_outside s _

theorem drivesEntered_outside (s : State) : SameOutside s (drivesEntered s) := by
  unfold drivesEntered
  exact (redrive_outside s everyResource).trans (enterMonitors_outside _)

theorem effectiveDrive_enterMonitors (s : State) (l : Line) : s.enterMonitors.effectiveDrive l = s.effectiveDrive l := by
  simp only [State.effectiveDrive, State.enterMonitors, State.entry_withLines, State.line_withLines,
    State.withLines_force, State.withLines_profile]

theorem engineDrive_enterMonitors (s : State) (e : EngineNo) : s.enterMonitors.engineDrive e = s.engineDrive e := by
  simp only [State.engineDrive, State.enterMonitors, State.entry_withLines, State.engine_withLines,
    State.withLines_force]

theorem effectiveDrive_drivesEntered (s : State) (l : Line) :
    (drivesEntered s).effectiveDrive l = s.effectiveDrive l :=
  (effectiveDrive_enterMonitors _ l).trans (effectiveDrive_redrive s everyResource l)

theorem engineDrive_drivesEntered (s : State) (e : EngineNo) : (drivesEntered s).engineDrive e = s.engineDrive e :=
  (engineDrive_enterMonitors _ e).trans (engineDrive_redrive s everyResource e)

theorem line_drivesEntered (s : State) (l : Line) :
    (drivesEntered s).line l = enteredAnew (drivesEntered s) l (s.line l) := by
  rw [enteredAnew_congr (effectiveDrive_drivesEntered s l) (drivesEntered_outside s).profile,
    ← enteredAnew_of_decidedAgain, drivesEntered, State.enterMonitors, State.line_withLines, State.line_redrive,
    if_pos (inSet_everyResource _), State.redrive_profile, decidedCell_eq_decidedAgain]

theorem engine_drivesEntered (s : State) (e : EngineNo) :
    (drivesEntered s).engine e = { s.engine e with out := (drivesEntered s).engineDrive e } := by
  rw [engineDrive_drivesEntered, drivesEntered, State.enterMonitors, State.engine_withLines, State.engine_redrive,
    if_pos (inSet_everyResource _), State.decidedEngine]

end Sys2Proof.Proofs
end

section
/-! PROOFS. SET PROFILE (R80, R149 to R153). -/

namespace Sys2Proof.Proofs

open Sys2Proof.Machine Sys2Proof.Safety Sys2Proof.Laws

/-! ### The profile of a payload (R149, R175) -/

theorem fieldAt_byte (pl : List Byte) (i : Nat) : fieldAt pl i 1 = (byteAt pl i).toNat := by
  rw [← Nat.add_zero i, ← fieldAt_drop, ← byteAt_drop]
  cases pl.drop i <;> simp [fieldAt, byteAt, natOfBytes]

theorem exists_tickUnit_iff (n : Nat) : (∃ unit, tickUnitOf n = some unit) ↔ n ≤ 3 := by
  match n with
  | 0 | 1 | 2 | 3 => simp [tickUnitOf]
  | n + 4 => simp [tickUnitOf]

theorem exists_interval_iff (n : Nat) : (∃ interval, intervalOf n = some interval) ↔ n ≤ 3 := by
  match n with
  | 0 | 1 | 2 | 3 => simp [intervalOf]
  | n + 4 => simp [intervalOf]

theorem toNat_tickUnitCode {n : Nat} {unit : TickUnit} (h : tickUnitOf n = some unit) : (tickUnitCode unit).toNat = n := by
  match n, h with
  | 0, rfl | 1, rfl | 2, rfl | 3, rfl => rfl

theorem toNat_intervalCode {n : Nat} {interval : SampleInterval} (h : intervalOf n = some interval) :
    (intervalCode interval).toNat = n := by
  match n, h with
  | 0, rfl | 1, rfl | 2, rfl | 3, rfl => rfl

section Operands

variable {pl : List Byte} {x : Profile}

theorem profileOperands_eq_none (h : ¬LegalProfile pl) : profileOperands pl = none := by
  unfold profileOperands
  split
  next unit interval hu hi =>
    refine if_neg fun counts => h ⟨?_, ?_, fun l => ?_⟩
    · exact fieldAt_byte pl 0 ▸ (exists_tickUnit_iff _).1 ⟨unit, hu⟩
    · exact fieldAt_byte pl 1 ▸ (exists_interval_iff _).1 ⟨interval, hi⟩
    · exact fieldAt_byte pl _ ▸ of_decide_eq_true (List.all_eq_true.1 counts l (List.mem_finRange l))
  next => rfl

theorem exists_profileOperands (h : LegalProfile pl) : ∃ x, profileOperands pl = some x := by
  obtain ⟨unitLegal, intervalLegal, counts⟩ := h
  simp only [← fieldAt_byte] at unitLegal intervalLegal counts
  obtain ⟨unit, hu⟩ := (exists_tickUnit_iff _).2 unitLegal
  obtain ⟨interval, hi⟩ := (exists_interval_iff _).2 intervalLegal
  simp only [profileOperands, hu, hi]
  exact ⟨_, if_pos (List.all_eq_true.2 fun l _ => decide_eq_true (counts l))⟩

/-- The profile that is taken from a payload is the one the payload carries, field by field. -/
theorem carriesProfile_profileOperands (length : pl.length = 38) (h : profileOperands pl = some x) :
    CarriesProfile pl x := by
  unfold profileOperands at h
  split at h
  next unit interval hu hi =>
    split at h
    next counts =>
      cases h
      refine ⟨length, ?_, ?_, fun l => ?_, fun l => ?_⟩
      · exact BitVec.eq_of_toNat_eq ((fieldAt_byte pl 0).symm.trans (toNat_tickUnitCode hu).symm)
      · exact BitVec.eq_of_toNat_eq ((fieldAt_byte pl 1).symm.trans (toNat_intervalCode hi).symm)
      · have small : fieldAt pl (2 + l.val) 1 ≤ 15 :=
          of_decide_eq_true (List.all_eq_true.1 counts l (List.mem_finRange l))
        rw [← fieldAt_byte]
        simp only [Fin.getElem_fin, Vector.getElem_ofFn, BitVec.toNat_ofNat]
        omega
      · simp
    next => cases h
  next => cases h

end Operands

/-! ### The change of profile -/

/-- The lines re-seeded under a new profile (R80, R150). -/
def reseededUnder (s : State) (x : Profile) : State := (s.withProfile x).reseed

/-- The state that the record of a change of profile is appended to (R80, R150 to R152). -/
def profiled (s : State) (x : Profile) : State := drivesEntered (reseededUnder s x)

theorem changeProfile_eq (s : State) (p : Port) (x : Profile) :
    s.changeProfile p x = (profiled s x).append everyPort s.timeCount (.profileChanged p x.tickUnit) := rfl

/-- A new profile moves no lease, no session and no record by itself. -/
theorem profiled_rest (s : State) (x : Profile) :
    SameTables s (profiled s x) ∧ SameSessions s (profiled s x) ∧ SameJournal s (profiled s x) := by
  simp [SameTables, SameSessions, SameJournal, profiled, drivesEntered, State.enterMonitors, reseededUnder, State.reseed]

/-- With the same sessions the same ports are OPEN. -/
theorem isOpen_of_sameSessions {s t : State} (h : SameSessions s t) : t.isOpen = s.isOpen := by
  funext q
  rw [State.isOpen, State.openFields, State.session, h]
  rfl

section Change

variable (s : State) (p : Port) (x : Profile)

/-- Of what `SameOutside` speaks of, the change replaces the profile alone (R150, R151). -/
theorem changeProfile_outside : SameOutside (s.withProfile x) (s.changeProfile p x) := by
  rw [changeProfile_eq, profiled, reseededUnder, State.reseed]
  exact ((withLines_outside _ _).trans (drivesEntered_outside _)).trans (append_outside _ _ _ _)

theorem changeProfile_profile : (s.changeProfile p x).profile = x := (changeProfile_outside s p x).profile

theorem changeProfile_line (l : Line) :
    (s.changeProfile p x).line l = enteredAnew (s.changeProfile p x) l { s.line l with run := 0 } := by
  rw [changeProfile_eq, enteredAnew_congr (effectiveDrive_append _ _ _ _ l) (append_outside _ _ _ _).profile,
    append_line, profiled, line_drivesEntered, reseededUnder, State.reseed, State.line_withLines]
  rfl

theorem changeProfile_engine (e : EngineNo) :
    (s.changeProfile p x).engine e = { s.engine e with out := (s.changeProfile p x).engineDrive e } := by
  rw [changeProfile_eq, append_engine, engineDrive_append, profiled, engine_drivesEntered, reseededUnder, State.reseed,
    State.engine_withLines]
  rfl

theorem changeProfile_appended :
    Appended s (s.changeProfile p x) (fun _ => true) s.timeCount (.profileChanged p x.tickUnit) := by
  obtain ⟨-, sessions, journal, nextSeq, -⟩ := profiled_rest s x
  have everyone : everyPort.get = fun _ => true := funext fun q => PerPort.get_of _ q
  have appended := appended_append (profiled s x) everyPort s.timeCount (.profileChanged p x.tickUnit)
  rwa [Appended, isOpen_of_sameSessions sessions, journal, nextSeq, everyone] at appended

theorem changeProfile_moved : OnlyJournalMoved s (s.changeProfile p x) := by
  obtain ⟨-, sessions, -⟩ := profiled_rest s x
  intro q
  rw [changeProfile_eq, append_moved, State.session, sessions]
  rfl

theorem changeProfile_tables : SameTables s (s.changeProfile p x) := by
  obtain ⟨⟨l, o, oc, w, tc⟩, -⟩ := profiled_rest s x
  obtain ⟨l', o', oc', w', tc'⟩ := append_tables (profiled s x) everyPort s.timeCount (.profileChanged p x.tickUnit)
  exact ⟨l'.trans l, o'.trans o, oc'.trans oc, w'.trans w, tc'.trans tc⟩

end Change

/-! ### SET PROFILE's body -/

section Bodies

variable {s : State} {p : Port} {pl : List Byte} {x : Profile}

theorem setProfileBody_badArgument (h : ¬LegalProfile pl) : setProfileBody s p pl = (s, bare .badArgument) := by
  simp [setProfileBody, profileOperands_eq_none h]

theorem setProfileBody_notQuiet (legal : LegalProfile pl)
    (busy : (∃ r, (s.entry r).state ≠ .free) ∨ s.waitList ≠ []) : setProfileBody s p pl = (s, bare .notQuiet) := by
  obtain ⟨x, operands⟩ := exists_profileOperands legal
  have notQuiet : s.quiet = false := by
    rw [quiet_eq, decide_eq_false_iff_not, not_and_or, not_forall]
    exact busy
  simp [setProfileBody, operands, notQuiet]

theorem setProfileBody_ok (operands : profileOperands pl = some x) (free : ∀ r, (s.entry r).state = .free)
    (nobodyWaits : s.waitList = []) : setProfileBody s p pl = (s.changeProfile p x, bare .ok) := by
  have quiet : s.quiet = true := by
    rw [quiet_eq]
    exact decide_eq_true ⟨free, nobodyWaits⟩
  simp [setProfileBody, operands, quiet]

end Bodies

/-! ### The request -/

theorem outside_withProfile {s t : State} (h : SameOutside s t) (x : Profile) :
    SameOutside (s.withProfile x) (t.withProfile x) := by
  obtain ⟨⟨force, timeCount, -, control⟩, ports⟩ := h
  exact ⟨⟨force, timeCount, rfl, control⟩, ports⟩

/-- An operation that leaves the ports alone, and then the answer: the request of the port is answered. -/
theorem answered_of_samePorts {s v : State} {p : Port} (f : Frame) (rep : Reply) (h : SamePorts (s.served p) v) :
    Answered s (v.answer p f.tag rep) p f rep.status rep.payload := by
  obtain ⟨ports, served⟩ := h
  have same : ∀ q, v.port q = s.port q := fun q => congrArg (PerPort.get · q) ports
  refine ⟨served, (port_answer_self (congrArg _ (same p))).trans (congrArg _ (same p)), fun q hq => ?_⟩
  simp [State.answer, hq, same]

/-- What moves journal counters and delivery states after the restart of a keepalive timer. -/
theorem restartedAside_of_moved {s v : State} {p : Port} (h : OnlyJournalMoved (taken s p) v) : RestartedAside s v p := by
  obtain ⟨own, others⟩ := restart_only s p
  exact ⟨(h p).trans (congrArg sessionFrame own), fun q hq => (h q).trans (congrArg sessionFrame (others q hq))⟩

/-- A record appended after a request is taken is appended to the journal of before. -/
theorem appended_of_taken {s t : State} {p : Port} {ps : Port → Bool} {time : Count} {body : RecordBody}
    (h : Appended (taken s p) t ps time body) : Appended s t ps time body := by
  obtain ⟨journal, nextSeq, -⟩ := taken_journal s p
  have isOpen : (taken s p).isOpen = s.isOpen := funext (taken_isOpen s p)
  rwa [Appended, isOpen, journal, nextSeq] at h

theorem length_of_ready {s : State} {rq : Request} {p : Port} {f : Frame} (h : Ready s rq p f) :
    f.payload.length = requestLength rq := by
  obtain ⟨-, -, length, -⟩ := h
  exact length

theorem enteredAnew_answer (s : State) (p : Port) (tag : Byte) (rep : Reply) (l : Line) (c : LineCell) :
    enteredAnew (s.answer p tag rep) l c = enteredAnew s l c := rfl

/-- Settles O48: the refusals are replies of SET PROFILE's body; on a quiet hub the change is made on the state with the
keepalive timer restarted. -/
theorem profileChanged : Obligations.ProfileChanged := by
  intro s p f ready passes
  refine ⟨fun illegal => ?badArgument, fun legal busy => ?notQuiet, fun legal free nobodyWaits => ?changed⟩
  case badArgument => exact take_of_reply rfl ready passes (setProfileBody_badArgument illegal)
  case notQuiet => exact take_of_reply rfl ready passes (setProfileBody_notQuiet legal (by simpa using busy))
  case changed =>
    have length : f.payload.length = 38 := length_of_ready ready
    obtain ⟨x, operands⟩ := exists_profileOperands legal
    have body : setProfileBody (taken s p) p f.payload = ((taken s p).changeProfile p x, bare .ok) :=
      setProfileBody_ok operands (by simpa using free) (by simpa using nobodyWaits)
    have outside : SameOutside ((s.served p).withProfile x) ((taken s p).changeProfile p x) :=
      (outside_withProfile (restart_outside s p) x).trans (changeProfile_outside (taken s p) p x)
    have time : (taken s p).timeCount = s.timeCount := (restart_outside s p).timeCount
    have tables := changeProfile_tables (taken s p) p x
    obtain ⟨⟨force, timeCount, profile, control⟩, ports⟩ := outside
    refine ⟨_, take_of_body rfl ready passes body, answered_of_samePorts f (bare .ok) ports, ?_, fun l => ?_, fun e => ?_,
      ?_, restartedAside_of_moved (changeProfile_moved (taken s p) p x), timeCount,
      by simpa [SameTables] using tables, force, control⟩
    · rw [State.answer_profile, profile]
      exact carriesProfile_profileOperands length operands
    · rw [State.line_answer, changeProfile_line, taken_line, enteredAnew_answer]
    · rw [State.engine_answer, changeProfile_engine, taken_engine, engineDrive_answer]
    · rw [State.answer_profile, profile, ← time]
      exact appended_of_taken (changeProfile_appended (taken s p) p x)

end Sys2Proof.Proofs
end

section
/-! PROOFS. What the engine requests share: the engine number, a due end, and an engine's happening in a request
(R98, R99, R114). -/

namespace Sys2Proof.Proofs

open Sys2Proof.Machine Sys2Proof.Safety Sys2Proof.Laws

/-! ### The engine number (R101, R102, R112, R113) -/

theorem engineOperand_eq_none {pl : List Byte} (h : 4 ≤ fieldAt pl 0 1) : engineOperand pl = none :=
  dif_neg (Nat.not_lt.2 h)

theorem engineOperand_eq_some_iff {pl : List Byte} {e : EngineNo} : engineOperand pl = some e ↔ fieldAt pl 0 1 = e.val := by
  unfold engineOperand
  split
  next => simp [Fin.ext_iff]
  next big => exact ⟨fun h => (Option.some_ne_none _ h.symm).elim, fun h => (big (h ▸ e.isLt)).elim⟩

/-! ### A due end (R99) -/

theorem noEndDue_of_idle {s : State} {e : EngineNo} (h : (s.engine e).state = .idle) : NoEndDue s e := by
  simp [NoEndDue, State.endDue, engineEnd, h]

theorem taken_timeCount (s : State) (p : Port) : (taken s p).timeCount = s.timeCount := (restart_outside s p).timeCount

theorem noEndDue_taken {s : State} {e : EngineNo} (p : Port) (h : NoEndDue s e) : NoEndDue (taken s p) e := by
  rwa [NoEndDue, State.endDue, taken_engine, taken_timeCount]

/-! ### The holder (R2) -/

theorem holds_iff_holderOf {s : State} {p : Port} {r : Resource} : s.holds p r = true ↔ s.holderOf r = some p :=
  decide_eq_true_iff

theorem holderOf_eq_none {s : State} {r : Resource} (h : ∀ q, s.holds q r = false) : s.holderOf r = none :=
  Option.eq_none_iff_forall_ne_some.2 fun q hq => Bool.false_ne_true ((h q).symm.trans (holds_iff_holderOf.2 hq))

/-! ### The pin after a new state (R114) -/

theorem setEngineState_engine_engineDrive (s : State) (e : EngineNo) (st : EngineState) :
    (s.setEngineState e st).engine e =
      { s.engine e with state := st, out := (s.setEngineState e st).engineDrive e } := by
  rw [setEngineState_engine, State.setEngineState, engineDrive_redrive]

/-! ### A request that makes an engine's happening -/

section Requests

variable {s v : State} {p : Port} {e : EngineNo}

/-- A happening of an engine after a request is taken is one of the state before, but for the keepalive timer. -/
theorem onlyEngine_of_happening (h : EngineHappening (taken s p) v e) : OnlyEngine s v e := by
  obtain ⟨⟨lines, others⟩, -⟩ := h
  obtain ⟨sameLines, -⟩ := taken_field s p
  exact ⟨lines.trans sameLines, fun k hk => (others k hk).trans (taken_engine s p k)⟩

theorem onlyEngine_answer (tag : Byte) (rep : Reply) (h : OnlyEngine s v e) :
    OnlyEngine s (v.answer p tag rep) e := by
  obtain ⟨lines, others⟩ := h
  exact ⟨lines, fun k hk => (State.engine_answer v p tag rep k).trans (others k hk)⟩

theorem sameTables_of_happening (tag : Byte) (rep : Reply) (h : EngineHappening (taken s p) v e) :
    SameTables s (v.answer p tag rep) := by
  obtain ⟨-, -, tables, -⟩ := h
  simpa [SameTables] using tables

theorem outside_of_happening (h : EngineHappening (taken s p) v e) : SameOutside (s.served p) v := by
  obtain ⟨-, -, -, outside⟩ := h
  exact (restart_outside s p).trans outside

end Requests

end Sys2Proof.Proofs
end

section
/-! PROOFS. CONFIGURE ENGINE (R100, R101). -/

namespace Sys2Proof.Proofs

open Sys2Proof.Machine Sys2Proof.Safety Sys2Proof.Laws

/-! ### Codes read back (R174) -/

section Codes

variable {n : Nat}

theorem modeOf_eq_some_iff {mode : Mode} : modeOf n = some mode ↔ n = (modeCode mode).toNat := by
  constructor
  · intro h
    unfold modeOf at h
    split at h <;> cases h <;> rfl
  · rintro rfl
    cases mode <;> rfl

theorem edgeOf_eq_some_iff {edge : Edge} : edgeOf n = some edge ↔ n = (edgeCode edge).toNat := by
  constructor
  · intro h
    unfold edgeOf at h
    split at h <;> cases h <;> rfl
  · rintro rfl
    cases edge <;> rfl

theorem levelOfCode_eq_some_iff {level : Level} : levelOfCode n = some level ↔ n = (levelCode level).toNat := by
  constructor
  · intro h
    unfold levelOfCode at h
    split at h <;> cases h <;> rfl
  · rintro rfl
    cases level <;> rfl

theorem triggerOf_eq_some_iff {trigger : Trigger} : triggerOf n = some trigger ↔ n = (triggerCode trigger).toNat := by
  constructor
  · intro h
    unfold triggerOf at h
    split at h <;> cases h <;> rfl
  · rintro rfl
    cases trigger <;> rfl

theorem toNat_lineCodeOrNone_some (l : Line) : (lineCodeOrNone (some l)).toNat = l.val := by
  rw [lineCodeOrNone, BitVec.toNat_ofNat]
  omega

theorem lineOrNoneOf_eq_some_iff {line : Option Line} : lineOrNoneOf n = some line ↔ n = (lineCodeOrNone line).toNat := by
  cases line with
  | none =>
    unfold lineOrNoneOf
    split_ifs with none_named <;> simp [lineCodeOrNone, none_named]
  | some l =>
    rw [toNat_lineCodeOrNone_some]
    unfold lineOrNoneOf
    split_ifs <;> simp [Fin.ext_iff] <;> omega

end Codes

/-- A flag byte with no undefined bit is the code of its flag. -/
theorem eq_boolCode_iff {b : Byte} {flag : Bool} : b = boolCode flag ↔ onlyBits 1 b = true ∧ b.getLsbD 0 = flag := by
  have bit : b.getLsbD 0 = decide (b.toNat % 2 = 1) := by simp [BitVec.getLsbD, Nat.testBit_zero]
  rw [← BitVec.toNat_inj, toNat_boolCode, onlyBits, decide_eq_true_iff, bit]
  cases flag <;> simp <;> omega

theorem fieldAt_eq_toNat_iff {pl : List Byte} {i : Nat} {b : Byte} : fieldAt pl i 1 = b.toNat ↔ byteAt pl i = b := by
  rw [fieldAt_byte, BitVec.toNat_inj]

/-! ### The configuration of a payload (R100, R101) -/

/-- The fields of a payload spell a configuration exactly when it carries that configuration and neither duration
is 0. -/
theorem configFields_eq_some_iff {pl : List Byte} {c : EngineConfig} :
    configFields pl = some c ↔ CarriesConfig pl c ∧ c.a ≠ 0 ∧ c.b ≠ 0 := by
  constructor
  · intro h
    unfold configFields at h
    split at h
    next mode input edge gate gateLevel trigger hmode hinput hedge hgate hlevel htrigger =>
      split at h
      next legal =>
        obtain ⟨a, b, flag⟩ := legal
        cases h
        exact ⟨⟨modeOf_eq_some_iff.1 hmode, rfl, rfl, rfl, fieldAt_eq_toNat_iff.1 (lineOrNoneOf_eq_some_iff.1 hinput),
          fieldAt_eq_toNat_iff.1 (edgeOf_eq_some_iff.1 hedge), fieldAt_eq_toNat_iff.1 (lineOrNoneOf_eq_some_iff.1 hgate),
          fieldAt_eq_toNat_iff.1 (levelOfCode_eq_some_iff.1 hlevel),
          fieldAt_eq_toNat_iff.1 (triggerOf_eq_some_iff.1 htrigger), eq_boolCode_iff.2 ⟨flag, rfl⟩⟩, a, b⟩
      next => cases h
    next => cases h
  · rintro ⟨⟨mode, a, b, repeats, input, edge, gate, level, trigger, flag⟩, ha, hb⟩
    obtain ⟨defined, bit⟩ := eq_boolCode_iff.1 flag
    simp only [configFields, modeOf_eq_some_iff.2 mode, lineOrNoneOf_eq_some_iff.2 (fieldAt_eq_toNat_iff.2 input),
      edgeOf_eq_some_iff.2 (fieldAt_eq_toNat_iff.2 edge), lineOrNoneOf_eq_some_iff.2 (fieldAt_eq_toNat_iff.2 gate),
      levelOfCode_eq_some_iff.2 (fieldAt_eq_toNat_iff.2 level), triggerOf_eq_some_iff.2 (fieldAt_eq_toNat_iff.2 trigger),
      a, b, repeats, bit]
    exact if_pos ⟨ha, hb, defined⟩

theorem goodConfig_iff {c : EngineConfig} : GoodConfig c ↔ c.a ≠ 0 ∧ c.b ≠ 0 ∧ wellFormedConfig c = true := by
  unfold GoodConfig wellFormedConfig
  rw [Nat.one_le_iff_ne_zero, Nat.one_le_iff_ne_zero]
  cases c.mode with
  | pulseTrain => simp
  | delayedPulse => cases c.trigger <;> simp [and_comm]
  | measureWidth | measurePeriod | countEdges => simp

theorem configureOperands_eq_some_iff {pl : List Byte} {e : EngineNo} {c : EngineConfig} :
    configureOperands pl = some (e, c) ↔ fieldAt pl 0 1 = e.val ∧ CarriesConfig pl c ∧ GoodConfig c := by
  constructor
  · intro h
    unfold configureOperands at h
    split at h
    next he hc =>
      split_ifs at h with wellFormed
      cases h
      obtain ⟨carried, a, b⟩ := configFields_eq_some_iff.1 hc
      exact ⟨engineOperand_eq_some_iff.1 he, carried, goodConfig_iff.2 ⟨a, b, wellFormed⟩⟩
    next => cases h
  · rintro ⟨number, carried, good⟩
    obtain ⟨a, b, wellFormed⟩ := goodConfig_iff.1 good
    simp only [configureOperands, engineOperand_eq_some_iff.2 number, configFields_eq_some_iff.2 ⟨carried, a, b⟩,
      wellFormed, if_true]

section Bodies

variable {s : State} {p : Port} {pl : List Byte} {e : EngineNo} {c : EngineConfig}

theorem configureBody_badArgument (h : configureOperands pl = none) : configureBody s p pl = (s, bare .badArgument) := by
  simp [configureBody, h]

theorem configureBody_notHolder (h : configureOperands pl = some (e, c))
    (notHeld : s.holds p (engineResource e) = false) : configureBody s p pl = (s, bare .notHolder) := by
  simp [configureBody, h, notHeld]

theorem configureBody_busy (h : configureOperands pl = some (e, c)) (held : s.holds p (engineResource e) = true)
    (noEnd : NoEndDue s e) (runs : (s.engine e).state ≠ .idle) : configureBody s p pl = (s, bare .busy) := by
  simp [configureBody, h, held, catchUp_of_not_due noEnd, runs]

theorem configureBody_ok (h : configureOperands pl = some (e, c)) (held : s.holds p (engineResource e) = true)
    (idle : (s.engine e).state = .idle) :
    configureBody s p pl = (s.withEngine e fun g => { g with config := some c }, bare .ok) := by
  simp [configureBody, h, held, catchUp_of_not_due (noEndDue_of_idle idle), idle]

end Bodies

/-- Settles O33: the operands are the engine and the configuration that the payload carries; the refusals are replies of
CONFIGURE ENGINE's body, and a configuration replaced is a happening of the engine that makes no record. -/
theorem engineConfigured : Obligations.EngineConfigured := by
  intro s p f ready passes
  refine ⟨fun bad => ?badArgument, fun e c number carried good => ?_⟩
  case badArgument =>
    have operands : configureOperands f.payload = none := by
      refine Option.eq_none_iff_forall_ne_some.2 fun ⟨e, c⟩ h => ?_
      obtain ⟨number, carried, good⟩ := configureOperands_eq_some_iff.1 h
      rcases bad with big | illFormed
      · omega
      · exact illFormed ⟨c, carried, good⟩
    exact take_of_reply rfl ready passes (configureBody_badArgument operands)
  have operands := configureOperands_eq_some_iff.2 ⟨number, carried, good⟩
  refine ⟨fun notHeld => ?notHolder, fun held noEnd runs => ?busy, fun held idle => ?replaced⟩
  case notHolder => exact take_of_reply rfl ready passes (configureBody_notHolder operands (by simpa using notHeld))
  case busy =>
    exact take_of_reply rfl ready passes
      (configureBody_busy operands (by simpa using held) (noEndDue_taken p noEnd) (by simpa using runs))
  case replaced =>
    have body := configureBody_ok (s := taken s p) (p := p) operands (by simpa using held) (by simpa using idle)
    have happening := withEngine_happening (taken s p) e fun g => { g with config := some c }
    have outside := outside_of_happening happening
    refine ⟨_, take_of_body rfl ready passes body, answered_of_outside f (bare .ok) outside, ?_,
      onlyEngine_answer _ _ (onlyEngine_of_happening happening), onlyRestarted_of_sessions (by simp),
      sameTables_of_happening _ _ happening, by simpa [SameJournal] using taken_journal s p, sameRest_answer _ _ outside⟩
    simp

end Sys2Proof.Proofs
end

section
/-! PROOFS. STOP ENGINE (R112, R115). -/

namespace Sys2Proof.Proofs

open Sys2Proof.Machine Sys2Proof.Safety Sys2Proof.Laws

/-! ### The partial value (R115) -/

theorem partialValue_eq (g : Engine) (c : EngineConfig) (now : Count) :
    partialValue g c now = (partialResult g c.mode now).1 := by
  unfold partialValue partialResult
  cases c.mode <;> rfl

theorem partialAux_eq (g : Engine) (c : EngineConfig) (now : Count) : partialAux g c = (partialResult g c.mode now).2 := by
  unfold partialAux partialResult
  cases c.mode <;> rfl

/-! ### A run that is ended -/

theorem holderSet_of_holds {s : State} {p : Port} {r : Resource} (h : s.holds p r = true) :
    (s.holderSet r).get = fun q => decide (q = p) := by
  rw [State.holderSet, holds_iff_holderOf.1 h]
  exact funext fun q => PerPort.get_of _ q

theorem holderSet_setEngineState (s : State) (e : EngineNo) (st : EngineState) (r : Resource) :
    (s.setEngineState e st).holderSet r = s.holderSet r := by
  simp only [State.holderSet, State.holderOf, State.entry_setEngineState]

section FinishRun

variable (s : State) (e : EngineNo) (mode : Mode) (outcome : EngineOutcome) (value aux : Nat) (time : Count)

theorem finishRun_engine :
    (s.finishRun e mode outcome value aux time).engine e =
      { s.engine e with state := .idle, out := (s.finishRun e mode outcome value aux time).engineDrive e } := by
  rw [State.finishRun, State.appendResult, append_engine, engineDrive_append, setEngineState_engine_engineDrive]

/-- The result is recorded for the engine's holder (R115). -/
theorem finishRun_appended :
    Appended s (s.finishRun e mode outcome value aux time) (s.holderSet (engineResource e)).get time
      (.engineResult e mode outcome value aux) := by
  have isOpen : (s.setEngineState e .idle).isOpen = s.isOpen :=
    isOpen_of_sameSessions (State.setEngineState_sessions s e .idle)
  have appended := appended_append (s.setEngineState e .idle) (s.holderSet (engineResource e)) time
    (.engineResult e mode outcome value aux)
  rw [State.finishRun, State.appendResult, holderSet_setEngineState]
  unfold Appended at appended ⊢
  rwa [isOpen, State.setEngineState_journal, State.setEngineState_nextSeq] at appended

end FinishRun

section StopEngine

variable {s : State} {e : EngineNo}

theorem stopEngine_idle (outcome : EngineOutcome) (idle : (s.engine e).state = .idle) : s.stopEngine outcome e = s :=
  if_pos idle

/-- A run that is ended from outside ends with the record of its partial value (R115). -/
theorem stopEngine_run {c : EngineConfig} (outcome : EngineOutcome) (config : (s.engine e).config = some c)
    (runs : (s.engine e).state ≠ .idle) :
    s.stopEngine outcome e =
      s.finishRun e c.mode outcome (partialResult (s.engine e) c.mode s.timeCount).1
        (partialResult (s.engine e) c.mode s.timeCount).2 s.timeCount := by
  rw [State.stopEngine, if_neg runs, config, ← partialValue_eq, ← partialAux_eq]

end StopEngine

/-! ### STOP ENGINE's body -/

section Bodies

variable {s : State} {p : Port} {pl : List Byte} {e : EngineNo}

theorem stopBody_badArgument (h : 4 ≤ fieldAt pl 0 1) : stopBody s p pl = (s, bare .badArgument) := by
  simp [stopBody, engineOperand_eq_none h]

theorem stopBody_notHolder (number : fieldAt pl 0 1 = e.val) (notHeld : s.holds p (engineResource e) = false) :
    stopBody s p pl = (s, bare .notHolder) := by
  simp [stopBody, engineOperand_eq_some_iff.2 number, notHeld]

theorem stopBody_ok (number : fieldAt pl 0 1 = e.val) (held : s.holds p (engineResource e) = true) (noEnd : NoEndDue s e) :
    stopBody s p pl = (s.stopEngine .stopped e, bare .ok) := by
  simp [stopBody, engineOperand_eq_some_iff.2 number, held, catchUp_of_not_due noEnd]

end Bodies

/-- Settles O35: an IDLE engine is left as it is; a run is ended on the state with the keepalive timer restarted, which
reads the same engine and the same count. -/
theorem engineStopped : Obligations.EngineStopped := by
  intro s p f ready passes
  refine ⟨fun big => take_of_reply rfl ready passes (stopBody_badArgument big), fun e number => ?_⟩
  refine ⟨fun notHeld => ?notHolder, fun held idle => ?idle, fun c config held runs noEnd => ?ended⟩
  case notHolder => exact take_of_reply rfl ready passes (stopBody_notHolder number (by simpa using notHeld))
  case idle =>
    have body := stopBody_ok (s := taken s p) (p := p) number (by simpa using held)
      (noEndDue_taken p (noEndDue_of_idle idle))
    rw [stopEngine_idle _ (by simpa using idle)] at body
    exact take_of_reply rfl ready passes body
  case ended =>
    have heldTaken : (taken s p).holds p (engineResource e) = true := by simpa using held
    have body := stopBody_ok number heldTaken (noEndDue_taken p noEnd)
    rw [stopEngine_run (c := c) _ (by simpa using config) (by simpa using runs), taken_engine, taken_timeCount]
      at body
    generalize partialResult (s.engine e) c.mode s.timeCount = result at body ⊢
    have happening := finishRun_happening (taken s p) e c.mode .stopped result.1 result.2 s.timeCount
    have appended := finishRun_appended (taken s p) e c.mode .stopped result.1 result.2 s.timeCount
    rw [holderSet_of_holds heldTaken] at appended
    have outside := outside_of_happening happening
    have ⟨_, moved, _⟩ := happening
    refine ⟨_, take_of_body rfl ready passes body, answered_of_outside f (bare .ok) outside, ?_,
      appended_of_taken appended, onlyEngine_answer _ _ (onlyEngine_of_happening happening),
      restartedAside_of_moved moved, sameTables_of_happening _ _ happening, sameRest_answer _ _ outside⟩
    rw [State.engine_answer, engineDrive_answer, finishRun_engine, taken_engine]

end Sys2Proof.Proofs
end

section
/-! PROOFS. ENGINE STATUS (R113, R176). -/

namespace Sys2Proof.Proofs

open Sys2Proof.Machine Sys2Proof.Safety Sys2Proof.Laws

/-! ### The payload -/

/-- The fifteen bytes of an engine's configuration, 0 without one. -/
def configArea (g : Engine) : List Byte :=
  match g.config with
  | some c => configBytes c
  | none => List.replicate 15 0

/-- The bytes of an engine's four counters. -/
def counterBytes (g : Engine) : List Byte :=
  bytesOfNat 4 g.elapsed ++ bytesOfNat 4 g.pulses ++ bytesOfNat 4 g.edges ++ bytesOfNat 4 g.ignored

section Payload

variable (s : State) (e : EngineNo)

theorem enginePayload_eq :
    s.enginePayload e =
      [engineStateCode (s.engine e).state, phaseCode (s.engine e).state, boolCode (s.engine e).config.isSome]
        ++ (configArea (s.engine e) ++ (counterBytes (s.engine e) ++
          [portCodeOrNone (s.holderOf (engineResource e)), levelCode (s.engine e).out])) := by
  simp only [counterBytes, State.enginePayload, List.append_assoc]
  rfl

theorem length_configArea (g : Engine) : (configArea g).length = 15 := by
  unfold configArea
  split <;> simp [configBytes, length_bytesOfNat]

theorem length_counterBytes (g : Engine) : (counterBytes g).length = 16 := by
  simp [counterBytes, length_bytesOfNat]

theorem length_enginePayload : (s.enginePayload e).length = 36 := by
  simp [enginePayload_eq, length_configArea, length_counterBytes]

theorem enginePayload_drop_configArea :
    (s.enginePayload e).drop 3 =
      configArea (s.engine e) ++ (counterBytes (s.engine e) ++
        [portCodeOrNone (s.holderOf (engineResource e)), levelCode (s.engine e).out]) := by
  rw [enginePayload_eq]
  rfl

theorem enginePayload_drop_counters :
    (s.enginePayload e).drop 18 =
      counterBytes (s.engine e) ++ [portCodeOrNone (s.holderOf (engineResource e)), levelCode (s.engine e).out] := by
  rw [show 18 = 3 + 15 from rfl, ← List.drop_drop, enginePayload_drop_configArea, List.drop_left' (length_configArea _)]

/-- The counters are read back modulo their field's range. -/
theorem fieldAt_enginePayload_counters :
    fieldAt (s.enginePayload e) 18 4 = (s.engine e).elapsed % 2 ^ 32 ∧
      fieldAt (s.enginePayload e) 22 4 = (s.engine e).pulses % 2 ^ 32 ∧
      fieldAt (s.enginePayload e) 26 4 = (s.engine e).edges % 2 ^ 32 ∧
      fieldAt (s.enginePayload e) 30 4 = (s.engine e).ignored % 2 ^ 32 := by
  have field : ∀ i, fieldAt (s.enginePayload e) (18 + i) 4 = fieldAt ((s.enginePayload e).drop 18) i 4 :=
    fun i => (fieldAt_drop _ 18 i 4).symm
  rw [enginePayload_drop_counters] at field
  exact ⟨(field 0).trans (natOfBytes_bytesOfNat 4 _), (field 4).trans (natOfBytes_bytesOfNat 4 _),
    (field 8).trans (natOfBytes_bytesOfNat 4 _), (field 12).trans (natOfBytes_bytesOfNat 4 _)⟩

theorem byteAt_enginePayload_holder :
    byteAt (s.enginePayload e) 34 = portCodeOrNone (s.holderOf (engineResource e)) := by
  rw [← byteAt_drop _ 18 16, enginePayload_drop_counters]
  rfl

theorem byteAt_enginePayload_pin : byteAt (s.enginePayload e) 35 = levelCode (s.engine e).out := by
  rw [← byteAt_drop _ 18 17, enginePayload_drop_counters]
  rfl

theorem enginePayload_taken (p : Port) : (taken s p).enginePayload e = s.enginePayload e := by
  simp only [State.enginePayload, State.holderOf, taken_engine, taken_entry]

end Payload

/-! ### The configuration in the payload -/

/-- The bytes of a configuration whose numbers fit their fields are read back as that configuration (R176). -/
theorem carriesConfig_configBytes {c : EngineConfig} (ha : c.a < 2 ^ 24) (hb : c.b < 2 ^ 24) (hr : c.repeatCount < 2 ^ 16)
    (first : Byte) (rest : List Byte) : CarriesConfig (first :: (configBytes c ++ rest)) c :=
  ⟨fieldAt_eq_toNat_iff.2 rfl, (natOfBytes_bytesOfNat 3 c.a).trans (Nat.mod_eq_of_lt ha),
    (natOfBytes_bytesOfNat 3 c.b).trans (Nat.mod_eq_of_lt hb),
    (natOfBytes_bytesOfNat 2 c.repeatCount).trans (Nat.mod_eq_of_lt hr), rfl, rfl, rfl, rfl, rfl, rfl⟩

theorem enginePayload_unconfigured {s : State} {e : EngineNo} (config : (s.engine e).config = none) :
    byteAt (s.enginePayload e) 2 = 0 ∧ ((s.enginePayload e).drop 3).take 15 = List.replicate 15 0 := by
  refine ⟨by rw [enginePayload_eq, config]; rfl, ?_⟩
  rw [enginePayload_drop_configArea, List.take_left' (length_configArea _), configArea, config]

theorem enginePayload_configured {s : State} {e : EngineNo} {c : EngineConfig} (config : (s.engine e).config = some c)
    (ha : c.a < 2 ^ 24) (hb : c.b < 2 ^ 24) (hr : c.repeatCount < 2 ^ 16) :
    byteAt (s.enginePayload e) 2 = 1 ∧ CarriesConfig ((s.enginePayload e).drop 2) c := by
  rw [enginePayload_eq, configArea, config]
  exact ⟨rfl, carriesConfig_configBytes ha hb hr _ _⟩

/-! ### The request -/

section Bodies

variable {s : State} {p : Port} {pl : List Byte} {e : EngineNo}

theorem engineStatusBody_badArgument (h : 4 ≤ fieldAt pl 0 1) : engineStatusBody s p pl = (s, bare .badArgument) := by
  simp [engineStatusBody, engineOperand_eq_none h]

theorem engineStatusBody_ok (number : fieldAt pl 0 1 = e.val) (noEnd : NoEndDue s e) :
    engineStatusBody s p pl = (s, { status := .ok, payload := s.enginePayload e }) := by
  simp [engineStatusBody, engineOperand_eq_some_iff.2 number, catchUp_of_not_due noEnd]

end Bodies

/-- Settles O36: with no end due the body only replies, and the payload is read back field by field. -/
theorem engineReported : Obligations.EngineReported := by
  intro s p f ready passes
  refine ⟨fun big => take_of_reply rfl ready passes (engineStatusBody_badArgument big), fun e number noEnd => ?_⟩
  have body := engineStatusBody_ok (p := p) number (noEndDue_taken p noEnd)
  rw [enginePayload_taken] at body
  obtain ⟨t, run, answered, only⟩ := take_of_reply rfl ready passes body
  obtain ⟨elapsed, pulses, edges, ignored⟩ := fieldAt_enginePayload_counters s e
  have holder := byteAt_enginePayload_holder s e
  refine ⟨t, run, _, answered, only, length_enginePayload s e, ?state, ?phase, enginePayload_unconfigured,
    fun c => enginePayload_configured, elapsed, pulses, edges, ignored, fun q held => ?held, fun free => ?free,
    byteAt_enginePayload_pin s e⟩
  case state => rw [enginePayload_eq]; rfl
  case phase => rw [enginePayload_eq]; rfl
  case held => rw [holder, holds_iff_holderOf.1 held, portCodeOrNone]
  case free => rw [holder, holderOf_eq_none free, portCodeOrNone]

end Sys2Proof.Proofs
end

section
/-! PROOFS. What the journal's own requests share: the fields of the session that asks, what they leave of the other
sessions, and the attention output (R30, R132, R135, R136, R140, R141). -/

namespace Sys2Proof.Proofs

open Sys2Proof.Machine Sys2Proof.Safety Sys2Proof.Laws

/-! ### The fields of an OPEN session -/

/-- The fields of an OPEN session whose keepalive timer is at its full period again (R30). -/
def refreshed (o : OpenSession) : OpenSession := { o with remaining := o.period }

theorem openFields_eq_some_iff {s : State} {p : Port} {o : OpenSession} :
    s.openFields p = some o ↔ (s.session p).state = .opened o := by
  refine ⟨state_of_openFields, fun state => ?_⟩
  rw [State.openFields, state]

theorem session_taken {s : State} {p : Port} {o : OpenSession} (h : s.openFields p = some o) :
    (taken s p).session p = { s.session p with state := .opened (refreshed o) } := by
  rw [taken, (restart_only s p).1, restarted, state_of_openFields h]
  rfl

theorem openFields_taken {s : State} {p : Port} {o : OpenSession} (h : s.openFields p = some o) :
    (taken s p).openFields p = some (refreshed o) := by
  rw [openFields_eq_some_iff, session_taken h]

theorem session_withOpen_self {s : State} {p : Port} {o : OpenSession} (f : OpenSession → OpenSession)
    (h : s.openFields p = some o) : (s.withOpen p f).session p = { s.session p with state := .opened (f o) } := by
  rw [State.session_withOpen, if_pos rfl, state_of_openFields h]

theorem records_congr {s t : State} (h : t.journal = s.journal) (p : Port) : t.records p = s.records p := by
  rw [State.records, h, State.records]

/-! ### What is left of the others -/

/-- Beside the kept records, only the session record and the attention output of port `p` moved. -/
structure OnlyOwnMoved (s t : State) (p : Port) : Prop where
  sessions : ∀ q, q ≠ p → t.session q = s.session q
  attn : ∀ q, q ≠ p → t.attn.get q = s.attn.get q
  nextSeq : t.nextSeq = s.nextSeq
  tables : SameTables s t
  field : SameField s t
  outside : SameOutside s t

theorem OnlyOwnMoved.trans {s t u : State} {p : Port} (h : OnlyOwnMoved s t p) (k : OnlyOwnMoved t u p) :
    OnlyOwnMoved s u p where
  sessions q hq := (k.sessions q hq).trans (h.sessions q hq)
  attn q hq := (k.attn q hq).trans (h.attn q hq)
  nextSeq := k.nextSeq.trans h.nextSeq
  tables := by
    obtain ⟨leases, offers, offerCounter, waitList, ticketCounter⟩ := h.tables
    obtain ⟨leases', offers', offerCounter', waitList', ticketCounter'⟩ := k.tables
    exact ⟨leases'.trans leases, offers'.trans offers, offerCounter'.trans offerCounter, waitList'.trans waitList,
      ticketCounter'.trans ticketCounter⟩
  field := ⟨k.field.1.trans h.field.1, k.field.2.trans h.field.2⟩
  outside := h.outside.trans k.outside

theorem withSession_own (s : State) (p : Port) (f : Session → Session) : OnlyOwnMoved s (s.withSession p f) p where
  sessions q hq := by rw [State.session_withSession, if_neg hq]
  attn _ _ := rfl
  nextSeq := rfl
  tables := by simp [SameTables]
  field := by simp [SameField]
  outside := withSession_outside s p f

theorem withOpen_own (s : State) (p : Port) (f : OpenSession → OpenSession) : OnlyOwnMoved s (s.withOpen p f) p where
  sessions q hq := by rw [State.session_withOpen, if_neg hq]
  attn q _ := by rw [State.withOpen_attn]
  nextSeq := s.withOpen_nextSeq p f
  tables := by simp [SameTables]
  field := by simp [SameField]
  outside := withOpen_outside s p f

theorem withJournal_own (s : State) (l : List Record) (p : Port) : OnlyOwnMoved s (s.withJournal l) p where
  sessions _ _ := rfl
  attn _ _ := rfl
  nextSeq := rfl
  tables := by simp [SameTables]
  field := by simp [SameField]
  outside := withJournal_outside s l

theorem reattend_own (s : State) (p : Port) : OnlyOwnMoved s (s.reattend (onlyPort p)) p where
  sessions _ _ := rfl
  attn q hq := by simp [onlyPort, hq]
  nextSeq := rfl
  tables := by simp [SameTables]
  field := by simp [SameField]
  outside := reattend_outside s (onlyPort p)

theorem taken_own (s : State) (p : Port) : OnlyOwnMoved (s.served p) (taken s p) p := withOpen_own (s.served p) p _

/-! ### The attention output (R140) -/

theorem attn_reattend_self (s : State) (p : Port) : (s.reattend (onlyPort p)).attn.get p = s.attentionDue p := by
  simp [onlyPort]

theorem attentionDue_iff {s : State} {p : Port} {o : OpenSession} (h : s.openFields p = some o) :
    s.attentionDue p = true ↔
      o.threshold ≤ s.pendingCount p ∨ s.pendingNotice p = true ∨ 0 < (s.session p).unreportedLost := by
  simp [State.attentionDue, h, or_assoc]

end Sys2Proof.Proofs
end

section
/-! PROOFS. SUBSCRIBE and SET ATTENTION (R132, R141). -/

namespace Sys2Proof.Proofs

open Sys2Proof.Machine Sys2Proof.Safety Sys2Proof.Laws

/-! ### SUBSCRIBE (R132) -/

section Subscribe

variable {s : State} {p : Port} {pl : List Byte}

theorem lineSetAt_eq_none {i : Nat} (h : 2 ^ 32 ≤ fieldAt pl i 5) : lineSetAt pl i = none := if_neg (Nat.not_lt.2 h)

theorem lineSetAt_eq_some {i : Nat} {set : LineSet} (h : fieldAt pl i 5 = set.toNat) : lineSetAt pl i = some set := by
  rw [lineSetAt, h, if_pos set.isLt, BitVec.ofNat_toNat, BitVec.setWidth_eq]

theorem subscribeBody_badArgument (h : 2 ^ 32 ≤ fieldAt pl 0 5 ∨ 2 ^ 32 ≤ fieldAt pl 5 5) :
    subscribeBody s p pl = (s, bare .badArgument) := by
  have operands : subscribeOperands pl = none := by
    unfold subscribeOperands
    rcases h with rise | fall
    · rw [lineSetAt_eq_none rise]
    · rw [lineSetAt_eq_none fall]
      cases lineSetAt pl 0 <;> rfl
  rw [subscribeBody, operands]

theorem subscribeBody_ok {rise fall : LineSet} (hr : fieldAt pl 0 5 = rise.toNat) (hf : fieldAt pl 5 5 = fall.toNat) :
    subscribeBody s p pl = (s.withOpen p fun o => { o with rise := rise, fall := fall }, bare .ok) := by
  simp only [subscribeBody, subscribeOperands, lineSetAt_eq_some hr, lineSetAt_eq_some hf]

end Subscribe

/-! ### SET ATTENTION (R141) -/

section SetAttention

variable {s : State} {p : Port} {pl : List Byte}

/-- A session's threshold replaced, and its attention output by R140. -/
def thresholdSet (s : State) (p : Port) (n : Nat) : State :=
  (s.withOpen p fun o => { o with threshold := n }).reattend (onlyPort p)

theorem attentionBody_badArgument (h : fieldAt pl 0 1 = 0 ∨ 128 < fieldAt pl 0 1) :
    attentionBody s p pl = (s, bare .badArgument) := by
  have operand : attentionOperand pl = none := if_neg (by omega)
  rw [attentionBody, operand]

theorem attentionBody_ok (low : 1 ≤ fieldAt pl 0 1) (high : fieldAt pl 0 1 ≤ 128) :
    attentionBody s p pl = (thresholdSet s p (fieldAt pl 0 1), bare .ok) := by
  have operand : attentionOperand pl = some (fieldAt pl 0 1) := if_pos ⟨low, high⟩
  rw [attentionBody, operand]
  rfl

theorem thresholdSet_own (s : State) (p : Port) (n : Nat) : OnlyOwnMoved s (thresholdSet s p n) p :=
  (withOpen_own s p _).trans (reattend_own _ p)

theorem thresholdSet_journal (s : State) (p : Port) (n : Nat) : (thresholdSet s p n).journal = s.journal := by
  simp [thresholdSet]

theorem session_thresholdSet {o : OpenSession} (n : Nat) (h : s.openFields p = some o) :
    (thresholdSet s p n).session p = { s.session p with state := .opened { o with threshold := n } } := by
  rw [thresholdSet, State.session_reattend, session_withOpen_self _ h]

theorem attn_thresholdSet_iff {o : OpenSession} (n : Nat) (h : s.openFields p = some o) :
    (thresholdSet s p n).attn.get p = true ↔
      n ≤ s.pendingCount p ∨ s.pendingNotice p = true ∨ 0 < (s.session p).unreportedLost := by
  have own := session_withOpen_self (fun o => { o with threshold := n }) h
  have records := records_congr (s.withOpen_journal p fun o => { o with threshold := n }) p
  rw [thresholdSet, attn_reattend_self, attentionDue_iff (openFields_eq_some_iff.2 (congrArg Session.state own)),
    State.pendingCount, State.pendingNotice, records, own]
  rfl

end SetAttention

/-- Settles O44: both requests refuse by their arguments, and otherwise replace fields of the OPEN session, which the
restart of the keepalive timer leaves OPEN. -/
theorem subscribedAndThresholdSet : Obligations.SubscribedAndThresholdSet := by
  refine ⟨fun s p f ready passes => ⟨fun bad => ?badSets, fun rise fall hr hf o fields => ?subscribed⟩,
    fun s p f ready passes => ⟨fun bad => ?badThreshold, fun low high o fields => ?thresholdSet⟩⟩
  case badSets => exact take_of_reply rfl ready passes (subscribeBody_badArgument bad)
  case subscribed =>
    have body := subscribeBody_ok (s := taken s p) (p := p) hr hf
    have own := (taken_own s p).trans (withOpen_own (taken s p) p fun o => { o with rise := rise, fall := fall })
    refine ⟨_, take_of_body rfl ready passes body, answered_of_outside f (bare .ok) own.outside, ?_, own.sessions,
      own.tables, own.field, by simpa [SameJournal] using taken_journal s p, sameRest_answer _ _ own.outside⟩
    rw [State.session_answer, session_withOpen_self _ (openFields_taken fields), session_taken fields]
    rfl
  case badThreshold => exact take_of_reply rfl ready passes (attentionBody_badArgument bad)
  case thresholdSet =>
    have body := attentionBody_ok (s := taken s p) (p := p) low high
    have own := (taken_own s p).trans (thresholdSet_own (taken s p) p (fieldAt f.payload 0 1))
    obtain ⟨journal, -, -⟩ := taken_journal s p
    refine ⟨_, take_of_body rfl ready passes body, answered_of_outside f (bare .ok) own.outside, ?_, own.sessions, ?_,
      own.attn, (thresholdSet_journal _ p _).trans journal, own.nextSeq, own.tables, own.field,
      sameRest_answer _ _ own.outside⟩
    · rw [State.session_answer, session_thresholdSet _ (openFields_taken fields), session_taken fields]
      rfl
    · rw [State.answer_attn, attn_thresholdSet_iff _ (openFields_taken fields), State.pendingCount, State.pendingNotice,
        records_congr journal, session_taken fields]
      rfl

end Sys2Proof.Proofs
end

section
/-! PROOFS. FETCH (R133 to R136). -/

namespace Sys2Proof.Proofs

open Sys2Proof.Machine Sys2Proof.Safety Sys2Proof.Laws

/-! ### A session's interest removed (R135) -/

theorem removeInterest_eq_flatMap (p : Port) (test : Record → Bool) (journal : List Record) :
    removeInterest p test journal =
      journal.flatMap fun r =>
        if r.interest.get p && test r then
          if isNoPort (r.interest.set p false) then [] else [{ r with interest := r.interest.set p false }]
        else [r] := by
  rw [removeInterest, List.filterMap_eq_flatMap_toList]
  congr 1
  funext r
  simp only [dropInterest]
  split_ifs <;> rfl

/-- What is kept of a record when a session's interest is removed from it is none of that session's records. -/
theorem not_interested_of_dropInterest {p : Port} {r kept : Record} (h : dropInterest p r = some kept) :
    kept.interest.get p = false := by
  unfold dropInterest at h
  dsimp only at h
  split at h
  · cases h
  · cases h
    simp

/-- The session's records that are left are those that the test does not hold of. -/
theorem records_removeInterest (p : Port) (test : Record → Bool) (journal : List Record) :
    (removeInterest p test journal).filter (fun r => r.interest.get p) =
      (journal.filter fun r => r.interest.get p).filter fun r => !test r := by
  have each (r : Record) :
      Option.filter (fun k => k.interest.get p) (if r.interest.get p && test r then dropInterest p r else some r) =
        Option.guard (fun k => !test k && k.interest.get p) r := by
    cases interest : r.interest.get p with
    | false => simp [Option.guard, interest]
    | true =>
      cases removed : test r with
      | false => simp [Option.guard, interest, removed]
      | true => simpa [Option.guard, removed] using fun k kept => not_interested_of_dropInterest (p := p) (r := r) kept
  rw [removeInterest, List.filter_filterMap, List.filter_filter, ← List.filterMap_eq_filter]
  exact congrArg (List.filterMap · journal) (funext each)

/-! ### The acknowledgement (R134, R135) -/

section Acknowledge

variable {s : State} {p : Port} {o : OpenSession} {n : Seq}

theorem validAck_iff : validAck o n = true ↔ GoodAck o n := by
  unfold validAck GoodAck
  split
  next absent => simp [absent]
  next m mark =>
    simp only [mark, Option.some.injEq, exists_eq_left']
    exact decide_eq_true_iff

theorem acknowledge_own (s : State) (p : Port) (o : OpenSession) (n : Seq) : OnlyOwnMoved s (s.acknowledge p o n) p :=
  ((withJournal_own s _ p).trans (withSession_own _ p _)).trans (reattend_own _ p)

theorem acknowledge_journal (s : State) (p : Port) (o : OpenSession) (n : Seq) :
    (s.acknowledge p o n).journal = removeInterest p (covered o n) s.journal := by
  simp [State.acknowledge]

theorem records_acknowledge (s : State) (p : Port) (o : OpenSession) (n : Seq) :
    (s.acknowledge p o n).records p = (s.records p).filter fun r => !covered o n r := by
  rw [State.records, acknowledge_journal, records_removeInterest, State.records]

/-- The fields of a session after its acknowledgement up to `n` (R135). -/
def acknowledgedFields (o : OpenSession) (n : Seq) : OpenSession :=
  { o with ackPoint := n, mark := if o.mark = some n then none else o.mark }

theorem session_acknowledge (s : State) (p : Port) (o : OpenSession) (n : Seq) :
    (s.acknowledge p o n).session p =
      { s.session p with
        acknowledged :=
          min 4294967295 ((s.session p).acknowledged +
            ((s.records p).length - ((s.records p).filter fun r => !covered o n r).length))
        state := .opened (acknowledgedFields o n) } := by
  have removed : ((s.records p).filter (covered o n)).length =
      (s.records p).length - ((s.records p).filter fun r => !covered o n r).length := by
    rw [List.length_eq_length_filter_add (covered o n) (l := s.records p)]
    omega
  rw [← removed]
  simp [State.acknowledge, satAdd, max32, acknowledgedFields]

end Acknowledge

/-! ### The delivery (R136) -/

section Deliver

variable {s : State} {p : Port} {o : OpenSession} (m : Nat)

/-- The state after a delivery that leaves the mark at `mark`. -/
def deliveredState (s : State) (p : Port) (mark : Option Seq) : State :=
  ((s.withOpen p fun o => { o with mark := mark }).withSession p fun x => { x with unreportedLost := 0 }).reattend
    (onlyPort p)

theorem deliver_eq (h : s.openFields p = some o) :
    s.deliver p m =
      (deliveredState s p (markDelivered o ((s.records p).take m)),
        { status := .ok
          payload :=
            deliveryPayload ((s.records p).take m) ((s.records p).length - ((s.records p).take m).length)
              (s.session p).unreportedLost ((markDelivered o ((s.records p).take m)).getD o.ackPoint) }) := by
  rw [State.deliver, h]
  rfl

theorem deliveredState_own (s : State) (p : Port) (mark : Option Seq) : OnlyOwnMoved s (deliveredState s p mark) p :=
  ((withOpen_own s p _).trans (withSession_own _ p _)).trans (reattend_own _ p)

theorem deliveredState_journal (s : State) (p : Port) (mark : Option Seq) :
    (deliveredState s p mark).journal = s.journal := by
  simp [deliveredState]

theorem session_deliveredState (mark : Option Seq) (h : s.openFields p = some o) :
    (deliveredState s p mark).session p =
      { s.session p with state := .opened { o with mark := mark }, unreportedLost := 0 } := by
  rw [deliveredState, State.session_reattend, State.session_withSession, if_pos rfl, session_withOpen_self _ h]

theorem attn_deliveredState (s : State) (p : Port) (mark : Option Seq) :
    (deliveredState s p mark).attn.get p = (deliveredState s p mark).attentionDue p := attn_reattend_self _ p

end Deliver

/-! ### FETCH's body (R134) -/

section Bodies

variable {s : State} {p : Port} {pl : List Byte} {o : OpenSession}

theorem fetchOperands_eq_none (h : fieldAt pl 5 1 = 0 ∨ 6 < fieldAt pl 5 1) : fetchOperands pl = none :=
  if_neg (by omega)

theorem fetchOperands_eq_some (low : 1 ≤ fieldAt pl 5 1) (high : fieldAt pl 5 1 ≤ 6) (flags : (byteAt pl 0).toNat ≤ 1) :
    fetchOperands pl =
      some
        { ack := if byteAt pl 0 = 1 then some (BitVec.ofNat 32 (fieldAt pl 1 4)) else none
          maximum := fieldAt pl 5 1 } := by
  have defined : onlyBits 1 (byteAt pl 0) = true := decide_eq_true (Nat.lt_succ_of_le flags)
  have bit : byteAt pl 0 = 1 ↔ (byteAt pl 0).getLsbD 0 = true := by
    rw [show (1 : Byte) = boolCode true from rfl, eq_boolCode_iff, and_iff_right defined]
  simp only [bit]
  exact if_pos ⟨defined, low, high⟩

theorem fetchBody_badArgument (h : fieldAt pl 5 1 = 0 ∨ 6 < fieldAt pl 5 1) :
    fetchBody s p pl = (s, bare .badArgument) := by
  rw [fetchBody, fetchOperands_eq_none h]

variable (low : 1 ≤ fieldAt pl 5 1) (high : fieldAt pl 5 1 ≤ 6) (flags : (byteAt pl 0).toNat ≤ 1)
include low high flags

theorem fetchBody_badAck (fields : s.openFields p = some o) (ack : byteAt pl 0 = 1)
    (bad : ¬GoodAck o (BitVec.ofNat 32 (fieldAt pl 1 4))) : fetchBody s p pl = (s, bare .badArgument) := by
  simp only [fetchBody, fetchOperands_eq_some low high flags, fields, if_pos ack, if_neg (mt validAck_iff.1 bad)]

theorem fetchBody_acknowledges (fields : s.openFields p = some o) (ack : byteAt pl 0 = 1)
    (good : GoodAck o (BitVec.ofNat 32 (fieldAt pl 1 4))) :
    fetchBody s p pl =
      (s.acknowledge p o (BitVec.ofNat 32 (fieldAt pl 1 4))).deliver p (fieldAt pl 5 1) := by
  simp only [fetchBody, fetchOperands_eq_some low high flags, fields, if_pos ack, if_pos (validAck_iff.2 good)]

theorem fetchBody_delivers (fields : s.openFields p = some o) (noAck : byteAt pl 0 ≠ 1) :
    fetchBody s p pl = s.deliver p (fieldAt pl 5 1) := by
  simp only [fetchBody, fetchOperands_eq_some low high flags, fields, if_neg noAck]

end Bodies

/-! ### The requests -/

/-- Settles O46: the maximum is checked first, then the acknowledgement, against the delivery state that the restart of
the keepalive timer leaves as it is. -/
theorem fetchRefused : Obligations.FetchRefused := by
  intro s p f ready passes flags o fields bad
  refine take_of_reply rfl ready passes (rep := bare .badArgument) ?_
  by_cases range : fieldAt f.payload 5 1 = 0 ∨ 6 < fieldAt f.payload 5 1
  · exact fetchBody_badArgument range
  · obtain ⟨ack, notGood⟩ := (or_assoc.2 bad).resolve_left range
    exact fetchBody_badAck (by omega) (by omega) flags (openFields_taken fields) ack notGood

/-- A FETCH whose body delivers from a state `v`, in which the session's fields are `o`. -/
theorem fetched_of_deliver {s v : State} {p : Port} {f : Frame} {o : OpenSession} {m : Nat} (ready : Ready s .fetch p f)
    (passes : Passes s p f) (own : OnlyOwnMoved (s.served p) v p) (fields : v.openFields p = some o)
    (body : fetchBody (taken s p) p f.payload = v.deliver p m) :
    let delivered := (v.records p).take m
    ∃ t, exec (.fetch p) s = .next t ∧
      Answered s t p f .ok
        (deliveryPayload delivered ((v.records p).length - delivered.length) (v.session p).unreportedLost
          ((markDelivered o delivered).getD o.ackPoint)) ∧
      t.session p =
        { v.session p with state := .opened { o with mark := markDelivered o delivered }, unreportedLost := 0 } ∧
      (∀ q, q ≠ p → t.session q = s.session q) ∧ t.journal = v.journal ∧ t.records p = v.records p ∧
      t.nextSeq = s.nextSeq ∧ t.attn.get p = t.attentionDue p ∧ (∀ q, q ≠ p → t.attn.get q = s.attn.get q) ∧
      SameTables s t ∧ SameField s t ∧ SameRest s t := by
  intro delivered
  have all := own.trans (deliveredState_own v p (markDelivered o delivered))
  have journal := deliveredState_journal v p (markDelivered o delivered)
  exact ⟨_, take_of_body rfl ready passes (body.trans (deliver_eq m fields)), answered_of_outside f _ all.outside,
    session_deliveredState _ fields, all.sessions, journal, records_congr journal p, all.nextSeq,
    attn_deliveredState v p _, all.attn, all.tables, all.field, sameRest_answer _ _ all.outside⟩

/-- Settles O45: the acknowledgement, if S is given, leaves the state from which the records that are left are
delivered. -/
theorem fetched : Obligations.Fetched := by
  intro s p f ready passes low high flags o fields n ack covered left delivered o' goodAck
  have takenFields := openFields_taken fields
  obtain ⟨journal, -, -⟩ := taken_journal s p
  have records := records_congr journal p
  by_cases given : ack
  case neg =>
    have none_covered : left = s.records p := by simp [left, covered, given]
    have body := fetchBody_delivers (p := p) low high flags takenFields given
    have result := fetched_of_deliver ready passes (taken_own s p) takenFields body
    rw [records, session_taken fields, journal] at result
    simpa [o', delivered, none_covered, given, covered, refreshed] using result
  case pos =>
    have covered_eq : Machine.covered (refreshed o) n = covered := by
      funext r
      exact decide_eq_decide.2 (and_iff_right given).symm
    have point : n = if ack then n else o.ackPoint := (if_pos given).symm
    have mark : (if o.mark = some n then none else o.mark) = if ack ∧ o.mark = some n then none else o.mark :=
      if_congr (and_iff_right given).symm rfl rfl
    have fieldsLeft : acknowledgedFields (refreshed o) n = o' :=
      congrArg₂ (fun n m => { refreshed o with ackPoint := n, mark := m }) point mark
    have body := fetchBody_acknowledges (p := p) low high flags takenFields given (goodAck given)
    have own := (taken_own s p).trans (acknowledge_own (taken s p) p (refreshed o) n)
    have session := session_acknowledge (taken s p) p (refreshed o) n
    have result := fetched_of_deliver ready passes own (openFields_eq_some_iff.2 (congrArg Session.state session)) body
    rw [session, records_acknowledge, acknowledge_journal, records, session_taken fields, journal,
      removeInterest_eq_flatMap, covered_eq, fieldsLeft] at result
    rw [if_pos given]
    exact result

end Sys2Proof.Proofs
end


section
/-! PROOFS. What an append does to a session record and to an attention output (R126 to R129, R133, R140). -/

namespace Sys2Proof.Proofs

open Sys2Proof.Machine Sys2Proof.Safety Sys2Proof.Laws

/-! ### Who is interested, and who loses a record -/

theorem interested_get (s : State) (ps : PortSet) (p : Port) : (s.interested ps).get p = (ps.get p && s.isOpen p) := by
  rw [State.interested, PerPort.get_of]

theorem isNoPort_iff (a : PortSet) : isNoPort a = true ↔ ∀ p, a.get p = false := by
  constructor
  · intro h p
    simp only [isNoPort, Bool.not_eq_true', Bool.or_eq_false_iff] at h
    obtain ⟨⟨h0, h1⟩, h2⟩ := h
    cases p <;> assumption
  · intro h
    simp [isNoPort, show a.hp0 = false from h .hp0, show a.hp1 = false from h .hp1, show a.hp2 = false from h .hp2]

theorem isNoPort_eq_false_iff (a : PortSet) : isNoPort a = false ↔ ∃ p, a.get p = true := by
  rw [← Bool.not_eq_true, isNoPort_iff, not_forall]
  simp only [Bool.not_eq_false]

theorem evictedInterest_get (s : State) (p : Port) :
    s.evictedInterest.get p =
      match s.journal.head? with
      | none => false
      | some r => decide (128 ≤ s.journal.length) && r.interest.get p := by
  have none_of (q : Port) : noPort.get q = false := by rw [noPort, PerPort.get_of]
  unfold State.evictedInterest Config.journalCapacity
  cases h : s.journal with
  | nil => simp [none_of]
  | cons r rest =>
    by_cases full : (r :: rest).length < 128
    · rw [if_pos full, none_of, List.head?_cons]
      simp only [decide_eq_false (Nat.not_le.2 full), Bool.false_and]
    · rw [if_neg full, List.head?_cons]
      simp only [decide_eq_true (Nat.not_lt.1 full), Bool.true_and]

theorem session_makeRoom (s : State) (p : Port) :
    s.makeRoom.session p = if s.evictedInterest.get p then countLoss (s.session p) else s.session p := by
  have none_of (q : Port) : noPort.get q = false := by rw [noPort, PerPort.get_of]
  unfold State.makeRoom State.evictedInterest
  split
  next => simp [none_of]
  next =>
    unfold State.evict
    cases s.journal with
    | nil => simp [none_of]
    | cons r rest => simp only [State.session, PerPort.get_of]

/-- What a session is told of in the journal once room is made: no longer the record that was evicted (R128). -/
theorem records_makeRoom (s : State) (p : Port) :
    s.records p = (if s.evictedInterest.get p then (s.records p).take 1 else []) ++ s.makeRoom.records p := by
  rw [evictedInterest_get, State.records, State.records, (makeRoom_journal s).1]
  cases h : s.journal with
  | nil => simp
  | cons r rest =>
    by_cases full : (r :: rest).length < 128
    · rw [if_pos full, List.head?_cons]
      simp only [decide_eq_false (Nat.not_le.2 full), Bool.false_and, Bool.false_eq_true, if_false, List.nil_append]
    · rw [if_neg full, List.head?_cons, List.tail_cons]
      simp only [decide_eq_true (Nat.not_lt.1 full), Bool.true_and]
      cases interest : r.interest.get p <;> simp [interest]

section Append

variable (s : State) (ps : PortSet) (time : Count) (body : RecordBody) (p : Port)

/-- The session record after the placing of a record in a journal that has room. -/
theorem session_place (interest : PortSet) :
    (s.place interest time body).session p =
      if interest.get p then countGiven (movePoint s.nextSeq (s.records p).isEmpty (s.session p))
      else movePoint s.nextSeq (s.records p).isEmpty (s.session p) := by
  simp only [State.place, State.session, PerPort.get_of]

/-- The session record after an append that somebody is interested in. -/
theorem session_append {s : State} {ps : PortSet} (h : isNoPort (s.interested ps) = false) :
    (s.append ps time body).session p =
      if ps.get p && s.isOpen p then countGiven (movePoint s.nextSeq (s.makeRoom.records p).isEmpty (s.makeRoom.session p))
      else movePoint s.nextSeq (s.makeRoom.records p).isEmpty (s.makeRoom.session p) := by
  rw [append_some h, State.session_reattend, session_place, interested_get, (makeRoom_journal s).2]

/-- The session's records after an append that somebody is interested in. -/
theorem records_append {s : State} {ps : PortSet} (h : isNoPort (s.interested ps) = false) :
    (s.append ps time body).records p =
      s.makeRoom.records p ++
        if ps.get p && s.isOpen p then
          [{ seq := s.nextSeq, time := time, body := body, interest := s.interested ps }]
        else [] := by
  rw [append_some h, State.records, State.reattend_journal, State.place, List.filter_append, State.records,
    (makeRoom_journal s).2]
  simp only [List.filter_cons, List.filter_nil, interested_get]

theorem attn_append {s : State} {ps : PortSet} (h : isNoPort (s.interested ps) = false) :
    (s.append ps time body).attn.get p =
      if (ps.get p && s.isOpen p) || s.evictedInterest.get p then (s.append ps time body).attentionDue p
      else s.attn.get p := by
  have room : s.makeRoom.attn = s.attn := by
    unfold State.makeRoom State.evict
    split
    · rfl
    · split <;> rfl
  rw [append_some h, State.attn_reattend, eitherPort, PerPort.get_of, interested_get]
  split
  · rfl
  · simp only [State.place, room]

end Append

/-! ### The parts of a session record (R128, R129, R133) -/

@[simp] theorem movePoint_given (next : Seq) (b : Bool) (x : Session) : (movePoint next b x).given = x.given := by
  unfold movePoint
  split <;> [split <;> rfl; rfl; rfl]

@[simp] theorem movePoint_acknowledged (next : Seq) (b : Bool) (x : Session) :
    (movePoint next b x).acknowledged = x.acknowledged := by
  unfold movePoint
  split <;> [split <;> rfl; rfl; rfl]

@[simp] theorem movePoint_lost (next : Seq) (b : Bool) (x : Session) : (movePoint next b x).lost = x.lost := by
  unfold movePoint
  split <;> [split <;> rfl; rfl; rfl]

@[simp] theorem movePoint_unreportedLost (next : Seq) (b : Bool) (x : Session) :
    (movePoint next b x).unreportedLost = x.unreportedLost := by
  unfold movePoint
  split <;> [split <;> rfl; rfl; rfl]

theorem movePoint_state {x : Session} {o : OpenSession} (next : Seq) (b : Bool) (h : x.state = .opened o) :
    (movePoint next b x).state = .opened (if b then { o with ackPoint := next - 1, mark := none } else o) := by
  unfold movePoint
  rw [h]
  cases b <;> simp [h]

theorem countLoss_state (x : Session) : (countLoss x).state = x.state := rfl

theorem countGiven_state (x : Session) : (countGiven x).state = x.state := rfl

theorem satInc_eq (largest n : Nat) : satInc largest n = if n < largest then n + 1 else n := rfl

/-- The open fields of a session after an append: those of before, or with the delivery state anew (R133). -/
theorem openFields_append {s : State} {ps : PortSet} {p : Port} {o : OpenSession} (time : Count) (body : RecordBody)
    (h : isNoPort (s.interested ps) = false) (fields : s.openFields p = some o) :
    (s.append ps time body).openFields p =
      some (if (s.makeRoom.records p).isEmpty then { o with ackPoint := s.nextSeq - 1, mark := none } else o) := by
  have state : (s.session p).state = .opened o := state_of_openFields fields
  have room : (s.makeRoom.session p).state = .opened o := by
    rw [session_makeRoom]
    split <;> simpa only [countLoss_state]
  rw [openFields_eq_some_iff, session_append time body p h]
  split <;> simpa only [countGiven_state] using movePoint_state _ _ room

/-- Settles O43. -/
theorem recordAppended : Obligations.RecordAppended := by
  unfold Obligations.RecordAppended
  intro s ps time body t evicted
  have appended := appended_append s ps time body
  have outside := append_outside s ps time body
  have nobody_iff : isNoPort (s.interested ps) = true ↔ ∀ p, (ps.get p && s.isOpen p) = false := by
    simp only [isNoPort_iff, interested_get]
  have somebody (h : ∃ p, (ps.get p && s.isOpen p) = true) : isNoPort (s.interested ps) = false :=
    (isNoPort_eq_false_iff _).2 (h.imp fun p hp => by rw [interested_get, hp])
  refine ⟨appended, fun nobody => append_none (nobody_iff.2 nobody) time body, fun h p o fields => ?_, fun h p => ?_,
    append_moved s ps time body, append_tables s ps time body, append_field s ps time body, outside.1, outside.2⟩
  · rw [openFields_append time body (somebody h) fields]
    have empty_iff : (s.makeRoom.records p).isEmpty =
        !(if s.journal.length < 128 then s.journal else s.journal.tail).any (fun r => r.interest.get p) := by
      rw [State.records, (makeRoom_journal s).1, Bool.eq_iff_iff]
      simp
    rw [empty_iff]
    cases (if s.journal.length < 128 then s.journal else s.journal.tail).any (fun r => r.interest.get p) <;> rfl
  · have lost_record : evicted p = s.evictedInterest.get p := (evictedInterest_get s p).symm
    rw [lost_record, attn_append time body p (somebody h), session_append time body p (somebody h)]
    cases ps.get p && s.isOpen p <;> cases loses : s.evictedInterest.get p <;>
      simp [countGiven, countLoss, session_makeRoom, loses, satInc_eq, t]

end Sys2Proof.Proofs
end


section
/-! PROOFS. What a happening at engines and lines is made of: records, line cells and counters that move no pin, and new
engine states. Every tick, edge, sample and stop is a run of such steps, so a rule that each step keeps holds through all
of them (R77 to R91, R99 to R118). -/

namespace Sys2Proof.Proofs

open Sys2Proof.Machine Sys2Proof.Safety Sys2Proof.Laws

/-! ### The ticks that are left to an engine (R99) -/

/-- The present count, and every tick that an engine has not yet taken, are among the times `ok`. -/
def TickTimes (ok : Count → Prop) (s : State) : Prop :=
  ok s.timeCount ∧
    ∀ e, ∀ k < (s.timeCount - (s.engine e).taken).toNat, ok ((s.engine e).taken + 1 + BitVec.ofNat 32 k)

theorem tickTimes_any (s : State) : TickTimes (fun _ => True) s := ⟨trivial, fun _ _ _ => trivial⟩

theorem toNat_sub_eq_zero {a b : Count} : (a - b).toNat = 0 ↔ b = a := by
  constructor
  · intro h
    have : a.toNat = b.toNat := by bv_omega
    exact BitVec.eq_of_toNat_eq this.symm
  · rintro rfl
    simp

/-- No engine lags by more than one tick exactly when every tick that is left is the present count's. -/
theorem tickTimes_now_iff (s : State) : TickTimes (· = s.timeCount) s ↔ TicksNear s := by
  unfold TickTimes TicksNear
  constructor
  · rintro ⟨-, ticks⟩ e
    by_cases none_left : (s.timeCount - (s.engine e).taken).toNat = 0
    · exact .inl (toNat_sub_eq_zero.1 none_left)
    · have first := ticks e 0 (Nat.pos_of_ne_zero none_left)
      exact .inr (by simpa using first)
  · intro near
    refine ⟨rfl, fun e k left => ?_⟩
    rcases near e with taken | taken
    · rw [taken] at left
      simp at left
    · have : k = 0 := by
        rw [← taken] at left
        have : ((s.engine e).taken + 1 - (s.engine e).taken).toNat = 1 := by bv_omega
        omega
      rw [this, ← taken]
      simp

/-- The engine took no tick, or the next one that was left to it. -/
def TookAtMostOne (now : Count) (g g' : Engine) : Prop := g'.taken = g.taken ∨ g.taken ≠ now ∧ g'.taken = g.taken + 1

/-! ### The steps -/

/-- One step of a happening at engines and lines, whose records carry times `ok`. -/
inductive FieldStep (ok : Count → Prop) : State → State → Prop
  | record {s : State} (ps : PortSet) (time : Count) (body : RecordBody) (now : ok time) :
      FieldStep ok s (s.append ps time body)
  | cells {s : State} (f : Line → LineCell → LineCell)
      (pins : ∀ l c, (f l c).drive = c.drive ∧ (f l c).direction = c.direction ∧ (f l c).commanded = c.commanded) :
      FieldStep ok s (s.withLines f)
  | counters {s : State} (e : EngineNo) (f : Engine → Engine)
      (same : ∀ g, (f g).state = g.state ∧ (f g).config = g.config ∧ (f g).out = g.out)
      (ticks : TookAtMostOne s.timeCount (s.engine e) (f (s.engine e))) : FieldStep ok s (s.withEngine e f)
  | run {s : State} (e : EngineNo) (st : EngineState) (running : st ≠ .idle → (s.engine e).state ≠ .idle) :
      FieldStep ok s (s.setEngineState e st)

/-- A happening at engines and lines. -/
abbrev FieldRun (ok : Count → Prop) : State → State → Prop := Relation.ReflTransGen (FieldStep ok)

theorem FieldRun.foldl {α : Type} {ok : Count → Prop} {I : State → Prop} {f : State → α → State}
    (step : ∀ s a, I s → FieldRun ok s (f s a)) (keeps : ∀ s t, FieldRun ok s t → I s → I t) (l : List α) {s : State}
    (h : I s) : FieldRun ok s (l.foldl f s) := by
  induction l generalizing s with
  | nil => exact .refl
  | cons a l ih => exact (step s a h).trans (ih (keeps _ _ (step s a h) h))

/-! ### What the steps leave alone -/

theorem FieldStep.tables {ok : Count → Prop} {s t : State} (h : FieldStep ok s t) : SameTables s t := by
  cases h with
  | record ps time body => exact append_tables s ps time body
  | cells f => simp [SameTables]
  | counters e f => simp [SameTables]
  | run e st =>
    obtain ⟨-, -, tables, -⟩ := setEngineState_happening s e st
    exact tables

theorem FieldStep.moved {ok : Count → Prop} {s t : State} (h : FieldStep ok s t) : OnlyJournalMoved s t := by
  cases h with
  | record ps time body => exact append_moved s ps time body
  | cells f => exact fun q => by rw [State.session, State.withLines_sessions, State.session]
  | counters e f => exact fun q => by rw [State.session, State.withEngine_sessions, State.session]
  | run e st =>
    obtain ⟨-, moved, -⟩ := setEngineState_happening s e st
    exact moved

theorem FieldStep.outside {ok : Count → Prop} {s t : State} (h : FieldStep ok s t) : SameOutside s t := by
  cases h with
  | record ps time body => exact append_outside s ps time body
  | cells f => exact withLines_outside s f
  | counters e f => exact withEngine_outside s e f
  | run e st => exact setEngineState_outside s e st

section Run

variable {ok : Count → Prop} {s t : State}

theorem FieldRun.tables (h : FieldRun ok s t) : SameTables s t := by
  induction h with
  | refl => exact ⟨rfl, rfl, rfl, rfl, rfl⟩
  | tail _ step ih =>
    obtain ⟨a1, a2, a3, a4, a5⟩ := ih
    obtain ⟨b1, b2, b3, b4, b5⟩ := step.tables
    exact ⟨b1.trans a1, b2.trans a2, b3.trans a3, b4.trans a4, b5.trans a5⟩

theorem FieldRun.moved (h : FieldRun ok s t) : OnlyJournalMoved s t := by
  induction h with
  | refl => exact fun _ => rfl
  | tail _ step ih => exact fun q => (step.moved q).trans (ih q)

theorem FieldRun.outside (h : FieldRun ok s t) : SameOutside s t := by
  induction h with
  | refl => exact .refl s
  | tail _ step ih => exact ih.trans step.outside

theorem FieldStep.engine (h : FieldStep ok s t) (e : EngineNo) :
    (t.engine e).config = (s.engine e).config ∧ TookAtMostOne s.timeCount (s.engine e) (t.engine e) := by
  cases h with
  | record ps time body => exact ⟨by rw [append_engine], .inl (by rw [append_engine])⟩
  | cells f => exact ⟨by rw [State.engine_withLines], .inl (by rw [State.engine_withLines])⟩
  | counters k f same ticks =>
    rw [State.engine_withEngine]
    split
    next here =>
      rw [here]
      exact ⟨(same _).2.1, ticks⟩
    next => exact ⟨rfl, .inl rfl⟩
  | run k st =>
    by_cases here : e = k
    · rw [here, setEngineState_engine]
      exact ⟨rfl, .inl rfl⟩
    · obtain ⟨⟨-, others⟩, -⟩ := setEngineState_happening s k st
      rw [others e here]
      exact ⟨rfl, .inl rfl⟩

theorem FieldRun.config (h : FieldRun ok s t) (e : EngineNo) : (t.engine e).config = (s.engine e).config := by
  induction h with
  | refl => rfl
  | tail _ step ih => exact (step.engine e).1.trans ih

/-- A step leaves an engine at most the ticks that were left to it. -/
theorem tickTimes_of_took {s t : State} (time : t.timeCount = s.timeCount)
    (took : ∀ e, TookAtMostOne s.timeCount (s.engine e) (t.engine e)) (h : TickTimes ok s) : TickTimes ok t := by
  obtain ⟨now, ticks⟩ := h
  refine ⟨time ▸ now, fun e k left => ?_⟩
  rw [time] at left
  rcases took e with same | ⟨behind, one⟩
  · rw [same] at left ⊢
    exact ticks e k left
  · rw [one] at left ⊢
    have ahead : (s.timeCount - (s.engine e).taken).toNat = (s.timeCount - ((s.engine e).taken + 1)).toNat + 1 := by
      have : s.timeCount.toNat ≠ (s.engine e).taken.toNat := fun h => behind (BitVec.eq_of_toNat_eq h.symm)
      bv_omega
    have : (s.engine e).taken + 1 + 1 + BitVec.ofNat 32 k = (s.engine e).taken + 1 + BitVec.ofNat 32 (k + 1) := by
      rw [BitVec.ofNat_add, BitVec.add_assoc, BitVec.add_assoc, BitVec.add_assoc, BitVec.add_comm (BitVec.ofNat 32 k)]
      rfl
    rw [this]
    exact ticks e (k + 1) (by omega)

theorem FieldRun.tickTimes (h : FieldRun ok s t) (ticks : TickTimes ok s) : TickTimes ok t := by
  induction h with
  | refl => exact ticks
  | tail _ step ih => exact tickTimes_of_took step.outside.timeCount (fun e => (step.engine e).2) ih

/-! ### Stops, ends and ticks (R99 to R118) -/

theorem withLine_fieldRun (l : Line) (f : LineCell → LineCell)
    (pins : ∀ c, (f c).drive = c.drive ∧ (f c).direction = c.direction ∧ (f c).commanded = c.commanded) :
    FieldRun ok s (s.withLine l f) :=
  .single (.cells _ fun k c => by
    split
    · exact pins c
    · exact ⟨rfl, rfl, rfl⟩)

/-- A change of an engine's counters alone. -/
theorem counters_fieldRun (e : EngineNo) (f : Engine → Engine)
    (same : ∀ g, (f g).state = g.state ∧ (f g).config = g.config ∧ (f g).out = g.out ∧ (f g).taken = g.taken) :
    FieldRun ok s (s.withEngine e f) :=
  .single (.counters e f (fun g => ⟨(same g).1, (same g).2.1, (same g).2.2.1⟩) (.inl (same _).2.2.2))

theorem setEngineState_fieldRun {e : EngineNo} (st : EngineState) (running : (s.engine e).state ≠ .idle) :
    FieldRun ok s (s.setEngineState e st) := .single (.run e st fun _ => running)

theorem append_fieldRun (ps : PortSet) {time : Count} (body : RecordBody) (now : ok time) :
    FieldRun ok s (s.append ps time body) := .single (.record ps time body now)

theorem finishRun_fieldRun (e : EngineNo) (m : Mode) (o : EngineOutcome) (v a : Nat) {time : Count} (now : ok time) :
    FieldRun ok s (s.finishRun e m o v a time) :=
  (Relation.ReflTransGen.single (.run e .idle fun h => absurd rfl h)).tail (.record _ time _ now)

theorem stopEngine_fieldRun (o : EngineOutcome) (e : EngineNo) (now : ok s.timeCount) : FieldRun ok s (s.stopEngine o e) := by
  unfold State.stopEngine
  split
  next => exact .refl
  next running =>
    split
    · exact setEngineState_fieldRun .idle running
    · exact finishRun_fieldRun e _ o _ _ now

theorem silenceEngine_fieldRun (e : EngineNo) : FieldRun ok s (s.silenceEngine e) := by
  unfold State.silenceEngine
  split
  next => exact .refl
  next running => exact setEngineState_fieldRun .idle running

theorem withEngine_state {e : EngineNo} {f : Engine → Engine} (same : ∀ g, (f g).state = g.state) :
    ((s.withEngine e f).engine e).state = (s.engine e).state := by rw [State.engine_withEngine, if_pos rfl, same]

theorem withEngine_running {e : EngineNo} {f : Engine → Engine} (same : ∀ g, (f g).state = g.state)
    (running : (s.engine e).state ≠ .idle) : ((s.withEngine e f).engine e).state ≠ .idle := by
  rwa [withEngine_state same]

theorem trainPulseEnd_fieldRun {e : EngineNo} (c : EngineConfig) {time : Count} (now : ok time)
    (running : (s.engine e).state ≠ .idle) : FieldRun ok s (s.trainPulseEnd e c time) := by
  have counted : FieldRun ok s (s.withEngine e fun g => { g with pulses := g.pulses + 1 }) :=
    counters_fieldRun e _ fun _ => ⟨rfl, rfl, rfl, rfl⟩
  unfold State.trainPulseEnd
  dsimp only
  split
  · exact finishRun_fieldRun e _ _ _ _ now
  · split
    · exact counted.trans (finishRun_fieldRun e _ _ _ _ now)
    · exact counted.trans (setEngineState_fieldRun _ (withEngine_running (fun _ => rfl) running))

theorem delayedPulseEnd_fieldRun {e : EngineNo} (c : EngineConfig) {time : Count} (now : ok time)
    (running : (s.engine e).state ≠ .idle) : FieldRun ok s (s.delayedPulseEnd e c time) := by
  have counted : FieldRun ok s (s.withEngine e fun g => { g with pulses := g.pulses + 1 }) :=
    counters_fieldRun e _ fun _ => ⟨rfl, rfl, rfl, rfl⟩
  unfold State.delayedPulseEnd
  dsimp only
  split
  · exact finishRun_fieldRun e _ _ _ _ now
  · exact (counted.trans (setEngineState_fieldRun _ (withEngine_running (fun _ => rfl) running))).trans (append_fieldRun _ _ now)

theorem windowEnd_fieldRun {e : EngineNo} (c : EngineConfig) {time : Count} (now : ok time)
    (running : (s.engine e).state ≠ .idle) : FieldRun ok s (s.windowEnd e c time) := by
  have counted : FieldRun ok s (s.withEngine e fun g => { g with edges := 0 }) :=
    counters_fieldRun e _ fun _ => ⟨rfl, rfl, rfl, rfl⟩
  unfold State.windowEnd
  dsimp only
  split
  · exact (counted.trans (setEngineState_fieldRun _ (withEngine_running (fun _ => rfl) running))).trans (append_fieldRun _ _ now)
  · exact finishRun_fieldRun e _ _ _ _ now

theorem engineAct_fieldRun {e : EngineNo} {time : Count} (now : ok time) : FieldRun ok s (s.engineAct e time) := by
  unfold State.engineAct
  split
  next => exact .refl
  next c config =>
    split
    next => exact .refl
    next => exact .refl
    next => exact finishRun_fieldRun e _ _ _ _ now
    next => exact finishRun_fieldRun e _ _ _ _ now
    next state => exact setEngineState_fieldRun _ (by simp [state])
    next state => exact trainPulseEnd_fieldRun c now (by simp [state])
    next state => exact setEngineState_fieldRun _ (by simp [state])
    next state => exact delayedPulseEnd_fieldRun c now (by simp [state])
    next state => exact windowEnd_fieldRun c now (by simp [state])

theorem takeTick_fieldRun {e : EngineNo} (ticks : TickTimes ok s) (left : (s.engine e).taken ≠ s.timeCount) :
    FieldRun ok s (s.takeTick e) := by
  have time : ok ((s.engine e).taken + 1) := by
    have := ticks.2 e 0 (Nat.pos_of_ne_zero fun h => left (toNat_sub_eq_zero.1 h))
    simpa using this
  have counted : FieldRun ok s (s.withEngine e fun g =>
      { g with
        taken := (s.engine e).taken + 1
        elapsed := if countsTicks g.state then satInc max32 g.elapsed else g.elapsed }) :=
    .single (.counters e _ (fun _ => ⟨rfl, rfl, rfl⟩) (.inr ⟨left, rfl⟩))
  unfold State.takeTick
  dsimp only
  split
  · exact counted.trans (engineAct_fieldRun time)
  · exact counted

end Run

theorem taken_setEngineState (s : State) (e : EngineNo) (st : EngineState) :
    ((s.setEngineState e st).engine e).taken = (s.engine e).taken := by rw [setEngineState_engine]

theorem taken_finishRun (s : State) (e : EngineNo) (m : Mode) (o : EngineOutcome) (v a : Nat) (time : Count) :
    ((s.finishRun e m o v a time).engine e).taken = (s.engine e).taken := by
  rw [State.finishRun, State.appendResult, append_engine, taken_setEngineState]

theorem taken_engineAct (s : State) (e : EngineNo) (time : Count) :
    ((s.engineAct e time).engine e).taken = (s.engine e).taken := by
  unfold State.engineAct State.trainPulseEnd State.delayedPulseEnd State.windowEnd State.appendResult
  dsimp only
  repeat' split
  all_goals simp [taken_setEngineState, taken_finishRun, append_engine]

theorem taken_takeTick (s : State) (e : EngineNo) : ((s.takeTick e).engine e).taken = (s.engine e).taken + 1 := by
  unfold State.takeTick
  dsimp only
  split
  · rw [taken_engineAct, State.engine_withEngine, if_pos rfl]
  · rw [State.engine_withEngine, if_pos rfl]

/-- An end that is due is a tick that the engine has not yet taken. -/
theorem left_of_endDue {s : State} {e : EngineNo} (due : s.endDue e = true) : (s.engine e).taken ≠ s.timeCount := by
  rintro same
  unfold State.endDue at due
  split at due
  · cases due
  · simp [same] at due

/-- One tick fewer is left after a tick is taken. -/
theorem left_takeTick {s : State} {e : EngineNo} (left : (s.engine e).taken ≠ s.timeCount) :
    ((s.takeTick e).timeCount - ((s.takeTick e).engine e).taken).toNat + 1 = (s.timeCount - (s.engine e).taken).toNat := by
  rw [(takeTick_outside s e).timeCount, taken_takeTick]
  have : s.timeCount.toNat ≠ (s.engine e).taken.toNat := fun h => left (BitVec.eq_of_toNat_eq h.symm)
  bv_omega

section Ticks

variable {ok : Count → Prop} {s : State}

theorem takeTicks_fieldRun (e : EngineNo) (fuel : Nat) (ticks : TickTimes ok s) : FieldRun ok s (s.takeTicks e fuel) := by
  induction fuel generalizing s with
  | zero => exact .refl
  | succ fuel ih =>
    unfold State.takeTicks
    split
    next due =>
      have taken := takeTick_fieldRun ticks (left_of_endDue due)
      exact taken.trans (ih (FieldRun.tickTimes taken ticks))
    next => exact .refl

theorem takeNext_fieldRun (e : EngineNo) (n : Nat) (ticks : TickTimes ok s)
    (enough : n ≤ (s.timeCount - (s.engine e).taken).toNat) : FieldRun ok s (s.takeNext e n) := by
  induction n generalizing s with
  | zero => exact .refl
  | succ n ih =>
    have left : (s.engine e).taken ≠ s.timeCount := fun h => by
      rw [toNat_sub_eq_zero.2 h] at enough
      omega
    have taken := takeTick_fieldRun ticks left
    exact taken.trans (ih (FieldRun.tickTimes taken ticks) (by have := left_takeTick left; omega))

theorem takeToEnd_fieldRun (e : EngineNo) (n : Nat) (ticks : TickTimes ok s)
    (enough : n ≤ (s.timeCount - (s.engine e).taken).toNat) : FieldRun ok s (s.takeToEnd e n) := by
  induction n generalizing s with
  | zero => exact .refl
  | succ n ih =>
    have left : (s.engine e).taken ≠ s.timeCount := fun h => by
      rw [toNat_sub_eq_zero.2 h] at enough
      omega
    have taken := takeTick_fieldRun ticks left
    unfold State.takeToEnd
    split
    · exact taken
    · exact taken.trans (ih (FieldRun.tickTimes taken ticks) (by have := left_takeTick left; omega))

theorem catchUp_fieldRun (e : EngineNo) (ticks : TickTimes ok s) : FieldRun ok s (s.catchUp e) := takeTicks_fieldRun e _ ticks

theorem settleTicks_fieldRun (e : EngineNo) (ticks : TickTimes ok s) : FieldRun ok s (s.settleTicks e) :=
  takeNext_fieldRun e _ ticks le_rfl

theorem endTick_fieldRun (e : EngineNo) (mode : Mode) (ticks : TickTimes ok s) : FieldRun ok s (s.endTick e mode) := by
  unfold State.endTick
  split
  · exact takeToEnd_fieldRun e _ ticks le_rfl
  · exact .refl

theorem catchUpAll_fieldRun (es : List EngineNo) (ticks : TickTimes ok s) : FieldRun ok s (s.catchUpAll es) :=
  FieldRun.foldl (I := TickTimes ok) (fun _ e h => catchUp_fieldRun e h) (fun _ _ h k => FieldRun.tickTimes h k) es ticks

theorem settleAll_fieldRun (es : List EngineNo) (ticks : TickTimes ok s) :
    FieldRun ok s (es.foldl State.settleTicks s) :=
  FieldRun.foldl (I := TickTimes ok) (fun _ e h => settleTicks_fieldRun e h) (fun _ _ h k => FieldRun.tickTimes h k) es ticks

theorem stopAll_fieldRun (o : EngineOutcome) (es : List EngineNo) (ticks : TickTimes ok s) :
    FieldRun ok s (es.foldl (fun s e => State.stopEngine s o e) s) :=
  FieldRun.foldl (I := TickTimes ok) (fun _ e h => stopEngine_fieldRun o e h.1) (fun _ _ h k => FieldRun.tickTimes h k) es ticks

theorem silenceAll_fieldRun (es : List EngineNo) : FieldRun ok s (es.foldl State.silenceEngine s) :=
  FieldRun.foldl (I := fun _ => True) (fun _ e _ => silenceEngine_fieldRun e) (fun _ _ _ _ => trivial) es trivial

/-! ### Edges (R104 to R110) -/

theorem countEdge_fieldRun (e : EngineNo) : FieldRun ok s (s.countEdge e) := counters_fieldRun e _ fun _ => ⟨rfl, rfl, rfl, rfl⟩

theorem countEdge_state (s : State) (e : EngineNo) : ((s.countEdge e).engine e).state = (s.engine e).state :=
  withEngine_state fun _ => rfl

/-- An edge is counted, and the engine takes a new state. -/
theorem countEdge_setEngineState_fieldRun {e : EngineNo} (st : EngineState) (running : (s.engine e).state ≠ .idle) :
    FieldRun ok s ((s.countEdge e).setEngineState e st) :=
  (countEdge_fieldRun e).trans (setEngineState_fieldRun st (by rwa [countEdge_state]))

theorem closeMeasurement_fieldRun {e : EngineNo} (c : EngineConfig) (opened : Count) (after : EngineState)
    (now : ok s.timeCount) (running : (s.engine e).state ≠ .idle) :
    FieldRun ok s (s.closeMeasurement e c opened after) :=
  (countEdge_setEngineState_fieldRun after running).trans (append_fieldRun _ _ now)

theorem gateEdge_fieldRun (e : EngineNo) (c : EngineConfig) (level : Level) : FieldRun ok s (s.gateEdge e c level) := by
  unfold State.gateEdge
  split
  next state =>
    split
    · exact .refl
    · exact setEngineState_fieldRun _ (by simp [state])
  next state =>
    split
    · exact setEngineState_fieldRun _ (by simp [state])
    · exact .refl
  all_goals exact .refl

theorem triggerEdge_fieldRun (e : EngineNo) (c : EngineConfig) : FieldRun ok s (s.triggerEdge e c) := by
  unfold State.triggerEdge
  split
  next state => exact countEdge_setEngineState_fieldRun _ (by simp [state])
  next => exact counters_fieldRun e _ fun _ => ⟨rfl, rfl, rfl, rfl⟩
  all_goals exact .refl

theorem widthEdge_fieldRun (e : EngineNo) (c : EngineConfig) (level : Level) (now : ok s.timeCount) :
    FieldRun ok s (s.widthEdge e c level) := by
  unfold State.widthEdge
  split
  next state =>
    split
    · exact countEdge_setEngineState_fieldRun _ (by simp [state])
    · exact .refl
  next state => exact closeMeasurement_fieldRun c _ _ now (by simp [state])
  all_goals exact .refl

theorem periodEdge_fieldRun (e : EngineNo) (c : EngineConfig) (now : ok s.timeCount) : FieldRun ok s (s.periodEdge e c) := by
  unfold State.periodEdge
  split
  next state => exact countEdge_setEngineState_fieldRun _ (by simp [state])
  next state => exact closeMeasurement_fieldRun c _ _ now (by simp [state])
  all_goals exact .refl

theorem counterEdge_fieldRun (e : EngineNo) : FieldRun ok s (s.counterEdge e) := by
  unfold State.counterEdge
  split
  next => exact countEdge_fieldRun e
  all_goals exact .refl

theorem edgeAtEngine_fieldRun (l : Line) (level : Level) (e : EngineNo) (now : ok s.timeCount) :
    FieldRun ok s (s.edgeAtEngine l level e) := by
  unfold State.edgeAtEngine
  split
  · exact .refl
  · split <;> split
    next => exact gateEdge_fieldRun e _ level
    next => exact .refl
    next => exact triggerEdge_fieldRun e _
    next => exact .refl
    next => exact widthEdge_fieldRun e _ level now
    next => exact .refl
    next => exact periodEdge_fieldRun e _ now
    next => exact .refl
    next => exact counterEdge_fieldRun e
    next => exact .refl

theorem edgeToEngine_fieldRun (l : Line) (level : Level) (e : EngineNo) (ticks : TickTimes ok s) :
    FieldRun ok s (State.edgeToEngine l level s e) := by
  unfold State.edgeToEngine
  split
  · have caught := catchUp_fieldRun e ticks
    exact caught.trans (edgeAtEngine_fieldRun l level e (FieldRun.tickTimes caught ticks).1)
  · exact .refl

/-! ### Samples and monitors (R77 to R91) -/

theorem enterFault_fieldRun (l : Line) (driven : Level) (now : ok s.timeCount) : FieldRun ok s (s.enterFault l driven) := by
  have faulted : FieldRun ok s (s.withLine l fun c => { c with monitor := .faulted }) :=
    withLine_fieldRun l _ fun _ => ⟨rfl, rfl, rfl⟩
  unfold State.enterFault
  exact faulted.trans (append_fieldRun _ _ now)

theorem settleEnd_fieldRun (l : Line) (now : ok s.timeCount) : FieldRun ok s (s.settleEnd l) := by
  unfold State.settleEnd
  split
  · exact withLine_fieldRun l _ fun _ => ⟨rfl, rfl, rfl⟩
  · split
    · exact withLine_fieldRun l _ fun _ => ⟨rfl, rfl, rfl⟩
    · exact enterFault_fieldRun l _ now

theorem settleStep_fieldRun (l : Line) (now : ok s.timeCount) : FieldRun ok s (s.settleStep l) := by
  unfold State.settleStep
  split
  · split
    · exact settleEnd_fieldRun l now
    · exact withLine_fieldRun l _ fun _ => ⟨rfl, rfl, rfl⟩
  all_goals exact .refl

theorem monitorEdge_fieldRun (l : Line) (now : ok s.timeCount) : FieldRun ok s (s.monitorEdge l) := by
  unfold State.monitorEdge
  split
  · split
    · exact .refl
    · exact enterFault_fieldRun l _ now
  · split
    · exact withLine_fieldRun l _ fun _ => ⟨rfl, rfl, rfl⟩
    · exact .refl
  all_goals exact .refl

theorem edgesToEngines_fieldRun (l : Line) (level : Level) (es : List EngineNo) (ticks : TickTimes ok s) :
    FieldRun ok s (es.foldl (State.edgeToEngine l level) s) :=
  FieldRun.foldl (I := TickTimes ok) (fun _ e h => edgeToEngine_fieldRun l level e h)
    (fun _ _ h k => FieldRun.tickTimes h k) es ticks

theorem edgeSteps_fieldRun (l : Line) (level : Level) (ticks : TickTimes ok s) : FieldRun ok s (s.edgeSteps l level) := by
  have recorded : FieldRun ok s (s.append (s.edgeRecipients l level) s.timeCount (.lineEdge l level)) :=
    append_fieldRun _ _ ticks.1
  have watched := recorded.trans (monitorEdge_fieldRun l (FieldRun.tickTimes recorded ticks).1)
  exact watched.trans (edgesToEngines_fieldRun l level _ (FieldRun.tickTimes watched ticks))

theorem filterStep_fieldRun (l : Line) (ticks : TickTimes ok s) : FieldRun ok s (s.filterStep l) := by
  unfold State.filterStep
  dsimp only
  split
  · exact withLine_fieldRun l _ fun _ => ⟨rfl, rfl, rfl⟩
  · split
    · have accepted : FieldRun ok s (s.withLine l fun c => { c with filtered := c.raw, run := 0 }) :=
        withLine_fieldRun l _ fun _ => ⟨rfl, rfl, rfl⟩
      exact accepted.trans (edgeSteps_fieldRun l _ (FieldRun.tickTimes accepted ticks))
    · exact withLine_fieldRun l _ fun _ => ⟨rfl, rfl, rfl⟩

theorem sampleLine_fieldRun (l : Line) (ticks : TickTimes ok s) : FieldRun ok s (s.sampleLine l) := by
  have filtered := filterStep_fieldRun l ticks
  exact filtered.trans (settleStep_fieldRun l (FieldRun.tickTimes filtered ticks).1)

theorem sample_fieldRun (levels : LineSet) (ticks : TickTimes ok s) : FieldRun ok s (s.sample levels) := by
  have read : FieldRun ok s (s.withLines fun l c => { c with raw := levelOf (levels.getLsbD l) }) :=
    .single (.cells _ fun _ _ => ⟨rfl, rfl, rfl⟩)
  exact read.trans (FieldRun.foldl (I := TickTimes ok) (fun _ l h => sampleLine_fieldRun l h)
    (fun _ _ h k => FieldRun.tickTimes h k) _ (FieldRun.tickTimes read ticks))

end Ticks

end Sys2Proof.Proofs
end


section
/-! PROOFS. The rules of the journal through every operation: its form, the balance of the counters, the attention
outputs, the ticks that are left and the times of the records (R124, R127 to R131, R140). -/

namespace Sys2Proof.Proofs

open Sys2Proof.Machine Sys2Proof.Safety Sys2Proof.Laws

/-! ### What the rules read of a session (R129, R139, R140) -/

/-- What the journal's rules read of a session record: the threshold while it is OPEN, and the counters. -/
def journalView (x : Session) : Option Nat × Nat × Nat × Nat × Nat :=
  (match x.state with
    | .opened o => some o.threshold
    | .closed => none
    | .lapsed => none, x.given, x.acknowledged, x.lost, x.unreportedLost)

/-- The bodies of the session's records, oldest first: they decide the pending count and the pending notice. -/
def bodies (s : State) (p : Port) : List RecordBody := (s.records p).map Record.body

theorem pendingCount_eq (s : State) (p : Port) : s.pendingCount p = (bodies s p).length := by
  simp [State.pendingCount, bodies]

theorem pendingNotice_eq (s : State) (p : Port) : s.pendingNotice p = (bodies s p).any isNotice := by
  simp [State.pendingNotice, bodies, Function.comp_def]

theorem isOpen_eq_journalView (s : State) (p : Port) : s.isOpen p = (journalView (s.session p)).1.isSome := by
  unfold State.isOpen State.openFields journalView
  cases (s.session p).state <;> rfl

theorem attentionDue_eq_journalView (s : State) (p : Port) :
    s.attentionDue p =
      match (journalView (s.session p)).1 with
      | none => false
      | some threshold =>
        decide (threshold ≤ (bodies s p).length) || (bodies s p).any isNotice ||
          decide (0 < (s.session p).unreportedLost) := by
  unfold State.attentionDue State.openFields journalView
  rw [pendingCount_eq, pendingNotice_eq]
  cases (s.session p).state <;> rfl

/-- The session of port `p` stands to the journal as it did. -/
structure SameStanding (s t : State) (p : Port) : Prop where
  view : journalView (t.session p) = journalView (s.session p)
  bodies : bodies t p = bodies s p

theorem SameStanding.isOpen {s t : State} {p : Port} (h : SameStanding s t p) : t.isOpen p = s.isOpen p := by
  rw [isOpen_eq_journalView, isOpen_eq_journalView, h.view]

/-- The counters of the session of port `p` balance (R129). -/
def Balanced (s : State) (p : Port) : Prop :=
  s.isOpen p = true → (s.session p).given < max32 →
    (s.session p).given = (s.session p).acknowledged + (s.session p).lost + s.pendingCount p

/-- The attention output of port `p` is at the level that R140 gives. -/
def Alert (s : State) (p : Port) : Prop := s.attn.get p = s.attentionDue p

theorem SameStanding.balanced {s t : State} {p : Port} (h : SameStanding s t p) (b : Balanced s p) : Balanced t p := by
  obtain ⟨view, same⟩ := h
  have counters := congrArg Prod.snd view
  simp only [journalView, Prod.mk.injEq] at counters
  obtain ⟨given, acknowledged, lost, -⟩ := counters
  unfold Balanced at b ⊢
  rw [SameStanding.isOpen ⟨view, same⟩, given, acknowledged, lost, pendingCount_eq, same, ← pendingCount_eq]
  exact b

theorem SameStanding.attentionDue {s t : State} {p : Port} (h : SameStanding s t p) :
    t.attentionDue p = s.attentionDue p := by
  obtain ⟨view, same⟩ := h
  have unreported : (t.session p).unreportedLost = (s.session p).unreportedLost :=
    congrArg (fun v => v.2.2.2.2) view
  rw [attentionDue_eq_journalView, attentionDue_eq_journalView, view, same, unreported]

theorem SameStanding.alert {s t : State} {p : Port} (h : SameStanding s t p) (attn : t.attn.get p = s.attn.get p)
    (a : Alert s p) : Alert t p := by
  unfold Alert at a ⊢
  rw [attn, a, h.attentionDue]

/-! ### Times that never decrease (R127) -/

/-- What an operation leaves of a record as it is: all but its interest. -/
def stamp (r : Record) : Seq × Count × RecordBody := (r.seq, r.time, r.body)

/-- The records that an operation adds stand at the newest end and carry times `ok`; those before them are records of
before, in their order. -/
def Stamped (ok : Count → Prop) (s t : State) : Prop :=
  ∃ kept new, t.journal = kept ++ new ∧ (∀ r ∈ new, ok r.time) ∧ (kept.map stamp).Sublist (s.journal.map stamp)

theorem Stamped.of_journal {ok : Count → Prop} {s t : State} (h : (t.journal.map stamp).Sublist (s.journal.map stamp)) :
    Stamped ok s t := ⟨t.journal, [], by simp, by simp, h⟩

/-- Of records that were added before, only such as carry times `ok` are left. -/
theorem ok_of_sublist {ok : Count → Prop} {new kept : List Record} (h : (kept.map stamp).Sublist (new.map stamp))
    (times : ∀ r ∈ new, ok r.time) : ∀ r ∈ kept, ok r.time := by
  intro r hr
  obtain ⟨r', hr', same⟩ := List.mem_map.1 (h.subset (List.mem_map_of_mem hr))
  have : r'.time = r.time := congrArg (fun x => x.2.1) same
  exact this ▸ times r' hr'

theorem Stamped.trans {ok : Count → Prop} {s t u : State} (h : Stamped ok s t) (k : Stamped ok t u) : Stamped ok s u := by
  obtain ⟨kept, new, journal, times, old⟩ := h
  obtain ⟨kept', new', journal', times', old'⟩ := k
  rw [journal, List.map_append] at old'
  obtain ⟨first, second, split, first_old, second_old⟩ := List.sublist_append_iff.1 old'
  obtain ⟨a, b, rfl, rfl, rfl⟩ := List.map_eq_append_iff.1 split
  refine ⟨a, b ++ new', by rw [journal', List.append_assoc], fun r hr => ?_, first_old.trans old⟩
  rcases List.mem_append.1 hr with hb | hn
  · exact ok_of_sublist second_old times r hb
  · exact times' r hn

/-! ### Operations that keep the rules -/

/-- The operation keeps the rules of the journal, those of single sessions for the ports `X`. -/
structure Sound (X : Port → Prop) (ok : Count → Prop) (s t : State) : Prop where
  time : t.timeCount = s.timeCount
  ticks : TickTimes ok s → TickTimes ok t
  stamped : Stamped ok s t
  wf : JournalWf s → JournalWf t
  balanced : ∀ p, X p → JournalWf s → Balanced s p → Balanced t p
  alert : ∀ p, X p → Alert s p → Alert t p

theorem Sound.refl (X : Port → Prop) (ok : Count → Prop) (s : State) : Sound X ok s s where
  time := rfl
  ticks := id
  stamped := .of_journal (List.Sublist.refl _)
  wf := id
  balanced _ _ _ := id
  alert _ _ := id

theorem Sound.trans {X : Port → Prop} {ok : Count → Prop} {s t u : State} (h : Sound X ok s t) (k : Sound X ok t u) :
    Sound X ok s u where
  time := k.time.trans h.time
  ticks := k.ticks ∘ h.ticks
  stamped := h.stamped.trans k.stamped
  wf := k.wf ∘ h.wf
  balanced p hp wf b := k.balanced p hp (h.wf wf) (h.balanced p hp wf b)
  alert p hp a := k.alert p hp (h.alert p hp a)

theorem Sound.foldl {α : Type} {X : Port → Prop} {ok : Count → Prop} {I : State → Prop} {f : State → α → State}
    (step : ∀ s a, I s → Sound X ok s (f s a)) (keeps : ∀ s a, I s → I (f s a)) (l : List α) {s : State} (h : I s) :
    Sound X ok s (l.foldl f s) := by
  induction l generalizing s with
  | nil => exact .refl X ok s
  | cons a l ih => exact (step s a h).trans (ih (keeps s a h))

section Steps

variable {X : Port → Prop} {ok : Count → Prop} {s t : State}

/-- The form of the journal depends on its records and on which sessions are OPEN. -/
theorem journalWf_congr (journal : t.journal = s.journal) (isOpen : ∀ p, s.isOpen p = true → t.isOpen p = true)
    (wf : JournalWf s) : JournalWf t := by
  obtain ⟨length, records⟩ := wf
  refine ⟨journal ▸ length, fun r hr => ?_⟩
  obtain ⟨interest, onlyOpen⟩ := records r (journal ▸ hr)
  exact ⟨interest, fun p hp => isOpen p (onlyOpen p hp)⟩

/-- What an operation leaves that touches the journal and its readers nowhere: the records, the attention outputs, the
time count, the ticks, and what the rules read of every session. -/
structure Aside (s t : State) : Prop where
  journal : t.journal = s.journal
  attn : t.attn = s.attn
  time : t.timeCount = s.timeCount
  ticks : ∀ e, TookAtMostOne s.timeCount (s.engine e) (t.engine e)
  sessions : ∀ p, journalView (t.session p) = journalView (s.session p)

theorem bodies_congr (journal : t.journal = s.journal) (p : Port) : bodies t p = bodies s p := by
  rw [bodies, records_congr journal, bodies]

theorem Aside.standing (h : Aside s t) (p : Port) : SameStanding s t p := ⟨h.sessions p, bodies_congr h.journal p⟩

theorem Aside.sound (h : Aside s t) : Sound X ok s t where
  time := h.time
  ticks := tickTimes_of_took h.time h.ticks
  stamped := .of_journal (by rw [h.journal])
  wf := journalWf_congr h.journal fun p hp => by rw [(h.standing p).isOpen, hp]
  balanced p _ _ := (h.standing p).balanced
  alert p _ := (h.standing p).alert (by rw [h.attn])

theorem Aside.refl (s : State) : Aside s s := ⟨rfl, rfl, rfl, fun _ => .inl rfl, fun _ => rfl⟩

/-- Nothing that the journal's rules read is replaced. -/
theorem Aside.of_fields (journal : t.journal = s.journal) (attn : t.attn = s.attn) (time : t.timeCount = s.timeCount)
    (engines : ∀ e, (t.engine e).taken = (s.engine e).taken) (sessions : t.sessions = s.sessions) : Aside s t :=
  ⟨journal, attn, time, fun e => .inl (engines e), fun p => by rw [State.session, sessions, State.session]⟩

/-! ### An append (R127 to R129, R133, R140) -/

theorem journalView_movePoint (next : Seq) (b : Bool) (x : Session) :
    journalView (movePoint next b x) = journalView x := by
  cases state : x.state with
  | opened o =>
    simp only [journalView, movePoint_state next b state, state, movePoint_given, movePoint_acknowledged,
      movePoint_lost, movePoint_unreportedLost]
    cases b <;> rfl
  | closed => simp [movePoint, state]
  | lapsed => simp [movePoint, state]

theorem pendingCount_makeRoom (s : State) (p : Port) :
    s.pendingCount p = (if s.evictedInterest.get p then 1 else 0) + s.makeRoom.pendingCount p := by
  have records := records_makeRoom s p
  unfold State.pendingCount
  rw [records]
  split
  next evicted =>
    rw [List.length_append, List.length_take, min_eq_left]
    rw [evictedInterest_get] at evicted
    cases journal : s.journal with
    | nil => simp [journal] at evicted
    | cons r rest =>
      simp only [journal, List.head?_cons, Bool.and_eq_true] at evicted
      simp [State.records, journal, evicted.2]
  next => simp

theorem append_wf (ps : PortSet) (time : Count) (body : RecordBody) (wf : JournalWf s) :
    JournalWf (s.append ps time body) := by
  cases nobody : isNoPort (s.interested ps) with
  | true => rwa [append_none nobody]
  | false =>
    obtain ⟨length, records⟩ := wf
    have isOpen := isOpen_of_frame (append_moved s ps time body)
    obtain ⟨room, -⟩ := makeRoom_journal s
    have journal : (s.append ps time body).journal =
        s.makeRoom.journal ++ [{ seq := s.nextSeq, time := time, body := body, interest := s.interested ps }] := by
      rw [append_some nobody, State.reattend_journal, State.place, (makeRoom_journal s).2]
    have old : ∀ r ∈ s.makeRoom.journal, r ∈ s.journal := by
      rw [room]
      split
      · exact fun r hr => hr
      · exact fun r hr => List.mem_of_mem_tail hr
    refine ⟨?_, fun r hr => ?_⟩
    · rw [journal, List.length_append, room]
      unfold Config.journalCapacity at length ⊢
      split
      · simpa using by assumption
      · rw [List.length_tail, List.length_singleton]
        omega
    · rw [journal] at hr
      rcases List.mem_append.1 hr with hr | hr
      · obtain ⟨interest, onlyOpen⟩ := records r (old r hr)
        exact ⟨interest, fun p hp => by rw [isOpen, onlyOpen p hp]⟩
      · rw [List.mem_singleton.1 hr]
        refine ⟨nobody, fun p hp => ?_⟩
        rw [interested_get, Bool.and_eq_true] at hp
        rw [isOpen, hp.2]

theorem append_balanced (ps : PortSet) (time : Count) (body : RecordBody) (p : Port) (b : Balanced s p) :
    Balanced (s.append ps time body) p := by
  cases nobody : isNoPort (s.interested ps) with
  | true => rwa [append_none nobody]
  | false =>
    have isOpen := isOpen_of_frame (append_moved s ps time body) p
    have count : (s.append ps time body).pendingCount p =
        s.makeRoom.pendingCount p + if ps.get p && s.isOpen p then 1 else 0 := by
      rw [State.pendingCount, records_append time body p nobody, List.length_append, State.pendingCount]
      split <;> rfl
    have room := pendingCount_makeRoom s p
    intro opened
    have before := b (isOpen ▸ opened)
    rw [count, session_append time body p nobody]
    cases ps.get p && s.isOpen p <;> cases evicted : s.evictedInterest.get p <;>
      simp only [evicted, if_true, if_false, Bool.false_eq_true, countGiven, countLoss, movePoint_given,
        movePoint_acknowledged, movePoint_lost, session_makeRoom, satInc_eq] at room ⊢ <;> grind

theorem append_standing {ps : PortSet} (time : Count) (body : RecordBody) {p : Port}
    (nobody : isNoPort (s.interested ps) = false) (notTold : (ps.get p && s.isOpen p) = false)
    (notEvicted : s.evictedInterest.get p = false) : SameStanding s (s.append ps time body) p where
  view := by
    rw [session_append time body p nobody, notTold, if_neg Bool.false_ne_true, journalView_movePoint, session_makeRoom,
      notEvicted, if_neg Bool.false_ne_true]
  bodies := by
    have records := records_makeRoom s p
    rw [notEvicted, if_neg Bool.false_ne_true, List.nil_append] at records
    rw [bodies, records_append time body p nobody, notTold, if_neg Bool.false_ne_true, List.append_nil, ← records, bodies]

theorem append_alert (ps : PortSet) (time : Count) (body : RecordBody) (p : Port) (a : Alert s p) :
    Alert (s.append ps time body) p := by
  cases nobody : isNoPort (s.interested ps) with
  | true => rwa [append_none nobody]
  | false =>
    by_cases concerned : ((ps.get p && s.isOpen p) || s.evictedInterest.get p) = true
    · unfold Alert
      rw [attn_append time body p nobody, if_pos concerned]
    · have attn := attn_append time body p nobody
      rw [if_neg concerned] at attn
      rw [Bool.not_eq_true, Bool.or_eq_false_iff] at concerned
      exact (append_standing time body nobody concerned.1 concerned.2).alert attn a

theorem append_stamped (ps : PortSet) {time : Count} (body : RecordBody) (now : ok time) :
    Stamped ok s (s.append ps time body) := by
  cases nobody : isNoPort (s.interested ps) with
  | true =>
    rw [append_none nobody]
    exact .of_journal (List.Sublist.refl _)
  | false =>
    refine ⟨s.makeRoom.journal, [{ seq := s.nextSeq, time := time, body := body, interest := s.interested ps }], ?_, ?_, ?_⟩
    · rw [append_some nobody, State.reattend_journal, State.place, (makeRoom_journal s).2]
    · exact fun r hr => by rw [List.mem_singleton.1 hr]; exact now
    · rw [(makeRoom_journal s).1]
      split
      · exact List.Sublist.refl _
      · exact (List.tail_sublist _).map _

theorem append_sound (ps : PortSet) {time : Count} (body : RecordBody) (now : ok time) :
    Sound X ok s (s.append ps time body) where
  time := (append_outside s ps time body).timeCount
  ticks := tickTimes_of_took (append_outside s ps time body).timeCount fun e => .inl (by rw [append_engine])
  stamped := append_stamped ps body now
  wf := append_wf ps time body
  balanced p _ _ := append_balanced ps time body p
  alert p _ := append_alert ps time body p

/-! ### Happenings at engines and lines -/

theorem FieldStep.sound (h : FieldStep ok s t) : Sound X ok s t := by
  cases h with
  | record ps time body now => exact append_sound ps body now
  | cells f => exact Aside.sound (.of_fields (by simp) (by simp) (by simp) (fun e => by simp) (by simp))
  | counters e f same ticks =>
    have took := fun k => ((FieldStep.counters (ok := ok) e f same ticks).engine k).2
    exact Aside.sound ⟨by simp, by simp, by simp, took, fun p => by rw [State.session_withEngine]⟩
  | run e st running =>
    have took := fun k => ((FieldStep.run (ok := ok) e st running).engine k).2
    exact Aside.sound ⟨by simp, by simp, by simp, took, fun p => by simp [State.session]⟩

theorem FieldRun.sound (h : FieldRun ok s t) : Sound X ok s t := by
  induction h with
  | refl => exact .refl X ok s
  | tail _ step ih => exact ih.trans step.sound

/-! ### A session's own requests (R132, R135, R136, R141) -/

/-- The session of port `p` alone moved: the others stand to the journal as they did. -/
theorem sound_of_own {p : Port} (own : OnlyOwnMoved s t p) (others : ∀ q, q ≠ p → bodies t q = bodies s q)
    (stamped : Stamped ok s t) (wf : JournalWf s → JournalWf t) (balanced : JournalWf s → Balanced s p → Balanced t p)
    (alert : Alert s p → Alert t p) : Sound X ok s t where
  time := own.outside.timeCount
  ticks := tickTimes_of_took own.outside.timeCount fun e => .inl (by rw [State.engine, own.field.2, State.engine])
  stamped := stamped
  wf := wf
  balanced q _ journal b := by
    by_cases hq : q = p
    · exact hq ▸ balanced journal (hq ▸ b)
    · exact SameStanding.balanced ⟨by rw [own.sessions q hq], others q hq⟩ b
  alert q _ a := by
    by_cases hq : q = p
    · exact hq ▸ alert (hq ▸ a)
    · exact SameStanding.alert ⟨by rw [own.sessions q hq], others q hq⟩ (own.attn q hq) a

/-- The session of port `p` alone moved, and the records are as they were. -/
theorem sound_of_own_records {p : Port} (own : OnlyOwnMoved s t p) (journal : t.journal = s.journal)
    (isOpen : s.isOpen p = true → t.isOpen p = true) (balanced : JournalWf s → Balanced s p → Balanced t p)
    (alert : Alert s p → Alert t p) : Sound X ok s t := by
  refine sound_of_own own (fun q _ => bodies_congr journal q) (.of_journal (by rw [journal]))
    (journalWf_congr journal fun q hq => ?_) balanced alert
  by_cases hp : q = p
  · exact hp ▸ isOpen (hp ▸ hq)
  · rwa [State.isOpen, State.openFields, own.sessions q hp]

/-- Fields of an OPEN session that the journal's rules do not read are replaced. -/
theorem withOpen_aside (p : Port) (f : OpenSession → OpenSession) (same : ∀ o, (f o).threshold = o.threshold) :
    Aside s (s.withOpen p f) where
  journal := s.withOpen_journal p f
  attn := s.withOpen_attn p f
  time := s.withOpen_timeCount p f
  ticks e := .inl (by rw [State.engine, State.withOpen_engines, State.engine])
  sessions q := by
    rw [State.session_withOpen]
    split
    next hq =>
      subst hq
      unfold journalView
      cases state : (s.session q).state <;> simp [state, same]
    next => rfl

theorem taken_aside (s : State) (p : Port) : Aside (s.served p) (taken s p) := withOpen_aside p _ fun _ => rfl

theorem served_aside (s : State) (p : Port) : Aside s (s.served p) := .of_fields rfl rfl rfl (fun _ => rfl) rfl

/-! ### A session's interest removed (R130, R131, R135) -/

theorem stamp_removeInterest (p : Port) (test : Record → Bool) (journal : List Record) :
    ((removeInterest p test journal).map stamp).Sublist (journal.map stamp) := by
  induction journal with
  | nil => exact List.Sublist.refl _
  | cons r rest ih =>
    unfold removeInterest at ih ⊢
    rw [List.filterMap_cons]
    cases kept : (if r.interest.get p && test r then dropInterest p r else some r) with
    | none => exact ih.cons _
    | some r' =>
      have same : stamp r' = stamp r := by
        unfold dropInterest at kept
        dsimp only at kept
        split at kept
        · split at kept
          · cases kept
          · cases kept
            rfl
        · cases kept
          rfl
      simp only [List.map_cons, same]
      exact ih.cons₂ _

theorem bodies_removeInterest (s : State) {p q : Port} (hq : q ≠ p) (test : Record → Bool) :
    bodies (s.withJournal (removeInterest p test s.journal)) q = bodies s q := by
  unfold bodies State.records State.withJournal
  dsimp only
  induction s.journal with
  | nil => rfl
  | cons r rest ih =>
    have keeps : ∀ r', dropInterest p r = some r' → r'.interest.get q = r.interest.get q ∧ r'.body = r.body := by
      intro r' h
      unfold dropInterest at h
      dsimp only at h
      split at h
      · cases h
      · cases h
        simp [hq]
    have gone : dropInterest p r = none → r.interest.get q = false := by
      intro h
      unfold dropInterest at h
      dsimp only at h
      split at h
      next nobody =>
        have := (isNoPort_iff _).1 nobody q
        simpa [hq] using this
      next => cases h
    unfold removeInterest at ih ⊢
    rw [List.filterMap_cons]
    cases told : r.interest.get p && test r with
    | false =>
      simp only [Bool.false_eq_true, if_false, List.filter_cons]
      split <;> simpa using ih
    | true =>
      simp only [if_true]
      cases kept : dropInterest p r with
      | none =>
        simp only [List.filter_cons, gone kept, Bool.false_eq_true, if_false]
        exact ih
      | some r' =>
        obtain ⟨interest, body⟩ := keeps r' kept
        simp only [List.filter_cons, interest]
        split
        · rw [List.map_cons, List.map_cons, body, ih]
        · exact ih

theorem mem_removeInterest {p : Port} {test : Record → Bool} {journal : List Record} {r : Record}
    (h : r ∈ removeInterest p test journal) :
    ∃ r' ∈ journal, (isNoPort r'.interest = false → isNoPort r.interest = false) ∧
      ∀ q, r.interest.get q = true → r'.interest.get q = true := by
  obtain ⟨r', mem, kept⟩ := List.mem_filterMap.1 h
  refine ⟨r', mem, ?_⟩
  unfold dropInterest at kept
  dsimp only at kept
  split at kept
  · split at kept
    · cases kept
    next some_left =>
      cases kept
      refine ⟨fun _ => by simpa using some_left, fun q hq => ?_⟩
      simp only [PerPort.get_set] at hq
      split at hq
      · cases hq
      · exact hq
  · cases kept
    exact ⟨id, fun _ => id⟩

theorem removeInterest_wf {p : Port} (test : Record → Bool) (journal : t.journal = removeInterest p test s.journal)
    (isOpen : ∀ q, s.isOpen q = true → t.isOpen q = true) (wf : JournalWf s) : JournalWf t := by
  obtain ⟨length, records⟩ := wf
  refine ⟨?_, fun r hr => ?_⟩
  · rw [journal, removeInterest]
    exact (List.length_filterMap_le _ _).trans length
  · rw [journal] at hr
    obtain ⟨r', mem, nobody, sub⟩ := mem_removeInterest hr
    obtain ⟨interest, onlyOpen⟩ := records r' mem
    exact ⟨nobody interest, fun q hq => isOpen q (onlyOpen q (sub q hq))⟩

theorem acknowledge_sound {p : Port} {o : OpenSession} (n : Seq) (fields : s.openFields p = some o) :
    Sound X ok s (s.acknowledge p o n) := by
  have own := acknowledge_own s p o n
  have journal := acknowledge_journal s p o n
  have session := session_acknowledge s p o n
  have opened : ∀ q, s.isOpen q = true → (s.acknowledge p o n).isOpen q = true := by
    intro q hq
    by_cases hp : q = p
    · rw [hp, State.isOpen, (openFields_eq_some_iff (o := acknowledgedFields o n)).2 (by rw [session])]
      rfl
    · rwa [State.isOpen, State.openFields, own.sessions q hp]
  refine sound_of_own own (fun q hq => ?_) (.of_journal ?_) (removeInterest_wf _ journal opened) (fun _ b => ?_)
    (fun _ => attn_reattend_self _ p)
  · rw [← bodies_removeInterest s hq (covered o n), bodies, State.records, journal, bodies, State.records]
    rfl
  · rw [journal]
    exact stamp_removeInterest p _ _
  · intro _ small
    have before := b (by rw [State.isOpen, fields]; rfl)
    have fewer := List.length_filter_le (fun r => !covered o n r) (s.records p)
    have pending : (s.acknowledge p o n).pendingCount p = ((s.records p).filter fun r => !covered o n r).length := by
      rw [State.pendingCount, records_acknowledge]
    rw [session] at small ⊢
    have total := before small
    rw [State.pendingCount] at total
    rw [pending]
    dsimp only at small ⊢
    unfold max32 at small
    omega

theorem deliver_sound (p : Port) (m : Nat) : Sound X ok s (s.deliver p m).1 := by
  cases fields : s.openFields p with
  | none => rw [State.deliver, fields]; exact .refl X ok s
  | some o =>
    rw [deliver_eq m fields]
    have session := session_deliveredState (markDelivered o ((s.records p).take m)) fields
    refine sound_of_own_records (deliveredState_own s p _) (deliveredState_journal s p _) (fun _ => ?_) (fun _ b => ?_)
      (fun _ => attn_deliveredState s p _)
    · rw [State.isOpen, openFields_eq_some_iff.2 (by rw [session])]
      rfl
    · intro _ small
      rw [session] at small ⊢
      rw [State.pendingCount, records_congr (deliveredState_journal s p _)]
      exact b (by rw [State.isOpen, fields]; rfl) small

theorem thresholdSet_sound (p : Port) (n : Nat) : Sound X ok s (thresholdSet s p n) := by
  cases fields : s.openFields p with
  | none =>
    have same : s.withOpen p (fun o => { o with threshold := n }) = s := by
      unfold State.withOpen
      cases state : (s.session p).state with
      | opened o => rw [openFields_eq_some_iff.2 state] at fields; cases fields
      | closed => rfl
      | lapsed => rfl
    refine sound_of_own_records (thresholdSet_own s p n) (thresholdSet_journal s p n) ?_ ?_
      (fun _ => attn_reattend_self _ p)
    · rw [thresholdSet, same]
      exact id
    · rw [thresholdSet, same]
      exact fun _ => id
  | some o =>
    have session := session_thresholdSet n fields
    refine sound_of_own_records (thresholdSet_own s p n) (thresholdSet_journal s p n) (fun _ => ?_) (fun _ b => ?_)
      (fun _ => attn_reattend_self _ p)
    · rw [State.isOpen, openFields_eq_some_iff.2 (by rw [session])]
      rfl
    · intro _ small
      rw [session] at small ⊢
      rw [State.pendingCount, records_congr (thresholdSet_journal s p n)]
      exact b (by rw [State.isOpen, fields]; rfl) small

end Steps

end Sys2Proof.Proofs
end


section
/-! PROOFS. What a command can do, said once: the states that the body of a request can leave, with the checks it has
passed, and the happening of every command. The rules of the whole part follow from these two. -/

namespace Sys2Proof.Proofs

open Sys2Proof.Machine Sys2Proof.Safety Sys2Proof.Laws

/-! ### Changes of ports alone -/

/-- Nothing but the ports is replaced. -/
def PortsOnly (s t : State) : Prop := t = { s with ports := t.ports }

theorem PortsOnly.refl (s : State) : PortsOnly s s := rfl

theorem PortsOnly.trans {s t u : State} (h : PortsOnly s t) (k : PortsOnly t u) : PortsOnly s u := by
  unfold PortsOnly at h k ⊢
  rw [k, h]

theorem withPort_portsOnly (s : State) (p : Port) (f : PortUnit → PortUnit) : PortsOnly s (s.withPort p f) := rfl

theorem answer_portsOnly (s : State) (p : Port) (tag : Byte) (r : Reply) : PortsOnly s (s.answer p tag r) := rfl

theorem PortsOnly.foldl {α : Type} {f : State → α → State} (h : ∀ s a, PortsOnly s (f s a)) (l : List α) (s : State) :
    PortsOnly s (l.foldl f s) := by
  induction l generalizing s with
  | nil => exact .refl s
  | cons a l ih => exact (h s a).trans (ih _)

theorem PortsOnly.beside {s t : State} (h : PortsOnly s t) : BesidePorts s t := by
  rw [h]
  simp [BesidePorts, SameSessions, SameTables, SameField, SameJournal, SameRest, SameControl]

theorem PortsOnly.servedLast {s t : State} (h : PortsOnly s t) : t.servedLast = s.servedLast := by rw [h]

theorem completeFrame_portsOnly (s : State) (p : Port) : PortsOnly s (s.completeFrame p) := by
  unfold State.completeFrame
  split
  · exact withPort_portsOnly s p _
  · split
    · exact withPort_portsOnly s p _
    · exact (withPort_portsOnly s p _).trans (answer_portsOnly _ p _ _)
  all_goals exact .refl s

theorem spiFrameByte_portsOnly (p : Port) (s : State) (b : Byte) : PortsOnly s (s.spiFrameByte p b) := by
  unfold State.spiFrameByte
  dsimp only
  split
  · exact (withPort_portsOnly s p _).trans (withPort_portsOnly _ p _)
  · split
    · exact ((withPort_portsOnly s p _).trans (withPort_portsOnly _ p _)).trans (completeFrame_portsOnly _ p)
    · exact withPort_portsOnly s p _

theorem spiByte_portsOnly (p : Port) (s : State) (b : Byte) : PortsOnly s (s.spiByte p b) := by
  unfold State.spiByte
  refine PortsOnly.trans ?_ (withPort_portsOnly _ p _)
  split
  · exact spiFrameByte_portsOnly p s b
  · exact withPort_portsOnly s p _
  all_goals exact .refl s

theorem i2cByte_portsOnly (s : State) (b : Byte) : PortsOnly s (s.i2cByte b) := by
  unfold State.i2cByte
  dsimp only
  split
  · exact withPort_portsOnly s .hp2 _
  · split
    · exact withPort_portsOnly s .hp2 _
    · split <;> exact (withPort_portsOnly s .hp2 _).trans (withPort_portsOnly _ .hp2 _)

theorem spiEnd_portsOnly (s : State) (p : Port) : PortsOnly s (s.spiEnd p) := by
  unfold State.spiEnd
  split <;> exact withPort_portsOnly s p _

theorem i2cEnd_portsOnly (s : State) : PortsOnly s s.i2cEnd := by
  unfold State.i2cEnd
  split
  · split
    · exact withPort_portsOnly s .hp2 _
    · split
      · exact (withPort_portsOnly s .hp2 _).trans (completeFrame_portsOnly _ .hp2)
      · exact withPort_portsOnly s .hp2 _
  all_goals exact withPort_portsOnly s .hp2 _

theorem generalCall_portsOnly (s : State) (bytes : List Byte) : PortsOnly s (s.generalCall bytes) := by
  cases bytes with
  | nil => exact withPort_portsOnly s .hp2 _
  | cons b rest =>
    simp only [State.generalCall]
    split <;> exact withPort_portsOnly s .hp2 _

/-! ### What the body of a request can leave -/

/-- The states that the body of a request of port `p` can leave, with the checks that it has passed. -/
inductive BodyLeaves (p : Port) (s : State) : Request → State → Prop
  | nothing (rq : Request) : BodyLeaves p s rq s
  | ports (rq : Request) {t : State} (only : PortsOnly s t) : BodyLeaves p s rq t
  | opened (o : OpenOperands) (closed : s.isOpen p = false) :
      BodyLeaves p s .openSession (s.openRecord p o.period o.threshold)
  | replaced (o : OpenOperands) (isOpen : s.isOpen p = true) :
      BodyLeaves p s .openSession ((s.endSession .replace p).openRecord p o.period o.threshold)
  | closed : BodyLeaves p s .closeSession (s.endSession .close p)
  | claimed (set : ResourceSet) (nothingNew : s.newlyGranted p set = 0) : BodyLeaves p s .claim (s.grant p set)
  | granted (set : ResourceSet) (adopt : Bool) (available : ∀ r, inSet set r = true → s.available p adopt r = true) :
      BodyLeaves p s .claim (s.grant p set).examine
  | queued (w : WaitEntry) (own : w.port = p) (ticket : w.ticket = s.nextTicket) (set : w.set ≠ 0)
      (first : s.queuedClaim p = none) (blocked : ∃ r, inSet w.set r = true ∧ s.available p w.adopt r = false) :
      BodyLeaves p s .claim (enqueued s w)
  | cancelled (w : WaitEntry) (ticket : Byte) : BodyLeaves p s .cancelClaim (s.removeTicket ticket)
  | released (set : ResourceSet) (held : ∀ r, inSet set r = true → (s.entry r).state = .held p) :
      BodyLeaves p s .release (s.releaseSet p set)
  | failsafes (set : ResourceSet) (pl : List Byte)
      (legal : ∀ r, inSet set r = true → legalFailsafe r (failsafeAt pl r) = true) :
      BodyLeaves p s .setFailsafe (s.setFailsafes set pl)
  | offered (o : OfferOperands) (some_set : o.set ≠ 0) (other : o.target ≠ p) (isOpen : s.isOpen o.target = true)
      (held : ∀ r, inSet o.set r = true → (s.entry r).state = .held p) (room : s.offers.length < 4) :
      BodyLeaves p s .offer (s.makeOffer p o)
  | accepted (o : Offer) (found : s.offer o.id = some o) (role : o.target = p) :
      BodyLeaves p s .accept (s.acceptOffer o).examine
  | returned (rq : Request) (o : Offer) (found : s.offer o.id = some o) (out : OfferOutcome) (ps : PortSet) :
      BodyLeaves p s rq (s.endOffer o out ps)
  | directed (set : ResourceSet) (pl : List Byte) : BodyLeaves p s .setDirection (s.setDirections set pl)
  | written (mask values : LineSet) : BodyLeaves p s .writeLines (s.writeValues mask values)
  | caughtUp (rq : Request) (e : EngineNo) : BodyLeaves p s rq (s.catchUp e)
  | configured (e : EngineNo) (c : EngineConfig) :
      BodyLeaves p s .configureEngine ((s.catchUp e).withEngine e fun g => { g with config := some c })
  | begun (e : EngineNo) (c : EngineConfig) (held : s.holds p (engineResource e) = true)
      (released : s.force.asserted = false) : BodyLeaves p s .startEngine ((s.catchUp e).startRun e c)
  | fired (e : EngineNo) (st : EngineState) (running : ((s.catchUp e).engine e).state ≠ .idle) :
      BodyLeaves p s .startEngine ((s.catchUp e).setEngineState e st)
  | stopped (e : EngineNo) : BodyLeaves p s .stopEngine ((s.catchUp e).stopEngine .stopped e)
  | subscribed (rise fall : LineSet) :
      BodyLeaves p s .subscribe (s.withOpen p fun o => { o with rise := rise, fall := fall })
  | acknowledged (o : OpenSession) (n : Seq) (m : Nat) (fields : s.openFields p = some o) :
      BodyLeaves p s .fetch ((s.acknowledge p o n).deliver p m).1
  | delivered (m : Nat) : BodyLeaves p s .fetch (s.deliver p m).1
  | threshold (n : Nat) : BodyLeaves p s .setAttention (thresholdSet s p n)
  | profile (x : Profile) : BodyLeaves p s .setProfile (s.changeProfile p x)

section Bodies

variable (p : Port) (s : State) (pl : List Byte)

theorem statusBody_leaves : BodyLeaves p s .status (statusBody s p pl).1 := by
  unfold statusBody
  split
  · exact .nothing _
  · dsimp only
    split
    · exact .ports _ (withPort_portsOnly s p _)
    · exact .nothing _

theorem openBody_leaves : BodyLeaves p s .openSession (openBody s p pl).1 := by
  unfold openBody openAndReport
  split
  next => exact .nothing _
  next o _ =>
    split
    next isOpen =>
      split
      · exact .replaced o isOpen
      · exact .nothing _
    next closed => exact .opened o (Bool.eq_false_iff.2 closed)

theorem claimBody_leaves : BodyLeaves p s .claim (claimBody s p pl).1 := by
  unfold claimBody
  split
  next => exact .nothing _
  next o operands =>
    split
    next available =>
      unfold grantNow
      dsimp only
      split
      next nothingNew => exact .claimed o.set nothingNew
      next =>
        refine .granted o.set o.adopt fun r hr => ?_
        simpa using List.find?_eq_none.1 available r (mem_members.2 hr)
    next r found =>
      split
      next => exact .nothing _
      next ms wait =>
        unfold queueClaim
        split
        next => exact .nothing _
        next first =>
          have some_set : o.set ≠ 0 := by
            unfold claimOperands at operands
            dsimp only at operands
            split at operands
            · cases operands
            · split at operands
              next legal =>
                cases operands
                exact legal.1
              next => cases operands
          exact .queued { ticket := s.nextTicket, port := p, set := o.set, adopt := o.adopt, remaining := ms } rfl rfl
            some_set first
            ⟨r, mem_members.1 (List.mem_of_find?_eq_some found), by simpa using List.find?_some found⟩

theorem cancelBody_leaves : BodyLeaves p s .cancelClaim (cancelBody s p pl).1 := by
  unfold cancelBody
  split
  next => exact .nothing _
  next t _ =>
    split
    next => exact .nothing _
    next w _ =>
      split
      · exact .cancelled w t
      · exact .nothing _

theorem releaseBody_leaves : BodyLeaves p s .release (releaseBody s p pl).1 := by
  unfold releaseBody
  split
  next => exact .nothing _
  next set _ =>
    split
    next => exact .nothing _
    next held =>
      refine .released set fun r hr => ?_
      simpa [State.heldBy] using List.find?_eq_none.1 held r (mem_members.2 hr)

theorem setFailsafeBody_leaves : BodyLeaves p s .setFailsafe (setFailsafeBody s p pl).1 := by
  unfold setFailsafeBody
  split
  next => exact .nothing _
  next set operands =>
    split
    next => exact .nothing _
    next =>
      refine .failsafes set pl fun r hr => ?_
      unfold setFailsafeOperands at operands
      split at operands
      · cases operands
      · split at operands
        next legal =>
          cases operands
          exact List.all_eq_true.1 legal.2 r (mem_members.2 hr)
        next => cases operands

theorem offerOperands_legal {p : Port} {pl : List Byte} {o : OfferOperands} (h : offerOperands p pl = some o) :
    o.set ≠ 0 ∧ o.target ≠ p := by
  unfold offerOperands at h
  dsimp only at h
  split at h
  · split at h
    next legal =>
      cases h
      exact ⟨legal.1, legal.2.2.2⟩
    next => cases h
  · cases h

theorem offerBody_leaves : BodyLeaves p s .offer (offerBody s p pl).1 := by
  unfold offerBody
  split
  next => exact .nothing _
  next o operands =>
    split
    next => exact .nothing _
    next isOpen =>
      split
      next => exact .nothing _
      next held =>
        split
        next => exact .nothing _
        next notOffered =>
          split
          next => exact .nothing _
          next room =>
            obtain ⟨some_set, other⟩ := offerOperands_legal operands
            refine .offered o some_set other (by simpa using isOpen) (fun r hr => ?_) (Nat.not_le.1 room)
            have mem := mem_members.2 hr
            have holds : s.holds p r = true := by simpa using List.find?_eq_none.1 held r mem
            have plain := List.find?_eq_none.1 notOffered r mem
            rw [isOffered_iff_of_holds holds] at plain
            exact not_not.1 plain

theorem offer_id {s : State} {id : Byte} {o : Offer} (h : s.offer id = some o) : o.id = id := by
  simpa using List.find?_some h

/-- A settling request does nothing but to an open offer in which its port has the role. -/
theorem settleBody_leaves {rq : Request} {role : Offer → Port} {settle : State → Offer → State × Reply}
    (each : ∀ o, s.offer o.id = some o → role o = p → BodyLeaves p s rq (settle s o).1) :
    BodyLeaves p s rq (settleBody role settle s p pl).1 := by
  unfold settleBody
  split
  next => exact .nothing _
  next id _ =>
    split
    next => exact .nothing _
    next o found =>
      split
      next own => exact each o (by rw [offer_id found, found]) own
      next => exact .nothing _

theorem setDirectionBody_leaves : BodyLeaves p s .setDirection (setDirectionBody s p pl).1 := by
  unfold setDirectionBody
  split
  · exact .nothing _
  · split
    · exact .nothing _
    · split
      · exact .nothing _
      · exact .directed _ pl

theorem writeLinesBody_leaves : BodyLeaves p s .writeLines (writeLinesBody s p pl).1 := by
  unfold writeLinesBody
  split
  · exact .nothing _
  · split
    · exact .nothing _
    · exact .written _ _

theorem configureBody_leaves : BodyLeaves p s .configureEngine (configureBody s p pl).1 := by
  unfold configureBody
  split
  · exact .nothing _
  · split
    · exact .nothing _
    · dsimp only
      split
      · exact .caughtUp _ _
      · exact .configured _ _

theorem startBody_leaves : BodyLeaves p s .startEngine (startBody s p pl).1 := by
  unfold startBody
  split
  next => exact .nothing _
  next e _ =>
    split
    next => exact .nothing _
    next held =>
      split
      next => exact .nothing _
      next released =>
        unfold startReady
        split
        next => exact .caughtUp _ e
        next c _ =>
          split
          next => exact .begun e c (by simpa using held) (by simpa using released)
          next running =>
            split
            next => exact .fired e _ running
            next => exact .caughtUp _ e

theorem stopBody_leaves : BodyLeaves p s .stopEngine (stopBody s p pl).1 := by
  unfold stopBody
  split
  · exact .nothing _
  · split
    · exact .nothing _
    · exact .stopped _

theorem engineStatusBody_leaves : BodyLeaves p s .engineStatus (engineStatusBody s p pl).1 := by
  unfold engineStatusBody
  split
  · exact .nothing _
  · exact .caughtUp _ _

theorem subscribeBody_leaves : BodyLeaves p s .subscribe (subscribeBody s p pl).1 := by
  unfold subscribeBody
  split
  · exact .nothing _
  · exact .subscribed _ _

theorem fetchBody_leaves : BodyLeaves p s .fetch (fetchBody s p pl).1 := by
  unfold fetchBody
  split
  next f o _ fields =>
    split
    next => exact .delivered _
    next n _ =>
      split
      · exact .acknowledged o n f.maximum fields
      · exact .nothing _
  next => exact .nothing _
  next => exact .nothing _

theorem attentionBody_leaves : BodyLeaves p s .setAttention (attentionBody s p pl).1 := by
  unfold attentionBody
  split
  · exact .nothing _
  · exact .threshold _

theorem setProfileBody_leaves : BodyLeaves p s .setProfile (setProfileBody s p pl).1 := by
  unfold setProfileBody
  split
  · exact .nothing _
  · split
    · exact .profile _
    · exact .nothing _

theorem bodyOf_leaves (rq : Request) : BodyLeaves p s rq (bodyOf rq s p pl).1 := by
  cases rq
  case status => exact statusBody_leaves p s pl
  case openSession => exact openBody_leaves p s pl
  case closeSession => exact .closed
  case ping => exact .nothing _
  case time => exact .nothing _
  case claim => exact claimBody_leaves p s pl
  case cancelClaim => exact cancelBody_leaves p s pl
  case release => exact releaseBody_leaves p s pl
  case setFailsafe => exact setFailsafeBody_leaves p s pl
  case leases => exact .nothing _
  case offer => exact offerBody_leaves p s pl
  case accept => exact settleBody_leaves p s pl fun o found own => .accepted o found own
  case decline => exact settleBody_leaves p s pl fun o found _ => .returned _ o found _ _
  case withdraw => exact settleBody_leaves p s pl fun o found _ => .returned _ o found _ _
  case setDirection => exact setDirectionBody_leaves p s pl
  case writeLines => exact writeLinesBody_leaves p s pl
  case readLines => exact .nothing _
  case configureEngine => exact configureBody_leaves p s pl
  case startEngine => exact startBody_leaves p s pl
  case stopEngine => exact stopBody_leaves p s pl
  case engineStatus => exact engineStatusBody_leaves p s pl
  case subscribe => exact subscribeBody_leaves p s pl
  case fetch => exact fetchBody_leaves p s pl
  case setAttention => exact attentionBody_leaves p s pl
  case setProfile => exact setProfileBody_leaves p s pl
  case getProfile => exact .nothing _

end Bodies

/-! ### What a command can do -/

/-- Before its body a request has moved the Arbiter's pointer, and restarted the keepalive timer if it has a session
check. -/
def bodyState (s : State) (p : Port) (rq : Request) : State := if hasSessionCheck rq then taken s p else s.served p

/-- The count rises once every engine has taken the tick before (R127, R145). -/
def ticked (s : State) : State :=
  { (List.finRange 4).foldl State.settleTicks s with
    timeCount := ((List.finRange 4).foldl State.settleTicks s).timeCount + 1 }

/-- What a command can do out of reset: nothing, or the happening that it names. -/
inductive Happens (s : State) : Instr → State → Prop
  | nothing (c : Instr) : Happens s c s
  | refused (p : Port) (rq : Request) (tag : Byte) (rep : Reply) :
      Happens s (commandOf p rq) ((s.served p).answer p tag rep)
  | request (p : Port) (rq : Request) (t : State) (isOpen : hasSessionCheck rq = true → s.isOpen p = true)
      (body : BodyLeaves p (bodyState s p rq) rq t) (tag : Byte) (rep : Reply) :
      Happens s (commandOf p rq) (t.answer p tag rep)
  | unknown (p : Port) (tag : Byte) (rep : Reply) : Happens s (.unknownCodeRequest p) ((s.served p).answer p tag rep)
  | lapse (p : Port) (isOpen : s.isOpen p = true) : Happens s (.lapse p) (s.endSession .lapse p)
  | offerExpiry (o : Offer) (found : s.offer o.id = some o) (ps : PortSet) :
      Happens s (.offerExpiry o.id) (s.endOffer o .expired ps)
  | claimExpiry (w : WaitEntry) (found : s.ticketEntry w.ticket = some w) :
      Happens s (.claimExpiry w.ticket) (s.expireClaim w)
  | tick : Happens s .tick (ticked s)
  | field {c : Instr} {t : State} (run : ∀ ok, TickTimes ok s → FieldRun ok s t) : Happens s c t
  | asserted (c : Instr) (released : s.force.asserted = false) : Happens s c s.assertForce
  | released (c : Instr) : Happens s c s.releaseForce
  | counted (c : Instr) (n : Nat) : Happens s c (s.withForce { s.force with run := n })
  | ports {c : Instr} {t : State} (only : PortsOnly s t) : Happens s c t

theorem isOpen_of_sessionCheck {s : State} {p : Port} {number : BitVec 16} (h : s.sessionCheck p number = none) :
    s.isOpen p = true := by
  unfold State.sessionCheck at h
  unfold State.isOpen State.openFields
  split at h
  · cases h
  · cases h
  next state => rw [state]; rfl

theorem take_happens (s : State) (rq : Request) (p : Port) : Happens s (commandOf p rq) (s.take rq p (bodyOf rq)) := by
  unfold State.take
  split
  next => exact .nothing _
  next f _ =>
    split
    next =>
      dsimp only
      unfold State.checked
      split
      next => exact .refused p rq f.tag _
      next =>
        split
        next check =>
          split
          next => exact .refused p rq f.tag _
          next passes =>
            have isOpen : s.isOpen p = true := isOpen_of_sessionCheck (s := s.served p) passes
            refine .request p rq _ (fun _ => isOpen) ?_ f.tag _
            rw [bodyState, if_pos check]
            exact bodyOf_leaves p _ _ rq
        next check =>
          refine .request p rq _ (fun h => absurd h check) ?_ f.tag _
          rw [bodyState, if_neg check]
          exact bodyOf_leaves p _ _ rq
    next => exact .nothing _

theorem spiWrite_portsOnly (s : State) (p : Port) (start : PortUnit → PortUnit) (bytes : List Byte) (high : Bool) :
    PortsOnly s
      (if high then (bytes.foldl (State.spiByte p) ((s.spiEnd p).withPort p start)).spiEnd p
      else bytes.foldl (State.spiByte p) ((s.spiEnd p).withPort p start)) := by
  have sent := ((spiEnd_portsOnly s p).trans (withPort_portsOnly _ p start)).trans
    (PortsOnly.foldl (spiByte_portsOnly p) bytes _)
  split
  · exact sent.trans (spiEnd_portsOnly _ p)
  · exact sent

theorem sampleForce_happens (s : State) (level : Level) : Happens s (.nfsafeMonitorSample level) (s.sampleForce level) := by
  unfold State.sampleForce
  split
  next => exact .counted _ 0
  next =>
    split
    next => exact .counted _ _
    next =>
      split
      next => exact .released _
      next released => exact .asserted _ (Bool.eq_false_iff.2 released)

/-- The commands that stand for a happening of the part: all but the two of a reset. -/
def IsHappening (c : Instr) : Prop := (∀ ev, c ≠ .reset ev) ∧ ∀ pins, c ≠ .resetEnd pins

/-- The happening `f` of a command out of reset, or nothing in reset. -/
theorem happens_of_awake {s : State} {c : Instr} {f : State → State} (h : s.inReset = none → Happens s c (f s)) :
    ∃ t, s.awake f = .next t ∧ Happens s c t ∧ (s.inReset ≠ none → t = s) := by
  refine ⟨_, rfl, ?_, fun reset => if_neg reset⟩
  split
  next awake => exact h awake
  next => exact .nothing c

/-- Every command but those of a reset makes its happening out of reset and nothing in reset. -/
theorem exec_happens {c : Instr} (hc : IsHappening c) (s : State) :
    ∃ t, exec c s = .next t ∧ Happens s c t ∧ (s.inReset ≠ none → t = s) := by
  have request (p : Port) (rq : Request) :
      ∃ t, exec (commandOf p rq) s = .next t ∧ Happens s (commandOf p rq) t ∧ (s.inReset ≠ none → t = s) := by
    rw [exec_commandOf]
    exact happens_of_awake fun _ => take_happens s rq p
  cases c
  case reset ev => exact absurd rfl (hc.1 ev)
  case resetEnd pins => exact absurd rfl (hc.2 pins)
  case status p => exact request p .status
  case openSession p => exact request p .openSession
  case closeSession p => exact request p .closeSession
  case ping p => exact request p .ping
  case time p => exact request p .time
  case claim p => exact request p .claim
  case cancelClaim p => exact request p .cancelClaim
  case release p => exact request p .release
  case setFailsafe p => exact request p .setFailsafe
  case leases p => exact request p .leases
  case offer p => exact request p .offer
  case accept p => exact request p .accept
  case decline p => exact request p .decline
  case withdraw p => exact request p .withdraw
  case setDirection p => exact request p .setDirection
  case writeLines p => exact request p .writeLines
  case readLines p => exact request p .readLines
  case configureEngine p => exact request p .configureEngine
  case startEngine p => exact request p .startEngine
  case stopEngine p => exact request p .stopEngine
  case engineStatus p => exact request p .engineStatus
  case subscribe p => exact request p .subscribe
  case fetch p => exact request p .fetch
  case setAttention p => exact request p .setAttention
  case setProfile p => exact request p .setProfile
  case getProfile p => exact request p .getProfile
  case unknownCodeRequest p =>
    unfold exec execUnknownCodeRequest
    refine happens_of_awake fun _ => ?_
    split
    · exact .nothing _
    · split
      · exact .unknown p _ _
      · exact .nothing _
  case lapse p =>
    unfold exec execLapse
    refine happens_of_awake fun _ => ?_
    split
    next isOpen => exact .lapse p isOpen
    next => exact .nothing _
  case offerExpiry id =>
    unfold exec execOfferExpiry
    refine happens_of_awake fun _ => ?_
    split
    next => exact .nothing _
    next o found =>
      obtain rfl := offer_id found
      exact .offerExpiry o found _
  case claimExpiry ticket =>
    unfold exec execClaimExpiry
    refine happens_of_awake fun _ => ?_
    split
    next => exact .nothing _
    next w found =>
      obtain rfl : w.ticket = ticket := by simpa using List.find?_some found
      exact .claimExpiry w found
  case tick =>
    unfold exec execTick
    exact happens_of_awake fun _ => .tick
  case engineTick e =>
    unfold exec execEngineTick
    refine happens_of_awake fun _ => ?_
    split
    next => exact .nothing _
    next left => exact .field fun _ ticks => takeTick_fieldRun ticks left
  case pulseTrainPhaseEnd e =>
    unfold exec execPulseTrainPhaseEnd
    exact happens_of_awake fun _ => .field fun _ ticks => endTick_fieldRun e _ ticks
  case delayedPulsePhaseEnd e =>
    unfold exec execDelayedPulsePhaseEnd
    exact happens_of_awake fun _ => .field fun _ ticks => endTick_fieldRun e _ ticks
  case measureLimitEnd e =>
    unfold exec execMeasureLimitEnd
    refine happens_of_awake fun _ => ?_
    split <;> exact .field fun _ ticks => endTick_fieldRun e _ ticks
  case countWindowEnd e =>
    unfold exec execCountWindowEnd
    exact happens_of_awake fun _ => .field fun _ ticks => endTick_fieldRun e _ ticks
  case lineSample levels =>
    unfold exec execLineSample
    exact happens_of_awake fun _ => .field fun _ ticks => sample_fieldRun levels ticks
  case monitorSettleEnd l =>
    unfold exec execMonitorSettleEnd
    refine happens_of_awake fun _ => ?_
    split
    next =>
      split
      · exact .field fun _ ticks => settleEnd_fieldRun l ticks.1
      · exact .nothing _
    all_goals exact .nothing _
  case fsafeAssertion =>
    unfold exec execFsafeAssertion
    refine happens_of_awake fun _ => ?_
    split
    next => exact .nothing _
    next released => exact .asserted _ (Bool.eq_false_iff.2 released)
  case fsafeRelease =>
    unfold exec execFsafeRelease
    refine happens_of_awake fun _ => ?_
    split
    · exact .released _
    · exact .nothing _
  case spiWriteTransaction p bytes high =>
    unfold exec execSpiWriteTransaction
    exact happens_of_awake fun _ => .ports (spiWrite_portsOnly s p.port selectWrite bytes high)
  case spiReadTransaction p read =>
    unfold exec execSpiReadTransaction
    exact happens_of_awake fun _ => .ports ((spiEnd_portsOnly s p.port).trans (withPort_portsOnly _ p.port _))
  case spiFramingError p sent =>
    unfold exec execSpiFramingError
    refine happens_of_awake fun _ => ?_
    dsimp only
    split
    · exact .ports (spiWrite_portsOnly s p.port selectStart sent.bytes sent.selectHigh)
    · exact .nothing _
  case resync event =>
    unfold exec execResync
    exact happens_of_awake fun _ => .ports (withPort_portsOnly s _ _)
  case frameComplete p rest =>
    unfold exec execFrameComplete
    refine happens_of_awake fun _ => ?_
    dsimp only
    split
    next =>
      split
      · exact .ports (.foldl (spiByte_portsOnly _) rest s)
      · exact .ports (.foldl (spiByte_portsOnly _) rest s)
      · have taken := PortsOnly.foldl i2cByte_portsOnly rest s
        split
        · exact .ports (taken.trans (i2cEnd_portsOnly _))
        · exact .ports taken
    next => exact .nothing _
  case frameLost p =>
    unfold exec execFrameLost
    refine happens_of_awake fun _ => ?_
    split
    · exact .nothing _
    · exact .nothing _
    · split
      · exact .ports (spiEnd_portsOnly s _)
      · exact .ports (spiEnd_portsOnly s _)
      · exact .ports (withPort_portsOnly s _ _)
    all_goals
      split
      · exact .ports (spiEnd_portsOnly s _)
      · exact .ports (spiEnd_portsOnly s _)
      · exact .ports (i2cEnd_portsOnly s)
  case i2cWriteTransaction address bytes ended =>
    unfold exec execI2cWriteTransaction
    refine happens_of_awake fun _ => ?_
    dsimp only
    split
    next => exact .nothing _
    next =>
      split
      next =>
        have taken := ((i2cEnd_portsOnly s).trans (withPort_portsOnly _ .hp2 fun u => onlyAcks [true] (setLink .writing u))).trans
          (PortsOnly.foldl i2cByte_portsOnly bytes _)
        split
        · exact .ports (taken.trans (i2cEnd_portsOnly _))
        · exact .ports taken
      next =>
        split
        · exact .ports ((i2cEnd_portsOnly s).trans (generalCall_portsOnly _ bytes))
        · exact .ports ((i2cEnd_portsOnly s).trans (withPort_portsOnly _ .hp2 _))
  case i2cReadTransaction address count ended =>
    unfold exec execI2cReadTransaction
    refine happens_of_awake fun _ => ?_
    dsimp only
    split
    next => exact .nothing _
    next =>
      split
      next =>
        have acked := (i2cEnd_portsOnly s).trans (withPort_portsOnly _ .hp2 (onlyAcks [true]))
        split <;> exact .ports (acked.trans (withPort_portsOnly _ .hp2 _))
      next => exact .ports ((i2cEnd_portsOnly s).trans (withPort_portsOnly _ .hp2 _))
  case stretchLimit =>
    unfold exec execStretchLimit
    refine happens_of_awake fun _ => ?_
    split
    · exact .ports (withPort_portsOnly s .hp2 _)
    all_goals exact .nothing _
  case stuckSclAbort =>
    unfold exec execStuckSclAbort
    refine happens_of_awake fun _ => ?_
    split
    · exact .ports (withPort_portsOnly s .hp2 _)
    · exact .ports (withPort_portsOnly s .hp2 _)
    · exact .ports (withPort_portsOnly s .hp2 _)
    all_goals exact .nothing _
  case nfsafeMonitorSample level =>
    unfold exec execNfsafeMonitorSample
    exact happens_of_awake fun _ => sampleForce_happens s level

end Sys2Proof.Proofs
end


section
/-! PROOFS. The journal's rules hold of every step: the counters balance, timestamps never decrease, and the attention
outputs are at their levels (R124, R127, R129, R140). -/

namespace Sys2Proof.Proofs

open Sys2Proof.Machine Sys2Proof.Safety Sys2Proof.Laws

section Asides

variable {s : State} {X : Port → Prop} {ok : Count → Prop}

/-! ### What the journal's rules do not read -/

theorem Aside.trans {s t u : State} (h : Aside s t) (k : Aside t u) (kept : ∀ e, (t.engine e).taken = (s.engine e).taken) :
    Aside s u where
  journal := k.journal.trans h.journal
  attn := k.attn.trans h.attn
  time := k.time.trans h.time
  ticks e := by
    have later := k.ticks e
    rw [h.time] at later
    unfold TookAtMostOne at later ⊢
    rwa [kept] at later
  sessions p := (k.sessions p).trans (h.sessions p)

theorem withEntryOf_aside (f : Resource → LeaseEntry → LeaseEntry) : Aside s (s.withEntryOf f) :=
  .of_fields (by simp) (by simp) (by simp) (fun e => by simp [State.engine]) (by simp)

theorem withEntries_aside (set : ResourceSet) (f : LeaseEntry → LeaseEntry) : Aside s (s.withEntries set f) :=
  withEntryOf_aside _

theorem withLines_aside (f : Line → LineCell → LineCell) : Aside s (s.withLines f) :=
  .of_fields (by simp) (by simp) (by simp) (fun e => by simp) (by simp)

theorem taken_redrive (s : State) (set : ResourceSet) (e : EngineNo) :
    ((s.redrive set).engine e).taken = (s.engine e).taken := by
  rw [State.engine_redrive]
  split <;> rfl

theorem redrive_aside (set : ResourceSet) : Aside s (s.redrive set) :=
  .of_fields (by simp) (by simp) (by simp) (fun e => taken_redrive s set e) (by simp)

theorem withOffers_aside (offers : List Offer) : Aside s (s.withOffers offers) := .of_fields rfl rfl rfl (fun _ => rfl) rfl

theorem withWaitList_aside (entries : List WaitEntry) : Aside s (s.withWaitList entries) :=
  .of_fields rfl rfl rfl (fun _ => rfl) rfl

theorem withForce_aside (force : ForceMonitor) : Aside s (s.withForce force) := .of_fields rfl rfl rfl (fun _ => rfl) rfl

theorem withProfile_aside (profile : Profile) : Aside s (s.withProfile profile) := .of_fields rfl rfl rfl (fun _ => rfl) rfl

theorem withEngine_aside (e : EngineNo) (f : Engine → Engine) (same : ∀ g, (f g).taken = g.taken) :
    Aside s (s.withEngine e f) :=
  .of_fields (by simp) (by simp) (by simp) (fun k => by
    rw [State.engine_withEngine]
    split
    next h => rw [same, h]
    next => rfl) (by simp)

theorem setEngineState_aside (e : EngineNo) (st : EngineState) : Aside s (s.setEngineState e st) := by
  have kept (k : EngineNo) : ((s.withEngine e fun g => { g with state := st }).engine k).taken = (s.engine k).taken := by
    rw [State.engine_withEngine]
    split
    next h => rw [h]
    next => rfl
  exact (withEngine_aside e (fun g => { g with state := st }) fun _ => rfl).trans (redrive_aside (engineSet e)) kept

theorem portsOnly_aside {t : State} (only : PortsOnly s t) : Aside s t := by
  rw [only]
  exact .of_fields rfl rfl rfl (fun _ => rfl) rfl

theorem withSession_aside (p : Port) (f : Session → Session) (same : ∀ x, journalView (f x) = journalView x) :
    Aside s (s.withSession p f) where
  journal := rfl
  attn := rfl
  time := rfl
  ticks _ := .inl rfl
  sessions q := by
    rw [State.session_withSession]
    split
    next h => exact h ▸ same _
    next => rfl

theorem gain_aside (p : Port) (n : Nat) : Aside s (s.gain p n) := withSession_aside p _ fun _ => rfl

theorem lose_aside (p : Port) (n : Nat) : Aside s (s.lose p n) := withSession_aside p _ fun _ => rfl

/-! ### Leases, offers and the wait list -/

theorem grant_sound (p : Port) (set : ResourceSet) : Sound X ok s (s.grant p set) :=
  (((withEntries_aside _ _).sound.trans (gain_aside p _).sound).trans (withLines_aside _).sound).trans
    (redrive_aside _).sound

theorem letGo_sound (set : ResourceSet) (after : LeaseState) : Sound X ok s (s.letGo set after) :=
  (withEntries_aside _ _).sound.trans (redrive_aside _).sound

/-- A record of this moment is appended after `s`. -/
theorem Sound.append {t : State} (h : Sound X ok s t) (ps : PortSet) (body : RecordBody) (now : ok s.timeCount) :
    Sound X ok s (t.append ps s.timeCount body) := h.trans (append_sound ps body now)

theorem grantQueued_sound (w : WaitEntry) (now : ok s.timeCount) : Sound X ok s (s.grantQueued w) :=
  ((grant_sound w.port w.set).trans (withWaitList_aside _).sound).append _ _ now

theorem examineEntry_sound (w : WaitEntry) (now : ok s.timeCount) : Sound X ok s (s.examineEntry w) := by
  unfold State.examineEntry
  split
  · exact grantQueued_sound w now
  · exact .refl X ok s

theorem examineAll_sound (l : List WaitEntry) (now : ok s.timeCount) : Sound X ok s (l.foldl State.examineEntry s) :=
  Sound.foldl (I := fun s => ok s.timeCount) (fun _ w now => examineEntry_sound w now)
    (fun _ w now => (examineEntry_sound (X := X) w now).time ▸ now) l now

theorem examine_sound (now : ok s.timeCount) : Sound X ok s s.examine := examineAll_sound _ now

theorem Sound.examine {t : State} (h : Sound X ok s t) (now : ok s.timeCount) : Sound X ok s t.examine :=
  h.trans (examine_sound (h.time ▸ now))

theorem releaseSet_sound (p : Port) (set : ResourceSet) (ticks : TickTimes ok s) : Sound X ok s (s.releaseSet p set) := by
  have ready := catchUpAll_fieldRun (enginesOf set) ticks
  have stopped := ready.trans (stopAll_fieldRun .stopped (enginesOf set) (ready.tickTimes ticks))
  exact ((FieldRun.sound stopped |>.trans (letGo_sound set .free)).trans (lose_aside p (setSize set)).sound).examine ticks.1

theorem makeOffer_sound (p : Port) (o : OfferOperands) (ticks : TickTimes ok s) : Sound X ok s (s.makeOffer p o) := by
  have ready := (catchUpAll_fieldRun (enginesOf o.set) ticks).sound (X := X)
  have entered (id : Byte) (offers : List Offer) :
      Aside (s.catchUpAll (enginesOf o.set))
        { s.catchUpAll (enginesOf o.set) with offerCounter := id, offers := offers } :=
    .of_fields rfl rfl rfl (fun _ => rfl) rfl
  exact (((ready.trans (entered _ _).sound).trans (withEntries_aside _ _).sound).append _ _ ticks.1).examine ticks.1

theorem appendSettled_sound {t : State} (h : Sound X ok s t) (o : Offer) (outcome : OfferOutcome) (ps : PortSet)
    (now : ok s.timeCount) : Sound X ok s (t.appendSettled o outcome ps) := h.trans (append_sound ps _ (h.time ▸ now))

theorem removeClaims_aside (p : Port) : Aside s (s.removeClaims p) := withWaitList_aside _

theorem removeOffer_aside (id : Byte) : Aside s (s.removeOffer id) := withOffers_aside _

theorem acceptOffer_sound (o : Offer) (ticks : TickTimes ok s) : Sound X ok s (s.acceptOffer o) :=
  appendSettled_sound
    ((((((catchUpAll_fieldRun (enginesOf o.set) ticks).sound.trans (removeOffer_aside o.id).sound).trans
      (withEntries_aside _ _).sound).trans (lose_aside _ _).sound).trans (gain_aside _ _).sound).trans
      (redrive_aside _).sound) o .accepted _ ticks.1

theorem returnOffer_sound (o : Offer) (ticks : TickTimes ok s) : Sound X ok s (s.returnOffer o) :=
  ((catchUpAll_fieldRun (enginesOf o.set) ticks).sound.trans (removeOffer_aside o.id).sound).trans
    (withEntries_aside _ _).sound

theorem endOffer_sound (o : Offer) (outcome : OfferOutcome) (ps : PortSet) (ticks : TickTimes ok s) :
    Sound X ok s (s.endOffer o outcome ps) :=
  (appendSettled_sound (returnOffer_sound o ticks) o outcome ps ticks.1).examine ticks.1

theorem cancelOffer_sound (p : Port) (o : Offer) (ticks : TickTimes ok s) : Sound X ok s (s.cancelOffer p o) := by
  unfold State.cancelOffer
  split
  · exact appendSettled_sound (removeOffer_aside o.id).sound o .cancelled _ ticks.1
  · exact appendSettled_sound (returnOffer_sound o ticks) o .cancelled _ ticks.1

theorem cancelOffers_sound (p : Port) (ticks : TickTimes ok s) : Sound X ok s (s.cancelOffers p) :=
  Sound.foldl (I := TickTimes ok) (fun _ o ticks => cancelOffer_sound p o ticks)
    (fun _ o ticks => (cancelOffer_sound (X := X) p o ticks).ticks ticks) _ ticks

theorem expireClaim_sound (w : WaitEntry) (now : ok s.timeCount) : Sound X ok s (s.expireClaim w) :=
  (withWaitList_aside _).sound.append _ _ now

/-! ### The end of a session (R35) -/

theorem dropHoldings_sound (how : SessionEnd) (p : Port) (ticks : TickTimes ok s) :
    Sound X ok s (s.dropHoldings how p) := by
  have ready := catchUpAll_fieldRun (s.reachedByEnd p) ticks
  have emptied (t : State) : Sound X ok t (t.withSession p fun x => { x with heldCount := 0 }) :=
    Aside.sound (withSession_aside p (fun x => { x with heldCount := 0 }) fun _ => rfl)
  cases how
  case close =>
    exact ((FieldRun.sound (ready.trans (stopAll_fieldRun .stopped _ (ready.tickTimes ticks)))).trans (letGo_sound _ _)).trans
      (emptied _)
  case lapse => exact ((FieldRun.sound (ready.trans (silenceAll_fieldRun _))).trans (letGo_sound _ _)).trans (emptied _)
  case replace => exact ((FieldRun.sound (ready.trans (silenceAll_fieldRun _))).trans (letGo_sound _ _)).trans (emptied _)

theorem dropJournalInterest_own (p : Port) :
    ∀ q, q ≠ p → (s.dropJournalInterest p).session q = s.session q := fun q hq => by
  rw [State.dropJournalInterest, State.session_withOpen, if_neg hq]
  rfl

theorem dropJournalInterest_journal (p : Port) :
    (s.dropJournalInterest p).journal = removeInterest p (fun _ => true) s.journal := by
  rw [State.dropJournalInterest, State.withOpen_journal]
  rfl

/-- The session's records are gone. -/
theorem records_dropJournalInterest (p : Port) : (s.dropJournalInterest p).records p = [] := by
  rw [State.records, dropJournalInterest_journal, records_removeInterest]
  simp

theorem bodies_dropJournalInterest {p q : Port} (hq : q ≠ p) : bodies (s.dropJournalInterest p) q = bodies s q := by
  rw [← bodies_removeInterest s hq fun _ => true, bodies, State.records, dropJournalInterest_journal, bodies, State.records]
  rfl

theorem isOpen_dropJournalInterest (p q : Port) : (s.dropJournalInterest p).isOpen q = s.isOpen q := by
  rw [State.dropJournalInterest, isOpen_withOpen]
  rfl

theorem dropJournalInterest_sound (p : Port) : Sound (· ≠ p) ok s (s.dropJournalInterest p) := by
  have standing (q : Port) (hq : q ≠ p) : SameStanding s (s.dropJournalInterest p) q :=
    ⟨by rw [dropJournalInterest_own p q hq], bodies_dropJournalInterest hq⟩
  have time : (s.dropJournalInterest p).timeCount = s.timeCount := by
    rw [State.dropJournalInterest, State.withOpen_timeCount]
    rfl
  exact {
    time
    ticks := tickTimes_of_took time fun e => .inl (by
      rw [State.engine, State.dropJournalInterest, State.withOpen_engines]
      rfl)
    stamped := .of_journal (by
      rw [dropJournalInterest_journal]
      exact stamp_removeInterest p _ _)
    wf := removeInterest_wf _ (dropJournalInterest_journal p) fun q hq => by rwa [isOpen_dropJournalInterest]
    balanced := fun q hq _ => (standing q hq).balanced
    alert := fun q hq => (standing q hq).alert (by
      rw [State.dropJournalInterest, State.withOpen_attn]
      rfl) }

/-- A record that a session is not told of gives it nothing. -/
theorem records_append_nil {p : Port} {ps : PortSet} (time : Count) (body : RecordBody) (notTold : ps.get p = false)
    (none_left : s.records p = []) : (s.append ps time body).records p = [] := by
  cases nobody : isNoPort (s.interested ps) with
  | true => rwa [append_none nobody]
  | false =>
    have room := records_makeRoom s p
    rw [none_left] at room
    rw [records_append time body p nobody, notTold]
    simpa using (List.append_eq_nil_iff.1 room.symm).2

theorem examineAll_records_nil {p : Port} {l : List WaitEntry} (others : ∀ w ∈ l, w.port ≠ p) (none_left : s.records p = []) :
    (l.foldl State.examineEntry s).records p = [] := by
  induction l generalizing s with
  | nil => exact none_left
  | cons w l ih =>
    refine ih (fun x hx => others x (List.mem_cons_of_mem w hx)) ?_
    unfold State.examineEntry
    split
    · have other : (onlyPort w.port).get p = false := by simp [onlyPort, (others w List.mem_cons_self).symm]
      obtain ⟨-, -, ⟨journal, -⟩, -⟩ := grant_rest s w.port w.set
      have kept : ((s.grant w.port w.set).removeTicket w.ticket).records p = [] := by
        rw [State.records, State.removeTicket, State.withWaitList_journal, journal, ← State.records, none_left]
      exact records_append_nil _ _ other kept
    · exact none_left

theorem reportLost_sound (how : SessionEnd) (p : Port) (lost : ResourceSet) (now : ok s.timeCount) :
    Sound X ok s (s.reportLost how p lost) := by
  unfold State.reportLost
  split
  · exact .refl X ok s
  all_goals
    split
    · exact .refl X ok s
    · exact append_sound _ _ now

theorem reportLost_records_nil (how : SessionEnd) {p : Port} (lost : ResourceSet) (none_left : s.records p = []) :
    (s.reportLost how p lost).records p = [] := by
  have others : (otherPorts p).get p = false := by simp [otherPorts]
  unfold State.reportLost
  split
  · exact none_left
  all_goals
    split
    · exact none_left
    · exact records_append_nil _ _ others none_left

theorem reportLost_waitList (how : SessionEnd) (p : Port) (lost : ResourceSet) :
    (s.reportLost how p lost).waitList = s.waitList := by
  unfold State.reportLost
  split
  · rfl
  all_goals
    split
    · rfl
    · rw [(append_tables _ _ _ _).2.2.2.1]

theorem closeRecord_isOpen (how : SessionEnd) (p q : Port) :
    (s.closeRecord how p).isOpen q = if q = p then false else s.isOpen q := by
  simp only [State.closeRecord, State.isOpen, State.openFields, State.session, State.withAttn_sessions]
  rw [← State.session, State.session_withSession]
  by_cases own : q = p
  · rw [if_pos own, if_pos own]
    cases how <;> rfl
  · rw [if_neg own, if_neg own]
    rfl

/-- The record of a session that nothing is pending for is closed: its output is deasserted. -/
theorem closeRecord_sound (how : SessionEnd) {p : Port} (none_left : s.records p = []) :
    Sound (· ≠ p) ok s (s.closeRecord how p) where
  time := rfl
  ticks := tickTimes_of_took rfl fun _ => .inl rfl
  stamped := .of_journal (List.Sublist.refl _)
  wf := fun ⟨length, records⟩ => ⟨length, fun r hr => ⟨(records r hr).1, fun q hq => by
    have notOwn : q ≠ p := by
      rintro rfl
      exact List.filter_eq_nil_iff.1 none_left r hr hq
    rw [closeRecord_isOpen, if_neg notOwn]
    exact (records r hr).2 q hq⟩⟩
  balanced q hq _ := SameStanding.balanced ⟨by simp [State.closeRecord, State.session, hq, State.withSession], rfl⟩
  alert q hq := SameStanding.alert ⟨by simp [State.closeRecord, State.session, hq, State.withSession], rfl⟩
    (by simp [State.closeRecord, hq])

theorem endSession_sound (how : SessionEnd) (p : Port) (ticks : TickTimes ok s) : Sound X ok s (s.endSession how p) := by
  have dropped : Sound (· ≠ p) ok s (s.dropHoldings how p) := dropHoldings_sound how p ticks
  have cancelled := dropped.trans (cancelOffers_sound p (dropped.ticks ticks))
  have left := (cancelled.trans (removeClaims_aside p).sound).trans (dropJournalInterest_sound p)
  have reported := left.trans (reportLost_sound how p (s.heldSet p) (left.time ▸ ticks.1))
  have examined := reported.examine ticks.1
  have none_left : (State.reportLost ((((s.dropHoldings how p).cancelOffers p).removeClaims p).dropJournalInterest p) how p
      (s.heldSet p)).examine.records p = [] := by
    refine examineAll_records_nil (fun w hw => ?_) (reportLost_records_nil how _ (records_dropJournalInterest p))
    rw [reportLost_waitList, State.dropJournalInterest, State.withOpen_waitList] at hw
    simpa using (List.mem_filter.1 hw).2
  have others := examined.trans (closeRecord_sound how none_left)
  have closed : (s.endSession how p).isOpen p = false := by
    rw [State.endSession, closeRecord_isOpen, if_pos rfl]
  exact { others with
    balanced := fun q hq wf b => by
      by_cases own : q = p
      · intro isOpen
        rw [own, closed] at isOpen
        cases isOpen
      · exact others.balanced q own wf b
    alert := fun q hq a => by
      by_cases own : q = p
      · have due : (s.endSession how p).attentionDue p = false := by
          have fields : (s.endSession how p).openFields p = none := by simpa [State.isOpen] using closed
          rw [State.attentionDue, fields]
        rw [own, Alert, due]
        simp [State.endSession, State.closeRecord]
      · exact others.alert q own a }

theorem endSession_closed (s : State) (how : SessionEnd) (p : Port) : (s.endSession how p).isOpen p = false := by
  rw [State.endSession, closeRecord_isOpen, if_pos rfl]

/-! ### The opening of a session (R33) -/

theorem openRecord_isOpen (p q : Port) (period threshold : Nat) :
    (s.openRecord p period threshold).isOpen q = if q = p then true else s.isOpen q := by
  rw [State.isOpen, State.openFields, State.openRecord, State.session_reattend, State.session_withSession]
  by_cases own : q = p
  · rw [if_pos own, if_pos own]
    rfl
  · rw [if_neg own, if_neg own]
    rfl

theorem openRecord_sound {p : Port} (period threshold : Nat) (closed : s.isOpen p = false) :
    Sound X ok s (s.openRecord p period threshold) := by
  have own : OnlyOwnMoved s (s.openRecord p period threshold) p := (withSession_own s p _).trans (reattend_own _ p)
  refine sound_of_own_records own rfl (fun _ => ?_) (fun wf _ => ?_) fun _ => attn_reattend_self _ p
  · rw [openRecord_isOpen, if_pos rfl]
  · intro _ _
    have nothing : (s.openRecord p period threshold).pendingCount p = 0 := by
      obtain ⟨journal, -⟩ := openRecord_others s p period threshold
      rw [State.pendingCount, records_congr journal, records_eq_nil wf closed]
      rfl
    rw [nothing, session_openRecord, if_pos rfl]
    rfl

/-! ### Force and profile (R94, R95, R149) -/

theorem reseed_aside : Aside s s.reseed := withLines_aside _

theorem startRun_sound (e : EngineNo) (c : EngineConfig) : Sound X ok s (s.startRun e c) :=
  (withEngine_aside e zeroCounters fun _ => rfl).sound.trans (setEngineState_aside e _).sound

theorem enterMonitors_aside : Aside s s.enterMonitors := withLines_aside _

theorem forceChanged_sound (asserted : Bool) (now : ok s.timeCount) : Sound X ok s (s.forceChanged asserted) :=
  ((redrive_aside everyResource).sound.append _ _ now).trans enterMonitors_aside.sound

theorem releaseForce_sound (now : ok s.timeCount) : Sound X ok s s.releaseForce :=
  (withForce_aside _).sound.trans (forceChanged_sound false now)

theorem assertForce_sound (ticks : TickTimes ok s) : Sound X ok s s.assertForce := by
  have flagged : Sound X ok s ((s.catchUpAll (List.finRange 4)).setForce true) :=
    (catchUpAll_fieldRun _ ticks).sound.trans (withForce_aside _).sound
  have forced := flagged.trans (FieldRun.sound (stopAll_fieldRun .forced (List.finRange 4) (flagged.ticks ticks)))
  have now : ok (List.foldl (fun s e => State.stopEngine s .forced e) ((s.catchUpAll (List.finRange 4)).setForce true)
      (List.finRange 4)).timeCount := by
    rw [forced.time]
    exact ticks.1
  exact forced.trans (forceChanged_sound true now)

theorem changeProfile_sound (p : Port) (x : Profile) (now : ok s.timeCount) : Sound X ok s (s.changeProfile p x) := by
  have seeded : Sound X ok s (s.withProfile x).reseed := (withProfile_aside x).sound.trans reseed_aside.sound
  have driven := (seeded.trans (redrive_aside everyResource).sound).trans enterMonitors_aside.sound
  exact driven.append everyPort _ now

/-! ### Bodies and happenings -/

theorem BodyLeaves.sound {p : Port} {rq : Request} {t : State} (h : BodyLeaves p s rq t) (ticks : TickTimes ok s) :
    Sound X ok s t := by
  have caught (e : EngineNo) : Sound X ok s (s.catchUp e) := (catchUp_fieldRun e ticks).sound
  cases h with
  | nothing => exact .refl X ok s
  | ports _ only => exact (portsOnly_aside only).sound
  | opened o closed => exact openRecord_sound o.period o.threshold closed
  | replaced o =>
    exact (endSession_sound .replace p ticks).trans
      (openRecord_sound o.period o.threshold (endSession_closed s .replace p))
  | closed => exact endSession_sound .close p ticks
  | claimed set => exact grant_sound p set
  | granted set => exact (grant_sound p set).examine ticks.1
  | queued w => exact Aside.sound (.of_fields rfl rfl rfl (fun _ => rfl) rfl)
  | cancelled w ticket => exact (withWaitList_aside _).sound
  | released set => exact releaseSet_sound p set ticks
  | failsafes set pl => exact (withEntryOf_aside _).sound.trans (redrive_aside _).sound
  | offered o => exact makeOffer_sound p o ticks
  | accepted o => exact (acceptOffer_sound o ticks).examine ticks.1
  | returned _ o _ out ps => exact endOffer_sound o out ps ticks
  | directed set pl => exact (withLines_aside _).sound.trans (redrive_aside _).sound
  | written mask values => exact (withLines_aside _).sound.trans (redrive_aside _).sound
  | caughtUp _ e => exact caught e
  | configured e c => exact (caught e).trans (withEngine_aside e (fun g => { g with config := some c }) fun _ => rfl).sound
  | begun e c => exact (caught e).trans (startRun_sound e c)
  | fired e st => exact (caught e).trans (setEngineState_aside e st).sound
  | stopped e =>
    exact (caught e).trans (stopEngine_fieldRun .stopped e ((caught e).time (X := X) ▸ ticks.1)).sound
  | subscribed rise fall => exact (withOpen_aside p (fun o => { o with rise := rise, fall := fall }) fun _ => rfl).sound
  | acknowledged o n m fields => exact (acknowledge_sound n fields).trans (deliver_sound p m)
  | delivered m => exact deliver_sound p m
  | threshold n => exact thresholdSet_sound p n
  | profile x => exact changeProfile_sound p x ticks.1

/-- A happening other than the increment of the time count. -/
theorem Happens.sound {c : Instr} {t : State} (h : Happens s c t) (notTick : t ≠ ticked s) (ticks : TickTimes ok s) :
    Sound X ok s t := by
  have answered (t : State) (p : Port) (tag : Byte) (rep : Reply) : Sound X ok t (t.answer p tag rep) :=
    (portsOnly_aside (answer_portsOnly t p tag rep)).sound
  cases h with
  | nothing => exact .refl X ok s
  | refused p rq tag rep => exact (served_aside s p).sound.trans (answered _ p tag rep)
  | request p rq t _ body tag rep =>
    have before : Sound X ok s (bodyState s p rq) := by
      unfold bodyState
      split
      · exact (served_aside s p).sound.trans (taken_aside s p).sound
      · exact (served_aside s p).sound
    exact (before.trans (body.sound (before.ticks ticks))).trans (answered _ p tag rep)
  | unknown p tag rep => exact (served_aside s p).sound.trans (answered _ p tag rep)
  | lapse p => exact endSession_sound .lapse p ticks
  | offerExpiry o _ ps => exact endOffer_sound o .expired ps ticks
  | claimExpiry w => exact expireClaim_sound w ticks.1
  | tick => exact absurd rfl notTick
  | field run => exact (run ok ticks).sound
  | asserted => exact assertForce_sound ticks
  | released => exact releaseForce_sound ticks.1
  | counted _ n => exact (withForce_aside _).sound
  | ports only => exact (portsOnly_aside only).sound

end Asides

end Sys2Proof.Proofs
end


section
/-! PROOFS. What a step can do, and the rules of the journal over a step. -/

namespace Sys2Proof.Proofs

open Sys2Proof.Machine Sys2Proof.Safety Sys2Proof.Laws

/-! ### What a step can do -/

/-- Out of a reset's end a step makes the happening of a command, on the state with the queue's rest; or time passes; or a
reset begins or ends. -/
inductive Steps (s : State) : State → Prop
  | happening (c : Instr) (rest : List Instr) (t : State) (does : Happens { s with pending := rest } c t)
      (asleep : s.inReset ≠ none → t = { s with pending := rest }) : Steps s t
  | waits : Steps s s
  | takes (c : Instr) : Steps s { s with pending := [c] }
  | millisecond (awake : s.inReset = none) : Steps s { s.millisecond with pending := s.millisecond.timersOut }
  | counted (rest : List Instr) (n : Nat) : Steps s { s with pending := rest, freeCount := n }
  | resetBegins (cause : ResetCause) (rest : List Instr) : Steps s (State.beginReset { s with pending := rest } cause)
  | resetByChance (rest : List Instr) (n : Nat) :
      Steps s { State.beginReset { s with pending := rest } .pin with freeCount := n }
  | resetEnds (cause : ResetCause) (pins : ResetPins) (rest : List Instr) :
      Steps s (State.afterReset cause pins s.freeCount rest)

/-- What POR, or nRST low, can do. -/
theorem resetByPin_cases (s : State) (ns : Nat) :
    s.resetByPin ns = s ∨ s.resetByPin ns = { s with freeCount := s.freeCount + 1 } ∨
      s.resetByPin ns = s.beginReset .pin ∨
      s.resetByPin ns = { s.beginReset .pin with freeCount := s.freeCount + 1 } := by
  unfold State.resetByPin
  split
  · exact .inl rfl
  · split
    · exact .inl rfl
    · split
      · exact .inr (.inr (.inl rfl))
      · split
        · exact .inr (.inr (.inr rfl))
        · exact .inr (.inl rfl)

theorem reset_of_not_isHappening {c : Instr} (h : ¬IsHappening c) : (∃ ev, c = .reset ev) ∨ ∃ pins, c = .resetEnd pins := by
  simpa only [IsHappening, not_and_or, not_forall, ne_eq, not_not] using h

theorem exec_powerOn (s : State) : exec (.reset .powerOn) s = .next (s.beginReset .powerOn) := rfl

theorem exec_pinLow (ns : Nat) (s : State) : exec (.reset (.pinLow ns)) s = .next (s.resetByPin ns) := rfl

theorem exec_resetEnd_none {s : State} (pins : ResetPins) (h : s.inReset = none) : exec (.resetEnd pins) s = .next s := by
  simp only [exec, execResetEnd, h]

theorem exec_resetEnd_some {s : State} {cause : ResetCause} (pins : ResetPins) (h : s.inReset = some cause) :
    exec (.resetEnd pins) s = .next (State.afterReset cause pins s.freeCount s.pending) := by
  simp only [exec, execResetEnd, h]

theorem steps_of_step {s t : State} (h : step s = .next t) : Steps s t := by
  unfold step at h
  split at h
  next empty =>
    cases h
    unfold State.alone
    split
    next => exact .waits
    next awake =>
      split
      next c _ => exact .takes c
      next => exact .millisecond (not_not.1 awake)
  next c rest _ =>
    by_cases hc : IsHappening c
    · obtain ⟨t', run, does, asleep⟩ := exec_happens hc { s with pending := rest }
      rw [run] at h
      cases h
      exact .happening c rest t does asleep
    · rcases reset_of_not_isHappening hc with ⟨ev, rfl⟩ | ⟨pins, rfl⟩
      · cases ev with
        | powerOn =>
          rw [exec_powerOn] at h
          obtain rfl := Host.Outcome.next.inj h
          exact .resetBegins .powerOn rest
        | pinLow ns =>
          rw [exec_pinLow] at h
          obtain rfl := Host.Outcome.next.inj h
          rcases resetByPin_cases { s with pending := rest } ns with same | same | same | same
          all_goals rw [same]
          · exact .counted rest s.freeCount
          · exact .counted rest (s.freeCount + 1)
          · exact .resetBegins .pin rest
          · exact .resetByChance rest _
      · cases cause : s.inReset with
        | none =>
          rw [exec_resetEnd_none (s := { s with pending := rest }) pins cause] at h
          obtain rfl := Host.Outcome.next.inj h
          exact .counted rest s.freeCount
        | some cause' =>
          rw [exec_resetEnd_some (s := { s with pending := rest }) pins cause] at h
          obtain rfl := Host.Outcome.next.inj h
          exact .resetEnds cause' pins rest

/-! ### The rules of the journal over a step -/

/-- The journal's form and the balance of the counters. -/
def JournalSound (s : State) : Prop := JournalWf s ∧ CountersBalance s

/-- Times near, with records stamped by the count of the happening. -/
def KeepsTime (s t : State) : Prop := TicksNear s → TicksNear t ∧ StampedNow s t

section Moves

variable {s t : State}

theorem Sound.journalSound {ok : Count → Prop} (h : Sound (fun _ => True) ok s t) (j : JournalSound s) : JournalSound t :=
  ⟨h.wf j.1, fun p => h.balanced p trivial j.1 (j.2 p)⟩

theorem Sound.keepsTime (h : TickTimes (· = s.timeCount) s → Sound (fun _ => True) (· = s.timeCount) s t) :
    KeepsTime s t := fun near => by
  have ticks := (tickTimes_now_iff s).2 near
  have sound := h ticks
  have after := sound.ticks ticks
  rw [← sound.time] at after
  exact ⟨(tickTimes_now_iff t).1 after, sound.stamped⟩

/-- What nothing of the journal reads keeps all its rules. -/
theorem Aside.keeps (h : Aside s t) : (JournalSound s → JournalSound t) ∧ KeepsTime s t :=
  ⟨(h.sound (ok := fun _ => True)).journalSound, Sound.keepsTime fun _ => h.sound⟩

theorem queue_aside (s : State) (rest : List Instr) (n : Nat) : Aside s { s with pending := rest, freeCount := n } :=
  .of_fields rfl rfl rfl (fun _ => rfl) rfl

theorem taken_takeNext_of_enough (s : State) (e : EngineNo) (n : Nat) :
    ((s.takeNext e n).engine e).taken = (s.engine e).taken + BitVec.ofNat 32 n := by
  induction n generalizing s with
  | zero => simp [State.takeNext]
  | succ n ih =>
    rw [State.takeNext, ih, taken_takeTick, BitVec.ofNat_add]
    bv_omega

/-- The engine has taken every tick. -/
theorem taken_settleTicks (s : State) (e : EngineNo) : ((s.settleTicks e).engine e).taken = s.timeCount := by
  rw [State.settleTicks, taken_takeNext_of_enough, BitVec.ofNat_toNat]
  bv_omega

theorem settleTicks_others (s : State) {e k : EngineNo} (h : k ≠ e) : (s.settleTicks e).engine k = s.engine k := by
  obtain ⟨⟨-, others⟩, -⟩ := settleTicks_happening s e
  exact others k h

theorem taken_settleAll (s : State) {l : List EngineNo} {e : EngineNo} (h : e ∈ l ∨ (s.engine e).taken = s.timeCount) :
    ((l.foldl State.settleTicks s).engine e).taken = s.timeCount := by
  induction l generalizing s with
  | nil => exact h.resolve_left List.not_mem_nil
  | cons k l ih =>
    have time := (settleTicks_outside s k).timeCount
    rw [List.foldl_cons, ← time]
    refine ih _ ?_
    by_cases own : e = k
    · exact .inr (by rw [own, taken_settleTicks, time])
    · rw [settleTicks_others s own, time]
      rcases h with mem | taken
      · exact .inl ((List.mem_cons.1 mem).resolve_left own)
      · exact .inr taken

theorem journalSound_later (s : State) (n : Count) : JournalSound s → JournalSound { s with timeCount := n } := id

theorem alert_later (s : State) (n : Count) {p : Port} : Alert s p → Alert { s with timeCount := n } p := id

theorem stampedNow_later (n : Count) (h : StampedNow s t) : StampedNow s { t with timeCount := n } := h

theorem engine_later (s : State) (n : Count) (e : EngineNo) : State.engine { s with timeCount := n } e = s.engine e := rfl

theorem ticked_keeps (s : State) : (JournalSound s → JournalSound (ticked s)) ∧ KeepsTime s (ticked s) := by
  have settled := settleAll_fieldRun (List.finRange 4) (tickTimes_any s)
  refine ⟨fun j => journalSound_later _ _ ((FieldRun.sound settled).journalSound j), fun near => ⟨fun e => .inr ?_, ?_⟩⟩
  · have taken := taken_settleAll s (l := List.finRange 4) (.inl (List.mem_finRange e))
    have time := settled.outside.timeCount
    rw [ticked, engine_later, taken, time]
  · have now := settleAll_fieldRun (List.finRange 4) ((tickTimes_now_iff s).2 near)
    exact stampedNow_later _ (FieldRun.sound (X := fun _ => True) now).stamped

theorem Happens.keeps {c : Instr} (h : Happens s c t) : (JournalSound s → JournalSound t) ∧ KeepsTime s t := by
  by_cases isTick : t = ticked s
  · exact isTick ▸ ticked_keeps s
  · exact ⟨(h.sound isTick (tickTimes_any s)).journalSound, Sound.keepsTime (h.sound isTick)⟩


theorem millisecond_aside (s : State) (rest : List Instr) : Aside s { s.millisecond with pending := rest } where
  journal := rfl
  attn := rfl
  time := rfl
  ticks _ := .inl rfl
  sessions p := by
    change journalView ((PerPort.of fun q => countKeepalive (s.session q)).get p) = _
    rw [PerPort.get_of]
    unfold countKeepalive
    cases state : (s.session p).state <;> simp only [journalView, state]

section Reset

variable (s : State) (cause : ResetCause)

theorem beginReset_journal : (s.beginReset cause).journal = s.journal := by simp [State.beginReset]

theorem beginReset_sessions : (s.beginReset cause).sessions = s.sessions := by simp [State.beginReset]

theorem beginReset_timeCount : (s.beginReset cause).timeCount = s.timeCount := by simp [State.beginReset]

theorem beginReset_pending : (s.beginReset cause).pending = s.pending := by simp [State.beginReset]

theorem pending_freeCount (s : State) (n : Nat) : State.pending { s with freeCount := n } = s.pending := rfl

theorem beginReset_taken (e : EngineNo) : ((s.beginReset cause).engine e).taken = (s.engine e).taken := by
  simp [State.beginReset, State.engine, State.withEngines]

theorem stampedNow_iff (s t : State) : StampedNow s t ↔ Stamped (· = s.timeCount) s t := Iff.rfl

theorem beginReset_keeps : (JournalSound s → JournalSound (s.beginReset cause)) ∧ KeepsTime s (s.beginReset cause) := by
  have standing (p : Port) : SameStanding s (s.beginReset cause) p :=
    ⟨by rw [State.session, beginReset_sessions, State.session], bodies_congr (beginReset_journal s cause) p⟩
  refine ⟨fun ⟨wf, balance⟩ => ⟨journalWf_congr (beginReset_journal s cause) (fun p => ?_) wf,
    fun p => (standing p).balanced (balance p)⟩, fun near => ⟨fun e => ?_, (stampedNow_iff _ _).2 (.of_journal ?_)⟩⟩
  · rw [(standing p).isOpen]
    exact id
  · rw [beginReset_taken, beginReset_timeCount]
    exact near e
  · rw [beginReset_journal]

end Reset

theorem Steps.keeps (h : Steps s t) : (JournalSound s → JournalSound t) ∧ KeepsTime s t := by
  cases h with
  | happening c rest t does => exact does.keeps
  | waits => exact (Aside.refl s).keeps
  | takes c => exact (queue_aside s [c] s.freeCount).keeps
  | millisecond => exact (millisecond_aside s _).keeps
  | counted rest n => exact (queue_aside s rest n).keeps
  | resetBegins cause rest => exact beginReset_keeps { s with pending := rest } cause
  | resetByChance rest n => exact beginReset_keeps { s with pending := rest } .pin
  | resetEnds cause pins rest =>
    refine ⟨fun _ => ⟨⟨Nat.zero_le _, nofun⟩, fun p isOpen => ?_⟩, fun _ => ⟨fun e => .inl ?_, [], [], rfl, nofun, List.nil_sublist _⟩⟩
    · cases p <;> cases isOpen
    · simp [State.engine, State.afterReset, Engine.reset]

end Moves

/-- Settles O56: every happening keeps the journal's rules, and so does the passing of time; a reset empties the journal. -/
theorem journalKept : Obligations.JournalKept := by
  intro s t h
  obtain ⟨sound, time⟩ := (steps_of_step h).keeps
  exact ⟨fun wf balance => sound ⟨wf, balance⟩, time⟩

/-! ### The attention outputs over a step (R140) -/

section Steady

variable {s t : State}

/-- Neither the reset state, the queue and the model's own fields nor the time count moved. -/
def Steady (s t : State) : Prop := SameControl s t ∧ t.timeCount = s.timeCount

theorem SameOutside.steady (h : SameOutside s t) : Steady s t := ⟨h.1.2.2.2, h.timeCount⟩

theorem Steady.trans {u : State} (h : Steady s t) (k : Steady t u) : Steady s u := by
  obtain ⟨⟨a1, a2, a3, a4, a5⟩, a6⟩ := h
  obtain ⟨⟨b1, b2, b3, b4, b5⟩, b6⟩ := k
  exact ⟨⟨b1.trans a1, b2.trans a2, b3.trans a3, b4.trans a4, b5.trans a5⟩, b6.trans a6⟩

theorem Steady.inReset (h : Steady s t) : t.inReset = s.inReset := h.1.2.1

theorem Steady.pending (h : Steady s t) : t.pending = s.pending := h.1.2.2.2.2

theorem PortsOnly.steady (h : PortsOnly s t) : Steady s t := by
  rw [h]
  exact ⟨⟨rfl, rfl, rfl, rfl, rfl⟩, rfl⟩

theorem releaseSet_outside (s : State) (p : Port) (set : ResourceSet) : SameOutside s (s.releaseSet p set) :=
  ((((catchUpAll_outside s _).trans (.foldl _ (fun _ e => stopEngine_outside _ _ e) _ _)).trans
    (letGo_outside _ _ _)).trans (lose_outside _ _ _)).trans (examine_outside _)

theorem makeOffer_outside (s : State) (p : Port) (o : OfferOperands) : SameOutside s (s.makeOffer p o) := by
  have entered (u : State) (id : Byte) (offers : List Offer) :
      SameOutside u { u with offerCounter := id, offers := offers } := ⟨⟨rfl, rfl, rfl, rfl, rfl, rfl, rfl, rfl⟩, rfl, rfl⟩
  exact ((((catchUpAll_outside s _).trans (entered _ _ _)).trans (withEntries_outside _ _ _)).trans
    (append_outside _ _ _ _)).trans (examine_outside _)

theorem acceptOffer_outside (s : State) (o : Offer) : SameOutside s (s.acceptOffer o) :=
  ((((((catchUpAll_outside s _).trans (removeOffer_outside _ _)).trans (withEntries_outside _ _ _)).trans
    (lose_outside _ _ _)).trans (gain_outside _ _ _)).trans (redrive_outside _ _)).trans (appendSettled_outside _ _ _ _)

theorem endOffer_outside (s : State) (o : Offer) (out : OfferOutcome) (ps : PortSet) :
    SameOutside s (s.endOffer o out ps) :=
  ((returnOffer_outside s o).trans (appendSettled_outside _ _ _ _)).trans (examine_outside _)

theorem expireClaim_outside (s : State) (w : WaitEntry) : SameOutside s (s.expireClaim w) :=
  (removeTicket_outside s _).trans (append_outside _ _ _ _)

theorem deliver_outside (s : State) (p : Port) (m : Nat) : SameOutside s (s.deliver p m).1 := by
  cases fields : s.openFields p with
  | none =>
    rw [State.deliver, fields]
    exact .refl s
  | some o =>
    rw [deliver_eq m fields]
    exact (deliveredState_own s p _).outside

theorem startRun_outside (s : State) (e : EngineNo) (c : EngineConfig) : SameOutside s (s.startRun e c) :=
  (withEngine_outside s e _).trans (setEngineState_outside _ e _)

theorem forceChanged_outside (s : State) (asserted : Bool) : SameOutside s (s.forceChanged asserted) :=
  ((redrive_outside s _).trans (append_outside _ _ _ _)).trans (enterMonitors_outside _)

theorem setForce_steady (s : State) (asserted : Bool) : Steady s (s.setForce asserted) := ⟨⟨rfl, rfl, rfl, rfl, rfl⟩, rfl⟩

theorem releaseForce_steady (s : State) : Steady s s.releaseForce :=
  (setForce_steady s false).trans (SameOutside.steady (forceChanged_outside _ false))

theorem assertForce_steady (s : State) : Steady s s.assertForce :=
  (((SameOutside.steady (catchUpAll_outside s _)).trans (setForce_steady _ true)).trans
    (SameOutside.steady (.foldl _ (fun _ e => stopEngine_outside _ _ e) _ _))).trans
    (SameOutside.steady (forceChanged_outside _ true))

theorem BodyLeaves.steady {p : Port} {rq : Request} (h : BodyLeaves p s rq t) : Steady s t := by
  have caught (e : EngineNo) : SameOutside s (s.catchUp e) := catchUp_outside s e
  cases h with
  | nothing => exact SameOutside.steady (.refl s)
  | ports _ only => exact only.steady
  | opened o => exact SameOutside.steady (openRecord_outside s p _ _)
  | replaced o => exact SameOutside.steady ((endSession_outside s .replace p).trans (openRecord_outside _ p _ _))
  | closed => exact SameOutside.steady (endSession_outside s .close p)
  | claimed set => exact SameOutside.steady (grant_outside s p set)
  | granted set => exact SameOutside.steady ((grant_outside s p set).trans (examine_outside _))
  | queued w => exact SameOutside.steady (enqueued_outside s w)
  | cancelled w ticket => exact SameOutside.steady (removeTicket_outside s ticket)
  | released set => exact SameOutside.steady (releaseSet_outside s p set)
  | failsafes set pl => exact SameOutside.steady (setFailsafes_outside s set pl)
  | offered o => exact SameOutside.steady (makeOffer_outside s p o)
  | accepted o => exact SameOutside.steady ((acceptOffer_outside s o).trans (examine_outside _))
  | returned _ o _ out ps => exact SameOutside.steady (endOffer_outside s o out ps)
  | directed set pl => exact SameOutside.steady (cellsReplaced_outside s set _)
  | written mask values => exact SameOutside.steady (cellsReplaced_outside s _ _)
  | caughtUp _ e => exact SameOutside.steady (caught e)
  | configured e c => exact SameOutside.steady ((caught e).trans (withEngine_outside _ e _))
  | begun e c => exact SameOutside.steady ((caught e).trans (startRun_outside _ e c))
  | fired e st => exact SameOutside.steady ((caught e).trans (setEngineState_outside _ e st))
  | stopped e => exact SameOutside.steady ((caught e).trans (stopEngine_outside _ _ e))
  | subscribed rise fall => exact SameOutside.steady (withOpen_outside s p _)
  | acknowledged o n m => exact SameOutside.steady ((acknowledge_own s p o n).outside.trans (deliver_outside _ p m))
  | delivered m => exact SameOutside.steady (deliver_outside s p m)
  | threshold n => exact SameOutside.steady (thresholdSet_own s p n).outside
  | profile x =>
    have outside := SameOutside.steady (changeProfile_outside s p x)
    exact ⟨outside.1, outside.2⟩

theorem bodyState_steady (s : State) (p : Port) (rq : Request) : Steady s (bodyState s p rq) := by
  have served : Steady s (s.served p) := ⟨⟨rfl, rfl, rfl, rfl, rfl⟩, rfl⟩
  unfold bodyState
  split
  · exact served.trans (SameOutside.steady (restart_outside s p))
  · exact served

theorem Happens.steady {c : Instr} (h : Happens s c t) (notTick : c ≠ .tick ∨ t ≠ ticked s) : Steady s t := by
  have served (p : Port) : Steady s (s.served p) := ⟨⟨rfl, rfl, rfl, rfl, rfl⟩, rfl⟩
  have answered (u : State) (p : Port) (tag : Byte) (rep : Reply) : Steady u (u.answer p tag rep) :=
    (answer_portsOnly u p tag rep).steady
  cases h with
  | nothing => exact SameOutside.steady (.refl s)
  | refused p rq tag rep => exact (served p).trans (answered _ p tag rep)
  | request p rq t _ body tag rep => exact ((bodyState_steady s p rq).trans body.steady).trans (answered _ p tag rep)
  | unknown p tag rep => exact (served p).trans (answered _ p tag rep)
  | lapse p => exact SameOutside.steady (endSession_outside s .lapse p)
  | offerExpiry o _ ps => exact SameOutside.steady (endOffer_outside s o .expired ps)
  | claimExpiry w => exact SameOutside.steady (expireClaim_outside s w)
  | tick => exact notTick.elim (fun h => absurd rfl h) fun h => absurd rfl h
  | field run => exact SameOutside.steady (run _ (tickTimes_any s)).outside
  | asserted => exact assertForce_steady s
  | released => exact releaseForce_steady s
  | counted _ n => exact ⟨⟨rfl, rfl, rfl, rfl, rfl⟩, rfl⟩
  | ports only => exact only.steady

theorem control_later (s : State) (n : Count) : SameControl s { s with timeCount := n } := ⟨rfl, rfl, rfl, rfl, rfl⟩

theorem Happens.control {c : Instr} (h : Happens s c t) : SameControl s t := by
  by_cases isTick : t = ticked s
  · have settled := SameOutside.steady (SameOutside.foldl State.settleTicks settleTicks_outside (List.finRange 4) s)
    obtain ⟨a1, a2, a3, a4, a5⟩ := settled.1
    obtain ⟨b1, b2, b3, b4, b5⟩ := control_later ((List.finRange 4).foldl State.settleTicks s)
      (((List.finRange 4).foldl State.settleTicks s).timeCount + 1)
    rw [isTick]
    exact ⟨b1.trans a1, b2.trans a2, b3.trans a3, b4.trans a4, b5.trans a5⟩
  · exact (h.steady (.inr isTick)).1

end Steady

/-! ### The attention outputs over a step (R140) -/

section Attention

variable {s t : State}

theorem attentionExact_of_awake (awake : s.inReset = none) : AttentionExact s ↔ ∀ p, Alert s p := by
  simp [AttentionExact, Alert, awake]

theorem Happens.alert {c : Instr} (h : Happens s c t) {p : Port} (a : Alert s p) : Alert t p := by
  by_cases isTick : t = ticked s
  · have settled := FieldRun.sound (X := fun _ => True) (settleAll_fieldRun (List.finRange 4) (tickTimes_any s))
    rw [isTick]
    exact alert_later _ _ (settled.alert p trivial a)
  · exact (h.sound (X := fun _ => True) isTick (tickTimes_any s)).alert p trivial a

/-- Out of a reset's end and beginning, the outputs follow their sessions; in reset nothing moves. -/
theorem Steps.attentionExact (h : Steps s t) (exact_ : AttentionExact s) : AttentionExact t := by
  cases h with
  | happening c rest t does asleep =>
    by_cases awake : s.inReset = none
    · refine (attentionExact_of_awake (does.control.2.1.trans awake)).2 fun p => does.alert ?_
      exact (attentionExact_of_awake awake).1 exact_ p
    · rw [asleep awake]
      exact exact_
  | waits => exact exact_
  | takes c => exact exact_
  | millisecond awake =>
    refine (attentionExact_of_awake (s := { s.millisecond with pending := s.millisecond.timersOut }) awake).2 fun p => ?_
    exact ((millisecond_aside s _).sound (X := fun _ => True) (ok := fun _ => True)).alert p trivial
      ((attentionExact_of_awake awake).1 exact_ p)
  | counted rest n => exact exact_
  | resetBegins cause rest => intro p; cases p <;> rfl
  | resetByChance rest n => intro p; cases p <;> rfl
  | resetEnds cause pins rest => intro p; cases p <;> rfl

end Attention

/-- Settles O57. -/
theorem attentionKept : Obligations.AttentionKept := fun _ _ exact_ h => (steps_of_step h).attentionExact exact_

/-! ### The step and its commands -/

/-- Settles O1. -/
theorem stepRunsFrontCommand : Obligations.StepRunsFrontCommand := by
  intro c rest s waiting
  unfold step
  rw [waiting]

/-- Settles O3: a command makes its happening or it is one of a reset, and none of them touches the queue. -/
theorem everyCommandCompletes : Obligations.EveryCommandCompletes := by
  intro c s
  by_cases hc : IsHappening c
  · obtain ⟨t, run, does, -⟩ := exec_happens hc s
    exact ⟨t, run, does.control.2.2.2.2⟩
  · rcases reset_of_not_isHappening hc with ⟨ev, rfl⟩ | ⟨pins, rfl⟩
    · cases ev with
      | powerOn => exact ⟨_, exec_powerOn s, beginReset_pending s .powerOn⟩
      | pinLow ns =>
        refine ⟨_, exec_pinLow ns s, ?_⟩
        rcases resetByPin_cases s ns with same | same | same | same
        all_goals rw [same]
        · exact beginReset_pending s .pin
        · exact (pending_freeCount _ _).trans (beginReset_pending s .pin)
    · cases cause : s.inReset with
      | none => exact ⟨s, exec_resetEnd_none pins cause, rfl⟩
      | some cause' => exact ⟨_, exec_resetEnd_some pins cause, rfl⟩

theorem take_of_not_taking {s : State} {rq : Request} {p : Port} (h : ∀ f, s.taking p = some f → f.code ≠ requestCode rq)
    (body : State → Port → List Byte → State × Reply) : s.take rq p body = s := by
  unfold State.take
  split
  next => rfl
  next f takes => rw [if_neg (h f takes)]

/-- Settles O4. -/
theorem commandsThatDoNothing : Obligations.CommandsThatDoNothing := by
  refine ⟨fun c s asleep notReset notEnd => ?_, fun s rq p unfit => ?_⟩
  · obtain ⟨t, run, -, nothing⟩ := exec_happens ⟨notReset, notEnd⟩ s
    rw [run, nothing asleep]
  · rw [exec_commandOf, State.awake, take_of_not_taking unfit, ite_self]

end Sys2Proof.Proofs
end


section
/-! PROOFS. The grant of a claim and the examination of the wait list (R13 to R16, R66 to R68). -/

namespace Sys2Proof.Proofs

open Sys2Proof.Machine Sys2Proof.Safety Sys2Proof.Laws

/-! ### Sets of resources -/

theorem inSet_or (a b : ResourceSet) (r : Resource) : inSet (a ||| b) r = (inSet a r || inSet b r) := by
  simp [inSet]

theorem inSet_one (k r : Resource) : inSet (1#36 <<< k.val) r = decide (r = k) := by
  have one : (1#36).getLsbD (r.val - k.val) = decide (r.val - k.val = 0) := by simp
  rw [inSet, BitVec.getLsbD_shiftLeft, one, decide_eq_true r.isLt, Bool.true_and, ← decide_not, ← Bool.decide_and,
    decide_eq_decide, Fin.ext_iff]
  omega

/-- A set has the members that its test holds of. -/
@[simp] theorem inSet_setOf (test : Resource → Bool) (r : Resource) : inSet (Machine.setOf test) r = test r := by
  have fold (l : List Resource) (set : ResourceSet) :
      inSet (l.foldl (fun set r => if test r then set ||| (1#36 <<< r.val) else set) set) r =
        (inSet set r || (decide (r ∈ l) && test r)) := by
    induction l generalizing set with
    | nil => simp
    | cons k l ih =>
      rw [List.foldl_cons, ih]
      by_cases own : r = k
      · subst own
        cases held : test r <;> simp [held, inSet_or, inSet_one]
      · split <;> simp [inSet_or, inSet_one, own]
  have empty : inSet 0 r = false := by simp [inSet]
  rw [Machine.setOf, fold, empty]
  simp

theorem inSet_newlyGranted (s : State) (p : Port) (set : ResourceSet) (r : Resource) :
    inSet (s.newlyGranted p set) r = (inSet set r && !s.holds p r) := inSet_setOf _ r

theorem inSet_heldSet (s : State) (p : Port) (r : Resource) : inSet (s.heldSet p) r = s.holds p r := inSet_setOf _ r

theorem setSize_newlyGranted (s : State) (p : Port) (set : ResourceSet) :
    setSize (s.newlyGranted p set) = ((List.finRange 36).filter fun r => inSet set r && !s.holds p r).length := by
  rw [setSize, members, funext (inSet_newlyGranted s p set)]

theorem eq_zero_iff_inSet (set : ResourceSet) : set = 0 ↔ ∀ r, inSet set r = false := by
  constructor
  · rintro rfl r
    simp [inSet]
  · intro none_in
    refine BitVec.eq_of_getLsbD_eq fun i hi => ?_
    exact (none_in ⟨i, hi⟩).trans BitVec.getLsbD_zero.symm

/-! ### One grant (R14, R15, R68) -/

theorem nextGeneration_ne (g : BitVec 16) : nextGeneration g ≠ g := by
  unfold nextGeneration
  split
  next h => rw [h]; decide
  next h => bv_omega

/-- A lease entry once its resource is granted to port `p`. -/
def grantedTo (p : Port) (x : LeaseEntry) : LeaseEntry := { x with state := .held p, generation := generationAfter x.generation }

theorem grant_entry_grantedTo (s : State) (p : Port) (set : ResourceSet) (r : Resource) :
    (s.grant p set).entry r = if inSet set r && !s.holds p r then grantedTo p (s.entry r) else s.entry r := by
  rw [grant_entry, inSet_newlyGranted]
  rfl

/-- Its generation tells whether a grant reached the resource. -/
theorem grant_generation_iff (s : State) (p : Port) (set : ResourceSet) (r : Resource) :
    ((s.grant p set).entry r).generation = (s.entry r).generation ↔ inSet (s.newlyGranted p set) r = false := by
  rw [grant_entry]
  split
  next new => simp [new, nextGeneration_ne]
  next old => simpa using old

theorem seedCell_eq_seeded (f : Failsafe) (c : LineCell) : seedCell f c = seeded f c := by cases f <;> rfl

theorem gain_entry (s : State) (p : Port) (n : Nat) (r : Resource) : (s.gain p n).entry r = s.entry r := by
  simp [State.gain, State.entry]

theorem removeTicket_entry (s : State) (ticket : Byte) (r : Resource) : (s.removeTicket ticket).entry r = s.entry r := by
  simp [State.removeTicket, State.entry]

/-- A grant before the drives are decided again. -/
def seededGrant (s : State) (p : Port) (set : ResourceSet) : State :=
  ((s.withEntries (s.newlyGranted p set) fun x =>
    { x with state := .held p, generation := nextGeneration x.generation }).gain p
      (setSize (s.newlyGranted p set))).seedLines (s.newlyGranted p set)

theorem grant_eq_redrive (s : State) (p : Port) (set : ResourceSet) :
    s.grant p set = (seededGrant s p set).redrive (s.newlyGranted p set) := rfl

theorem seededGrant_line (s : State) (p : Port) (set : ResourceSet) (l : Line) :
    (seededGrant s p set).line l =
      if inSet (s.newlyGranted p set) (lineResource l) then seeded (s.entry (lineResource l)).failsafe (s.line l)
      else s.line l := by
  rw [seededGrant, State.seedLines, State.line_withLines]
  have failsafe (new : inSet (s.newlyGranted p set) (lineResource l) = true) :
      (((s.withEntries (s.newlyGranted p set) fun x =>
        { x with state := .held p, generation := nextGeneration x.generation }).gain p
          (setSize (s.newlyGranted p set))).entry (lineResource l)).failsafe = (s.entry (lineResource l)).failsafe := by
    rw [gain_entry, State.entry_withEntries, if_pos new]
  have line : ((s.withEntries (s.newlyGranted p set) fun x =>
        { x with state := .held p, generation := nextGeneration x.generation }).gain p
          (setSize (s.newlyGranted p set))).line l = s.line l := by simp [State.line, State.gain]
  rw [line]
  split
  next new => rw [failsafe new, seedCell_eq_seeded]
  next => rfl

theorem seededGrant_engine (s : State) (p : Port) (set : ResourceSet) (e : EngineNo) :
    (seededGrant s p set).engine e = s.engine e := by simp [seededGrant, State.seedLines, State.gain, State.engine]

theorem grant_field (s : State) (p : Port) (set : ResourceSet) : OnlyGrantsInField s (s.grant p set) := by
  refine ⟨fun l => ?_, fun e => ?_⟩
  · rw [if_congr (grant_generation_iff s p set (lineResource l)) rfl rfl, grant_eq_redrive, line_redrive_decidedAgain,
      seededGrant_line]
    cases inSet (s.newlyGranted p set) (lineResource l) <;> rfl
  · rw [if_congr (grant_generation_iff s p set (engineResource e)) rfl rfl, grant_eq_redrive, engine_redrive_engineDrive,
      seededGrant_engine]
    cases inSet (s.newlyGranted p set) (engineResource e) <;> rfl

theorem grant_counters (s : State) (p : Port) (set : ResourceSet) :
    (s.grant p set).offerCounter = s.offerCounter ∧ (s.grant p set).ticketCounter = s.ticketCounter := by
  simp [State.grant, State.seedLines, State.gain]

section Queued

variable (s : State) (w : WaitEntry)

theorem grantQueued_entry (r : Resource) :
    (s.grantQueued w).entry r = if inSet w.set r && !s.holds w.port r then grantedTo w.port (s.entry r) else s.entry r := by
  rw [State.grantQueued, append_entry, removeTicket_entry, grant_entry_grantedTo]

theorem grantQueued_waitList :
    (s.grantQueued w).waitList = s.waitList.filter fun x => decide (x.ticket ≠ w.ticket) := by
  obtain ⟨-, waitList, -⟩ := grant_rest s w.port w.set
  rw [State.grantQueued, (append_tables _ _ _ _).2.2.2.1, State.removeTicket, State.withWaitList_waitList, waitList]

theorem grantQueued_offers :
    (s.grantQueued w).offers = s.offers ∧ (s.grantQueued w).offerCounter = s.offerCounter ∧
      (s.grantQueued w).ticketCounter = s.ticketCounter := by
  obtain ⟨offers, -⟩ := grant_rest s w.port w.set
  obtain ⟨offerCounter, ticketCounter⟩ := grant_counters s w.port w.set
  obtain ⟨-, a, b, -, c⟩ := append_tables ((s.grant w.port w.set).removeTicket w.ticket) (onlyPort w.port) s.timeCount
    (.claimSettled w.port w.ticket .granted w.set)
  simp only [State.removeTicket, State.withWaitList_offers, State.withWaitList_offerCounter,
    State.withWaitList_ticketCounter] at a b c
  exact ⟨a.trans offers, b.trans offerCounter, c.trans ticketCounter⟩

end Queued

end Sys2Proof.Proofs
end


section
/-! PROOFS. The examination of the wait list: every entry whose set is available at its turn is granted, oldest first (R66). -/

namespace Sys2Proof.Proofs

open Sys2Proof.Machine Sys2Proof.Safety Sys2Proof.Laws

/-! ### Availability (R13) -/

theorem setAvailable_iff {s : State} {p : Port} {adopt : Bool} {set : ResourceSet} :
    s.setAvailable p adopt set = true ↔ ∀ r, inSet set r = true → Available s p adopt r := by
  unfold State.setAvailable
  rw [List.all_eq_true]
  exact ⟨fun h r hr => available_iff.1 (h r (mem_members.2 hr)), fun h r hr => available_iff.2 (h r (mem_members.1 hr))⟩

theorem setAvailable_eq_false_iff {s : State} {p : Port} {adopt : Bool} {set : ResourceSet} :
    s.setAvailable p adopt set = false ↔ ∃ r, inSet set r = true ∧ ¬Available s p adopt r := by
  rw [Bool.eq_false_iff, ne_eq, setAvailable_iff]
  simp only [not_forall, exists_prop]

/-- What a port does not hold and may have is without a holder. -/
theorem holder_of_available {s : State} {p : Port} {adopt : Bool} {r : Resource} (h : Available s p adopt r)
    (new : s.holds p r = false) :
    (s.entry r).state.holder = none ∧ ((∃ q, (s.entry r).state = .orphaned q) → adopt = true) := by
  rcases h with free | held | ⟨adopts, q, orphaned⟩
  · exact ⟨by rw [free]; rfl, fun ⟨q, other⟩ => by rw [free] at other; cases other⟩
  · rw [held] at new
    cases new
  · exact ⟨by rw [orphaned]; rfl, fun _ => adopts⟩

theorem holds_iff_holder {s : State} {p : Port} {r : Resource} :
    s.holds p r = true ↔ (s.entry r).state.holder = some p := by
  rw [State.holds, decide_eq_true_iff, State.holderOf]

/-- A grant to another port makes nothing available. -/
theorem not_available_grantQueued {s : State} {w : WaitEntry} {p : Port} {adopt : Bool} {r : Resource} (other : p ≠ w.port)
    (h : ¬Available s p adopt r) : ¬Available (s.grantQueued w) p adopt r := by
  intro available
  refine h ?_
  unfold Available State.holds State.holderOf at available ⊢
  rw [grantQueued_entry] at available
  split at available
  · simp [grantedTo, LeaseState.holder, other.symm] at available
  · exact available

/-! ### What examinations leave -/

/-- From `s` to `t` claims of the wait list alone were granted: an entry that changed had no holder and was granted, the
field follows, and nothing else but sessions, wait list and journal moved. -/
structure GrantsOnly (s t : State) : Prop where
  entries : ∀ r, t.entry r = s.entry r ∨ (s.entry r).state.holder = none ∧ ∃ p, t.entry r = grantedTo p (s.entry r)
  field : OnlyGrantsInField s t
  outside : SameOutside s t
  offers : t.offers = s.offers ∧ t.offerCounter = s.offerCounter ∧ t.ticketCounter = s.ticketCounter
  waiting : t.waitList.Sublist s.waitList

section Grants

variable {s t u : State}

theorem GrantsOnly.refl (s : State) : GrantsOnly s s where
  entries _ := .inl rfl
  field := ⟨fun _ => (if_pos rfl).symm, fun _ => (if_pos rfl).symm⟩
  outside := .refl s
  offers := ⟨rfl, rfl, rfl⟩
  waiting := List.Sublist.refl _

theorem generation_grantedTo_ne (p : Port) (x : LeaseEntry) : (grantedTo p x).generation ≠ x.generation :=
  nextGeneration_ne x.generation

/-- An entry whose generation is as it was is as it was. -/
theorem GrantsOnly.generation_iff (h : GrantsOnly s t) (r : Resource) :
    (t.entry r).generation = (s.entry r).generation ↔ t.entry r = s.entry r := by
  refine ⟨fun same => ?_, fun same => by rw [same]⟩
  rcases h.entries r with kept | ⟨-, p, granted⟩
  · exact kept
  · rw [granted] at same
    exact absurd same (generation_grantedTo_ne p _)

/-- What has a holder is not granted. -/
theorem GrantsOnly.entry_of_holder (h : GrantsOnly s t) {r : Resource} (held : (s.entry r).state.holder ≠ none) :
    t.entry r = s.entry r := (h.entries r).resolve_right fun ⟨free, _⟩ => held free

theorem GrantsOnly.holds (h : GrantsOnly s t) {p : Port} {r : Resource} (held : s.holds p r = true) :
    t.holds p r = true := by
  have holder := holds_iff_holder.1 held
  rw [holds_iff_holder, h.entry_of_holder (by rw [holder]; exact Option.some_ne_none p), holder]

theorem GrantsOnly.line (h : GrantsOnly s t) {l : Line} (same : t.entry (lineResource l) = s.entry (lineResource l)) :
    t.line l = s.line l := by rw [h.field.1 l, if_pos (by rw [same])]

theorem GrantsOnly.engine (h : GrantsOnly s t) {e : EngineNo}
    (same : t.entry (engineResource e) = s.entry (engineResource e)) : t.engine e = s.engine e := by
  rw [h.field.2 e, if_pos (by rw [same])]

theorem GrantsOnly.effectiveDrive (h : GrantsOnly s t) {l : Line}
    (same : t.entry (lineResource l) = s.entry (lineResource l)) : t.effectiveDrive l = s.effectiveDrive l := by
  unfold State.effectiveDrive
  rw [same, h.line same, h.outside.force, h.outside.profile]

theorem GrantsOnly.engineDrive (h : GrantsOnly s t) {e : EngineNo}
    (same : t.entry (engineResource e) = s.entry (engineResource e)) : t.engineDrive e = s.engineDrive e := by
  unfold State.engineDrive
  rw [same, h.engine same, h.outside.force]

theorem holder_grantedTo (p : Port) (x : LeaseEntry) : (grantedTo p x).state.holder ≠ none := Option.some_ne_none p

/-- After a first grant the resource has a holder, so a second passes it by. -/
theorem GrantsOnly.trans_entry (h : GrantsOnly s t) (k : GrantsOnly t u) (r : Resource) :
    u.entry r = t.entry r ∧ t.entry r ≠ s.entry r ∨ t.entry r = s.entry r := by
  rcases h.entries r with kept | ⟨-, p, granted⟩
  · exact .inr kept
  · refine .inl ⟨k.entry_of_holder (by rw [granted]; exact holder_grantedTo p _), fun same => ?_⟩
    rw [granted] at same
    exact generation_grantedTo_ne p _ (congrArg LeaseEntry.generation same)

theorem GrantsOnly.trans (h : GrantsOnly s t) (k : GrantsOnly t u) : GrantsOnly s u where
  entries r := by
    rcases h.trans_entry k r with ⟨same, -⟩ | same
    · rw [same]
      exact h.entries r
    · rw [← same]
      exact k.entries r
  field := by
    refine ⟨fun l => ?_, fun e => ?_⟩
    · rcases h.trans_entry k (lineResource l) with ⟨same, changed⟩ | same
      · rw [if_neg (by rwa [same, h.generation_iff]), k.line same, h.field.1 l, if_neg (by rwa [h.generation_iff])]
        unfold decidedAgain
        rw [k.effectiveDrive same, k.outside.profile]
      · rw [k.field.1 l, same, h.line same]
    · rcases h.trans_entry k (engineResource e) with ⟨same, changed⟩ | same
      · rw [if_neg (by rwa [same, h.generation_iff]), k.engine same, h.field.2 e, if_neg (by rwa [h.generation_iff]),
          k.engineDrive same]
      · rw [k.field.2 e, same, h.engine same]
  outside := h.outside.trans k.outside
  offers := ⟨k.offers.1.trans h.offers.1, k.offers.2.1.trans h.offers.2.1, k.offers.2.2.trans h.offers.2.2⟩
  waiting := k.waiting.trans h.waiting

/-- A record moves none of what grants move. -/
theorem onlyGrantsInField_append (h : OnlyGrantsInField s t) (ps : PortSet) (time : Count) (body : RecordBody) :
    OnlyGrantsInField s (t.append ps time body) := by
  obtain ⟨lines, engines⟩ := h
  refine ⟨fun l => ?_, fun e => ?_⟩
  · unfold decidedAgain
    rw [append_entry, append_line, effectiveDrive_append, (append_outside t ps time body).profile]
    exact lines l
  · rw [append_entry, append_engine, engineDrive_append]
    exact engines e

theorem onlyGrantsInField_removeTicket (h : OnlyGrantsInField s t) (ticket : Byte) :
    OnlyGrantsInField s (t.removeTicket ticket) := h

theorem grantQueued_field (s : State) (w : WaitEntry) : OnlyGrantsInField s (s.grantQueued w) :=
  onlyGrantsInField_append (onlyGrantsInField_removeTicket (grant_field s w.port w.set) w.ticket) _ _ _

theorem grantQueued_grantsOnly {w : WaitEntry} (available : ∀ r, inSet w.set r = true → Available s w.port w.adopt r) :
    GrantsOnly s (s.grantQueued w) where
  entries r := by
    rw [grantQueued_entry]
    split
    next new =>
      obtain ⟨inside, notHeld⟩ : inSet w.set r = true ∧ s.holds w.port r = false := by simpa using new
      exact .inr ⟨(holder_of_available (available r inside) notHeld).1, w.port, rfl⟩
    next => exact .inl rfl
  field := grantQueued_field s w
  outside := grantQueued_outside s w
  offers := grantQueued_offers s w
  waiting := by
    rw [grantQueued_waitList]
    exact List.filter_sublist

/-- What a granted claim asked for is held by its port. -/
theorem grantQueued_holds {w : WaitEntry} {r : Resource} (inside : inSet w.set r = true) :
    (s.grantQueued w).holds w.port r = true := by
  rw [holds_iff_holder, grantQueued_entry]
  cases held : s.holds w.port r with
  | false => rw [inside]; rfl
  | true =>
    rw [inside]
    exact holds_iff_holder.1 held

theorem examineEntry_grants (s : State) (w : WaitEntry) : GrantsOnly s (s.examineEntry w) := by
  unfold State.examineEntry
  split
  next available => exact grantQueued_grantsOnly (setAvailable_iff.1 available)
  next => exact .refl s

theorem examineAll_grants (l : List WaitEntry) (s : State) : GrantsOnly s (l.foldl State.examineEntry s) := by
  induction l generalizing s with
  | nil => exact .refl s
  | cons w l ih => exact (examineEntry_grants s w).trans (ih _)

theorem examine_grants (s : State) : GrantsOnly s s.examine := examineAll_grants _ s

/-! ### Who is granted (R66, R67) -/

/-- Entries that are blocked are passed over. -/
theorem examineAll_blocked {l : List WaitEntry}
    (blocked : ∀ w ∈ l, ∃ r, inSet w.set r = true ∧ ¬Available s w.port w.adopt r) :
    l.foldl State.examineEntry s = s := by
  induction l with
  | nil => rfl
  | cons w l ih =>
    rw [List.foldl_cons, examineEntry_blocked (setAvailable_eq_false_iff.2 (blocked w List.mem_cons_self))]
    exact ih fun v hv => blocked v (List.mem_cons_of_mem w hv)

theorem examine_of_blocked (h : Blocked s) : s.examine = s := examineAll_blocked h

/-- An entry that changes in an examination is granted to a queued claim to which it was available. -/
theorem examineAll_entry (l : List WaitEntry) (s : State) (r : Resource) :
    (l.foldl State.examineEntry s).entry r = s.entry r ∨
      ∃ w ∈ l, w ∉ (l.foldl State.examineEntry s).waitList ∧ inSet w.set r = true ∧
        ((s.entry r).state.holder = none ∧ ((∃ q, (s.entry r).state = .orphaned q) → w.adopt = true)) ∧
        (l.foldl State.examineEntry s).entry r = grantedTo w.port (s.entry r) := by
  induction l generalizing s with
  | nil => exact .inl rfl
  | cons w l ih =>
    rw [List.foldl_cons]
    have rest := examineAll_grants l (s.examineEntry w)
    by_cases same : (s.examineEntry w).entry r = s.entry r
    · rcases ih (s.examineEntry w) with kept | ⟨v, mem, gone, inside, available, granted⟩
      · exact .inl (kept.trans same)
      · rw [same] at available granted
        exact .inr ⟨v, List.mem_cons_of_mem w mem, gone, inside, available, granted⟩
    · refine .inr ⟨w, List.mem_cons_self, ?_⟩
      unfold State.examineEntry at same rest ⊢
      split at same
      next available =>
        rw [if_pos available] at rest ⊢
        rw [grantQueued_entry] at same
        have new : (inSet w.set r && !s.holds w.port r) = true := by
          by_contra old
          rw [if_neg old] at same
          exact same rfl
        have entry : (s.grantQueued w).entry r = grantedTo w.port (s.entry r) := by rw [grantQueued_entry, if_pos new]
        obtain ⟨inside, notHeld⟩ : inSet w.set r = true ∧ s.holds w.port r = false := by simpa using new
        refine ⟨fun mem => ?_, inside, holder_of_available (setAvailable_iff.1 available r inside) notHeld, ?_⟩
        · have stays := rest.waiting.subset mem
          rw [grantQueued_waitList] at stays
          exact absurd rfl (of_decide_eq_true (List.mem_filter.1 stays).2)
        · rw [rest.entry_of_holder (by rw [entry]; exact holder_grantedTo _ _), entry]
      next => exact absurd rfl same

theorem examine_entry (s : State) (r : Resource) : EntryIsOrGranted s s.examine r (s.entry r) := examineAll_entry _ s r

/-- The entry of a wait list whose ticket is another's is not removed with it. -/
theorem mem_waitList_grantQueued {w v : WaitEntry} (tickets : (s.waitList.map WaitEntry.ticket).Nodup)
    (hw : w ∈ s.waitList) : v ∈ (s.grantQueued w).waitList ↔ v ∈ s.waitList ∧ v ≠ w := by
  rw [grantQueued_waitList, List.mem_filter, decide_eq_true_eq]
  refine and_congr_right fun hv => not_congr ⟨fun same => ?_, congrArg _⟩
  exact List.inj_on_of_nodup_map tickets hv hw same

/-- The entries of a wait list are distinct in port and ticket. -/
def DistinctEntries (s : State) : Prop := (s.waitList.map WaitEntry.port).Nodup ∧ (s.waitList.map WaitEntry.ticket).Nodup

theorem GrantsOnly.distinct (h : GrantsOnly s t) (d : DistinctEntries s) : DistinctEntries t :=
  ⟨d.1.sublist (h.waiting.map _), d.2.sublist (h.waiting.map _)⟩

theorem port_ne_of_ne (d : DistinctEntries s) {v w : WaitEntry} (hv : v ∈ s.waitList) (hw : w ∈ s.waitList) (h : v ≠ w) :
    v.port ≠ w.port := fun same => h (List.inj_on_of_nodup_map d.1 hv hw same)

/-- A grant leaves the other blocked entries blocked: they are of other ports. -/
theorem blockedEntry_grantQueued (d : DistinctEntries s) {v w : WaitEntry} (hv : v ∈ s.waitList) (hw : w ∈ s.waitList)
    (h : v ≠ w) (blocked : ∃ r, inSet v.set r = true ∧ ¬Available s v.port v.adopt r) :
    ∃ r, inSet v.set r = true ∧ ¬Available (s.grantQueued w) v.port v.adopt r := by
  obtain ⟨r, inside, unavailable⟩ := blocked
  exact ⟨r, inside, not_available_grantQueued (port_ne_of_ne d hv hw h) unavailable⟩

/-- One pass over the entries that may be available leaves none that is. -/
theorem examineAll_leaves_blocked {l : List WaitEntry} (d : DistinctEntries s) (sub : l ⊆ s.waitList) (nodup : l.Nodup)
    (passed : ∀ v ∈ s.waitList, v ∉ l → ∃ r, inSet v.set r = true ∧ ¬Available s v.port v.adopt r) :
    Blocked (l.foldl State.examineEntry s) := by
  induction l generalizing s with
  | nil => exact fun v hv => passed v hv List.not_mem_nil
  | cons w l ih =>
    have hw := sub List.mem_cons_self
    obtain ⟨notIn, nodup⟩ := List.nodup_cons.1 nodup
    rw [List.foldl_cons]
    cases available : s.setAvailable w.port w.adopt w.set with
    | false =>
      rw [examineEntry_blocked available]
      refine ih d (fun v hv => sub (List.mem_cons_of_mem w hv)) nodup fun v hv notLater => ?_
      by_cases own : v = w
      · exact own ▸ setAvailable_eq_false_iff.1 available
      · exact passed v hv fun mem => (List.mem_cons.1 mem).elim own notLater
    | true =>
      have grants := grantQueued_grantsOnly (setAvailable_iff.1 available)
      rw [State.examineEntry, if_pos available]
      refine ih (grants.distinct d) (fun v hv => ?_) nodup fun v hv notLater => ?_
      · exact (mem_waitList_grantQueued d.2 hw).2
          ⟨sub (List.mem_cons_of_mem w hv), fun same => notIn (same ▸ hv)⟩
      · obtain ⟨hv, own⟩ := (mem_waitList_grantQueued d.2 hw).1 hv
        exact blockedEntry_grantQueued d hv hw own
          (passed v hv fun mem => (List.mem_cons.1 mem).elim own notLater)

theorem examine_blocked (d : DistinctEntries s) : Blocked s.examine :=
  examineAll_leaves_blocked d (List.Subset.refl _) (List.Nodup.of_map _ d.2) fun v hv notIn => absurd hv notIn

/-- The entries that left the wait list hold what they asked for. -/
theorem examineAll_holds {l : List WaitEntry} (d : DistinctEntries s) (sub : l ⊆ s.waitList) (nodup : l.Nodup) {w : WaitEntry}
    (hw : w ∈ s.waitList) (gone : w ∉ (l.foldl State.examineEntry s).waitList) {r : Resource}
    (inside : inSet w.set r = true) : (l.foldl State.examineEntry s).holds w.port r = true := by
  induction l generalizing s with
  | nil => exact absurd hw gone
  | cons v l ih =>
    have hv := sub List.mem_cons_self
    obtain ⟨notIn, nodup⟩ := List.nodup_cons.1 nodup
    rw [List.foldl_cons] at gone ⊢
    cases available : s.setAvailable v.port v.adopt v.set with
    | false =>
      rw [examineEntry_blocked available] at gone ⊢
      exact ih d (fun x hx => sub (List.mem_cons_of_mem v hx)) nodup hw gone
    | true =>
      have grants := grantQueued_grantsOnly (setAvailable_iff.1 available)
      rw [State.examineEntry, if_pos available] at gone ⊢
      by_cases own : w = v
      · subst own
        exact (examineAll_grants l _).holds (grantQueued_holds inside)
      · refine ih (grants.distinct d) (fun x hx => ?_) nodup ((mem_waitList_grantQueued d.2 hv).2 ⟨hw, own⟩) gone
        exact (mem_waitList_grantQueued d.2 hv).2
          ⟨sub (List.mem_cons_of_mem v hx), fun same => notIn (same ▸ hx)⟩

/-- The oldest entry that is available is granted first, and the rest follows. -/
theorem examine_oldest {before younger : List WaitEntry} {w : WaitEntry} (d : DistinctEntries s)
    (split : s.waitList = before ++ w :: younger)
    (blocked : ∀ v ∈ before, ∃ r, inSet v.set r = true ∧ ¬Available s v.port v.adopt r)
    (available : ∀ r, inSet w.set r = true → Available s w.port w.adopt r) :
    s.examine = younger.foldl State.examineEntry (s.grantQueued w) ∧ s.examine = (s.grantQueued w).examine := by
  have nodup : (before ++ w :: younger).Nodup := split ▸ List.Nodup.of_map _ d.2
  have hw : w ∈ s.waitList := by simp [split]
  have here : s.examine = younger.foldl State.examineEntry (s.grantQueued w) := by
    rw [State.examine, split, List.foldl_append, examineAll_blocked blocked, List.foldl_cons, State.examineEntry,
      if_pos (setAvailable_iff.2 available)]
  have left : (s.grantQueued w).waitList = before ++ younger := by
    have others (v : WaitEntry) (hv : v ∈ before ++ younger) : decide (v.ticket ≠ w.ticket) = true := by
      have own : v ≠ w := by
        rintro rfl
        exact (List.nodup_middle.1 nodup).notMem hv
      have mem : v ∈ s.waitList := by
        rw [split]
        simp only [List.mem_append, List.mem_cons] at hv ⊢
        tauto
      exact decide_eq_true fun same => own (List.inj_on_of_nodup_map d.2 mem hw same)
    obtain ⟨older, later⟩ := List.forall_mem_append.1 others
    rw [grantQueued_waitList, split, List.filter_append, List.filter_cons, List.filter_eq_self.2 older,
      List.filter_eq_self.2 later]
    simp
  refine ⟨here, here.trans ?_⟩
  have still (v : WaitEntry) (hv : v ∈ before) :
      ∃ r, inSet v.set r = true ∧ ¬Available (s.grantQueued w) v.port v.adopt r := by
    have mem : v ∈ s.waitList := by simp [split, hv]
    refine blockedEntry_grantQueued d mem hw ?_ (blocked v hv)
    rintro rfl
    exact (List.nodup_middle.1 nodup).notMem (List.mem_append_left _ hv)
  rw [State.examine, left, List.foldl_append, examineAll_blocked still]

theorem besideCounts_of_frame {x y : Session} (h : sessionFrame x = sessionFrame y) : besideCounts x = besideCounts y := by
  rw [besideCounts, h, besideCounts]

theorem session_removeTicket (s : State) (ticket : Byte) (q : Port) : (s.removeTicket ticket).session q = s.session q := rfl

theorem journal_removeTicket (s : State) (ticket : Byte) :
    (s.removeTicket ticket).journal = s.journal ∧ (s.removeTicket ticket).nextSeq = s.nextSeq := ⟨rfl, rfl⟩

theorem isOpen_removeTicket (s : State) (ticket : Byte) : (s.removeTicket ticket).isOpen = s.isOpen := rfl

theorem grantQueued_session (s : State) (w : WaitEntry) (q : Port) :
    sessionFrame ((s.grantQueued w).session q) = sessionFrame ((s.grant w.port w.set).session q) := by
  rw [State.grantQueued, append_moved, session_removeTicket]

theorem isOpen_grant (s : State) (p : Port) (set : ResourceSet) : (s.grant p set).isOpen = s.isOpen := by
  obtain ⟨-, -, -, own, others⟩ := grant_rest s p set
  funext q
  unfold State.isOpen State.openFields
  by_cases h : q = p
  · rw [h, own]
  · rw [others q h]

/-- A record's ports as a test. -/
theorem get_onlyPort (p : Port) : (onlyPort p).get = fun q => decide (q = p) := by
  funext q
  exact PerPort.get_of _ q

theorem heldCount_of_frame {x y : Session} (h : sessionFrame x = sessionFrame y) : x.heldCount = y.heldCount := by
  simpa [sessionFrame] using congrArg Session.heldCount h

theorem grantQueued_appended (s : State) (w : WaitEntry) :
    Appended s (s.grantQueued w) (fun q => decide (q = w.port)) s.timeCount (.claimSettled w.port w.ticket .granted w.set) := by
  obtain ⟨-, -, ⟨journal, nextSeq, -⟩, -⟩ := grant_rest s w.port w.set
  have record := appended_append ((s.grant w.port w.set).removeTicket w.ticket) (onlyPort w.port) s.timeCount
    (.claimSettled w.port w.ticket .granted w.set)
  rw [Appended, isOpen_removeTicket, isOpen_grant, (journal_removeTicket _ _).1, (journal_removeTicket _ _).2, journal,
    nextSeq, get_onlyPort] at record
  exact record

theorem queuedGrant_grantQueued (s : State) (w : WaitEntry) : QueuedGrant s (s.grantQueued w) w := by
  obtain ⟨-, -, -, own, others⟩ := grant_rest s w.port w.set
  refine ⟨grantQueued_waitList s w, grantQueued_entry s w, grantQueued_field s w, grantQueued_appended s w, ?_,
    fun q hq => ?_, fun q => ?_, (grantQueued_offers s w).1, (grantQueued_offers s w).2.1, (grantQueued_offers s w).2.2,
    (grantQueued_outside s w).1, (grantQueued_outside s w).2⟩
  · rw [heldCount_of_frame (grantQueued_session s w w.port), own, setSize_newlyGranted]
  · rw [heldCount_of_frame (grantQueued_session s w q), others q hq]
  · rw [besideCounts_of_frame (grantQueued_session s w q)]
    by_cases h : q = w.port
    · rw [h, own]
      rfl
    · rw [others q h]

end Grants

/-- Settles O19: grants take only what has no holder, and none but the claimant's own can make a set available. -/
theorem waitListExamined : Obligations.WaitListExamined := by
  intro s
  refine ⟨examine_of_blocked, examine_entry s, (examine_grants s).field, (examine_grants s).waiting, fun ports tickets => ?_⟩
  have d : DistinctEntries s := ⟨ports, tickets⟩
  refine ⟨examine_blocked d, fun w hw gone r inside => ?_, fun before w younger split blocked available => ?_⟩
  · exact examineAll_holds d (List.Subset.refl _) (List.Nodup.of_map _ d.2) hw gone inside
  · obtain ⟨passed, again⟩ := examine_oldest d split blocked available
    refine ⟨fun mem => ?_, queuedGrant_grantQueued s w, again⟩
    rw [passed] at mem
    have stays := (examineAll_grants younger _).waiting.subset mem
    rw [grantQueued_waitList] at stays
    exact absurd rfl (of_decide_eq_true (List.mem_filter.1 stays).2)

end Sys2Proof.Proofs
end


section
/-! PROOFS. The agreement of the lease tables, and what moves of resources between holders leave of it (R5, R7, R45, R62, R98). -/

namespace Sys2Proof.Proofs

open Sys2Proof.Machine Sys2Proof.Safety Sys2Proof.Laws

/-! ### The agreement, in parts -/

/-- The offer table and the OFFERED entries imply each other, but that the sets of the offers that `X` holds of may have
left their marks. -/
structure OffersWfBut (X : Offer → Prop) (s : State) : Prop where
  few : s.offers.length ≤ Config.offerCapacity
  ascending : (s.offers.map Offer.id).Pairwise (· < ·)
  parties : ∀ o ∈ s.offers, o.id ≠ 0 ∧ o.target ≠ o.offerer ∧ s.isOpen o.offerer = true ∧ s.isOpen o.target = true ∧ o.set ≠ 0
  marked : ∀ o ∈ s.offers, ¬X o → ∀ r, inSet o.set r = true → (s.entry r).state = .offered o.offerer o.id
  listed : ∀ r p id, (s.entry r).state = .offered p id → inOffer s r p id

/-- The wait list but for what its entries wait for. -/
structure WaitForm (s : State) : Prop where
  distinct : DistinctEntries s
  entries : ∀ w ∈ s.waitList, w.ticket ≠ 0 ∧ w.set ≠ 0 ∧ s.isOpen w.port = true

/-- The lease tables agree, but for the marks of the offers that `X` holds of and for what queued claims wait for. -/
structure Ledger (X : Offer → Prop) (s : State) : Prop where
  holders : HoldersOpen s
  counts : CountsHeld s
  offers : OffersWfBut X s
  waits : WaitForm s
  engines : EnginesHeld s

theorem offersWf_iff (s : State) : OffersWf s ↔ OffersWfBut (fun _ => False) s := by
  constructor
  · rintro ⟨few, ascending, each, listed⟩
    refine ⟨few, ascending, fun o ho => ?_, fun o ho _ => ?_, listed⟩
    · obtain ⟨id, parties, offerer, target, set, -⟩ := each o ho
      exact ⟨id, parties, offerer, target, set⟩
    · obtain ⟨-, -, -, -, -, marked⟩ := each o ho
      exact marked
  · rintro ⟨few, ascending, parties, marked, listed⟩
    refine ⟨few, ascending, fun o ho => ?_, listed⟩
    obtain ⟨id, different, offerer, target, set⟩ := parties o ho
    exact ⟨id, different, offerer, target, set, marked o ho not_false⟩

theorem leasesWf_iff (s : State) : LeasesWf s ↔ Ledger (fun _ => False) s ∧ Blocked s := by
  constructor
  · rintro ⟨holders, counts, offers, ⟨ports, tickets, entries, blocked⟩, engines⟩
    exact ⟨⟨holders, counts, (offersWf_iff s).1 offers, ⟨⟨ports, tickets⟩, entries⟩, engines⟩, blocked⟩
  · rintro ⟨⟨holders, counts, offers, ⟨⟨ports, tickets⟩, entries⟩, engines⟩, blocked⟩
    exact ⟨holders, counts, (offersWf_iff s).2 offers, ⟨ports, tickets, entries, blocked⟩, engines⟩

/-! ### A move of resources -/

/-- The resources of a set, all of one holder, take one lease state; held counts and running engines follow. -/
structure Move (s t : State) (set : ResourceSet) (before : Option Port) (after : LeaseState) : Prop where
  states : ∀ r, (t.entry r).state = if inSet set r then after else (s.entry r).state
  source : ∀ r, inSet set r = true → (s.entry r).state.holder = before
  isOpen : ∀ q, t.isOpen q = s.isOpen q
  counts : ∀ q, (t.session q).heldCount =
    (s.session q).heldCount + (if after.holder = some q then setSize set else 0) -
      (if before = some q then setSize set else 0)
  force : t.force = s.force
  running : ∀ e, (t.engine e).state ≠ .idle →
    (s.engine e).state ≠ .idle ∧ (inSet set (engineResource e) = true → after.holder ≠ none)

/-- The number of resources that a port holds. -/
def holdCount (s : State) (q : Port) : Nat := ((List.finRange 36).filter fun r => s.holds q r).length

theorem length_filter_split {α : Type} (l : List α) (p inside : α → Bool) :
    (l.filter p).length =
      (l.filter fun x => inside x && p x).length + (l.filter fun x => !inside x && p x).length := by
  rw [List.length_eq_length_filter_add inside, List.filter_filter, List.filter_filter]

/-- The members of a set that a port holds, when all have one holder. -/
theorem length_held_inside {s : State} {set : ResourceSet} {holder : Option Port}
    (same : ∀ r, inSet set r = true → (s.entry r).state.holder = holder) (q : Port) :
    ((List.finRange 36).filter fun r => inSet set r && s.holds q r).length = if holder = some q then setSize set else 0 := by
  split
  next own =>
    rw [setSize, members]
    refine congrArg _ (List.filter_congr fun r _ => ?_)
    cases inside : inSet set r with
    | false => rfl
    | true => rw [holds_iff_holder.2 ((same r inside).trans own)]; rfl
  next other =>
    rw [List.length_eq_zero_iff, List.filter_eq_nil_iff]
    intro r _ both
    obtain ⟨inside, held⟩ := (Bool.and_eq_true _ _).mp both
    exact other ((same r inside).symm.trans (holds_iff_holder.1 held))

section Moves

variable {s t : State} {set : ResourceSet} {before : Option Port} {after : LeaseState}

theorem Move.holder_inside (h : Move s t set before after) {r : Resource} (inside : inSet set r = true) :
    (t.entry r).state.holder = after.holder := by rw [h.states, if_pos inside]

theorem Move.state_outside (h : Move s t set before after) {r : Resource} (outside : inSet set r = false) :
    (t.entry r).state = (s.entry r).state := by rw [h.states, outside, if_neg Bool.false_ne_true]

theorem Move.holds_outside (h : Move s t set before after) {r : Resource} (outside : inSet set r = false) (q : Port) :
    t.holds q r = s.holds q r := by
  rw [State.holds, State.holderOf, h.state_outside outside, State.holds, State.holderOf]

theorem Move.holdCount (h : Move s t set before after) (q : Port) :
    holdCount t q + (if before = some q then setSize set else 0) =
      holdCount s q + (if after.holder = some q then setSize set else 0) := by
  have beside : ((List.finRange 36).filter fun r => !inSet set r && t.holds q r) =
      (List.finRange 36).filter fun r => !inSet set r && s.holds q r := by
    refine List.filter_congr fun r _ => ?_
    cases inside : inSet set r with
    | false => rw [h.holds_outside inside]
    | true => rfl
  rw [Proofs.holdCount, length_filter_split _ _ (inSet set), length_held_inside (fun r => h.holder_inside) q, beside,
    Proofs.holdCount, length_filter_split _ (fun r => s.holds q r) (inSet set), length_held_inside h.source q]
  omega

theorem Move.countsHeld (h : Move s t set before after) (k : CountsHeld s) : CountsHeld t := by
  intro q
  have counted := h.holdCount q
  have same : (s.session q).heldCount = Proofs.holdCount s q := k q
  rw [h.counts q, same]
  change _ = Proofs.holdCount t q
  omega

theorem Move.holdersOpen (h : Move s t set before after) (opened : ∀ q, after.holder = some q → s.isOpen q = true)
    (k : HoldersOpen s) : HoldersOpen t := by
  intro r q held
  rw [h.isOpen]
  cases inside : inSet set r with
  | false => exact k r q ((h.holds_outside inside q) ▸ held)
  | true => exact opened q ((h.holder_inside inside).symm.trans (holds_iff_holder.1 held))

theorem Move.enginesHeld (h : Move s t set before after) (k : EnginesHeld s) : EnginesHeld t := by
  intro e running
  obtain ⟨ran, controls⟩ := h.running e running
  obtain ⟨released, held⟩ := k e ran
  refine ⟨by rw [h.force, released], ?_⟩
  cases inside : inSet set (engineResource e) with
  | false => rwa [h.state_outside inside]
  | true => rw [controlled, h.holder_inside inside, Option.isSome_iff_ne_none]; exact controls inside

/-- Offers leave the table with the marks of their resources; the marks of the kept ones stay, but of those that may lack
them. -/
theorem Move.offersWf (h : Move s t set before after) {X Y : Offer → Prop} {keep : Offer → Bool}
    (offers : t.offers = s.offers.filter keep) (plain : ∀ p id, after ≠ .offered p id)
    (apart : ∀ o ∈ s.offers, keep o = true → ¬Y o → ¬X o ∧ ∀ r, inSet o.set r = true → inSet set r = false)
    (covered : ∀ o ∈ s.offers, keep o = false → ∀ r, (s.entry r).state = .offered o.offerer o.id → inSet set r = true)
    (k : OffersWfBut X s) : OffersWfBut Y t where
  few := by
    rw [offers]
    exact (List.length_filter_le _ _).trans k.few
  ascending := by
    rw [offers]
    exact k.ascending.sublist (List.filter_sublist.map _)
  parties o ho := by
    rw [h.isOpen, h.isOpen]
    exact k.parties o (List.mem_filter.1 (offers ▸ ho)).1
  marked o ho notY r inside := by
    obtain ⟨mem, kept⟩ := List.mem_filter.1 (offers ▸ ho)
    obtain ⟨notX, beside⟩ := apart o mem kept notY
    rw [h.state_outside (beside r inside)]
    exact k.marked o mem notX r inside
  listed r p id offered := by
    cases inside : inSet set r with
    | true =>
      rw [h.states, if_pos inside] at offered
      exact absurd offered (plain p id)
    | false =>
      rw [h.state_outside inside] at offered
      obtain ⟨o, mem, rfl, rfl, named⟩ := k.listed r p id offered
      cases kept : keep o with
      | true => exact ⟨o, by rw [offers]; exact List.mem_filter.2 ⟨mem, kept⟩, rfl, rfl, named⟩
      | false =>
        rw [covered o mem kept r offered] at inside
        cases inside

theorem WaitForm.of_sublist (k : WaitForm s) (waiting : t.waitList.Sublist s.waitList) (isOpen : ∀ q, t.isOpen q = s.isOpen q) :
    WaitForm t where
  distinct := ⟨k.distinct.1.sublist (waiting.map _), k.distinct.2.sublist (waiting.map _)⟩
  entries w hw := by
    rw [isOpen]
    exact k.entries w (waiting.subset hw)

theorem Move.ledger (h : Move s t set before after) {X Y : Offer → Prop} (k : Ledger X s)
    (waiting : t.waitList.Sublist s.waitList) (opened : ∀ q, after.holder = some q → s.isOpen q = true)
    (offers : OffersWfBut Y t) : Ledger Y t where
  holders := h.holdersOpen opened k.holders
  counts := h.countsHeld k.counts
  offers := offers
  waits := k.waits.of_sublist waiting h.isOpen
  engines := h.enginesHeld k.engines

/-! ### What the agreement does not read -/

/-- Lease states, OPEN sessions, held counts, offers and wait list are as they were, and no engine runs that was IDLE; under a new
force none runs. -/
structure SameLedger (s t : State) : Prop where
  states : ∀ r, (t.entry r).state = (s.entry r).state
  isOpen : ∀ q, t.isOpen q = s.isOpen q
  counts : ∀ q, (t.session q).heldCount = (s.session q).heldCount
  offers : t.offers = s.offers
  waitList : t.waitList = s.waitList
  force : t.force.asserted = true → s.force.asserted = true ∨ ∀ e, (t.engine e).state = .idle
  running : ∀ e, (t.engine e).state ≠ .idle → (s.engine e).state ≠ .idle

theorem SameLedger.holds (h : SameLedger s t) (q : Port) (r : Resource) : t.holds q r = s.holds q r := by
  rw [State.holds, State.holderOf, h.states, State.holds, State.holderOf]

theorem SameLedger.available (h : SameLedger s t) (q : Port) (adopt : Bool) (r : Resource) :
    Available t q adopt r ↔ Available s q adopt r := by
  rw [Available, h.holds, h.states, Available]

theorem SameLedger.blocked (h : SameLedger s t) (k : Blocked s) : Blocked t := by
  intro w hw
  obtain ⟨r, inside, unavailable⟩ := k w (h.waitList ▸ hw)
  exact ⟨r, inside, by rwa [h.available]⟩

theorem SameLedger.ledger (h : SameLedger s t) {X : Offer → Prop} (k : Ledger X s) : Ledger X t where
  holders r q held := by
    rw [h.holds] at held
    rw [h.isOpen]
    exact k.holders r q held
  counts q := by simp only [h.counts, h.holds, k.counts q]
  offers := {
    few := h.offers ▸ k.offers.few
    ascending := h.offers ▸ k.offers.ascending
    parties := fun o ho => by
      rw [h.isOpen, h.isOpen]
      exact k.offers.parties o (h.offers ▸ ho)
    marked := fun o ho notX r inside => by
      rw [h.states]
      exact k.offers.marked o (h.offers ▸ ho) notX r inside
    listed := fun r p id offered => by
      rw [h.states] at offered
      obtain ⟨o, mem, named⟩ := k.offers.listed r p id offered
      exact ⟨o, h.offers.symm ▸ mem, named⟩ }
  waits := k.waits.of_sublist (h.waitList ▸ List.Sublist.refl _) h.isOpen
  engines e running := by
    obtain ⟨released, held⟩ := k.engines e (h.running e running)
    refine ⟨?_, by rwa [h.states]⟩
    by_contra asserted
    rcases h.force (by simpa using asserted) with already | idle
    · rw [already] at released
      cases released
    · exact running (idle e)

theorem SameLedger.leasesWf (h : SameLedger s t) (k : LeasesWf s) : LeasesWf t := by
  rw [leasesWf_iff] at k ⊢
  exact ⟨h.ledger k.1, h.blocked k.2⟩

theorem SameLedger.refl (s : State) : SameLedger s s :=
  ⟨fun _ => rfl, fun _ => rfl, fun _ => rfl, rfl, rfl, .inl, fun _ => id⟩

theorem SameLedger.trans {u : State} (h : SameLedger s t) (k : SameLedger t u) : SameLedger s u where
  states r := (k.states r).trans (h.states r)
  isOpen q := (k.isOpen q).trans (h.isOpen q)
  counts q := (k.counts q).trans (h.counts q)
  offers := k.offers.trans h.offers
  waitList := k.waitList.trans h.waitList
  force asserted := by
    rcases k.force asserted with already | idle
    · refine (h.force already).imp_right fun idle e => ?_
      by_contra running
      exact k.running e running (idle e)
    · exact .inr idle
  running e := h.running e ∘ k.running e

/-- A step at engines and lines starts no engine. -/
theorem FieldStep.running {ok : Count → Prop} (h : FieldStep ok s t) (e : EngineNo) :
    (t.engine e).state ≠ .idle → (s.engine e).state ≠ .idle := by
  cases h with
  | record ps time body => rw [append_engine]; exact id
  | cells f => rw [State.engine_withLines]; exact id
  | counters k f same ticks =>
    rw [State.engine_withEngine]
    split
    next own => rw [(same _).1, own]; exact id
    next => exact id
  | run k st wasRunning =>
    by_cases own : e = k
    · rw [own, setEngineState_engine]
      exact wasRunning
    · obtain ⟨⟨-, others⟩, -⟩ := setEngineState_happening s k st
      rw [others e own]
      exact id

theorem FieldRun.running {ok : Count → Prop} (h : FieldRun ok s t) (e : EngineNo) :
    (t.engine e).state ≠ .idle → (s.engine e).state ≠ .idle := by
  induction h with
  | refl => exact id
  | tail _ step ih => exact ih ∘ step.running e

theorem FieldRun.sameLedger {ok : Count → Prop} (h : FieldRun ok s t) : SameLedger s t := by
  obtain ⟨leases, offers, -, waitList, -⟩ := h.tables
  have moved := h.moved
  exact ⟨fun r => by rw [State.entry, leases, State.entry], isOpen_of_frame moved, fun q => heldCount_of_frame (moved q),
    offers, waitList, fun asserted => .inl (by rwa [← h.outside.force]), h.running⟩

theorem append_sameLedger (s : State) (ps : PortSet) (time : Count) (body : RecordBody) :
    SameLedger s (s.append ps time body) :=
  FieldRun.sameLedger (ok := fun _ => True) (append_fieldRun ps body trivial)

/-- Nothing that the agreement reads is replaced. -/
theorem SameLedger.of_fields (leases : t.leases = s.leases) (sessions : t.sessions = s.sessions) (offers : t.offers = s.offers)
    (waitList : t.waitList = s.waitList) (force : t.force = s.force)
    (running : ∀ e, (t.engine e).state ≠ .idle → (s.engine e).state ≠ .idle) : SameLedger s t where
  states r := by rw [State.entry, leases, State.entry]
  isOpen q := by rw [State.isOpen, State.openFields, State.session, sessions]; rfl
  counts q := by rw [State.session, sessions, State.session]
  offers := offers
  waitList := waitList
  force := by rw [force]; exact .inl
  running := running

end Moves

end Sys2Proof.Proofs
end


section
/-! PROOFS. The operations on leases keep the tables in agreement, or leave them so that the examination restores it. -/

namespace Sys2Proof.Proofs

open Sys2Proof.Machine Sys2Proof.Safety Sys2Proof.Laws

section Same

variable {s t : State}

/-! ### Operations beside the tables -/

theorem state_redrive (s : State) (set : ResourceSet) (e : EngineNo) :
    ((s.redrive set).engine e).state = (s.engine e).state := by
  rw [State.engine_redrive]
  split <;> rfl

theorem redrive_sameLedger (s : State) (set : ResourceSet) : SameLedger s (s.redrive set) :=
  .of_fields (by simp) (by simp) (by simp) (by simp) (by simp) fun e => by rw [state_redrive]; exact id

theorem withLines_sameLedger (s : State) (f : Line → LineCell → LineCell) : SameLedger s (s.withLines f) :=
  .of_fields (by simp) (by simp) (by simp) (by simp) (by simp) fun e => by rw [State.engine_withLines]; exact id

theorem withEngine_sameLedger (s : State) (e : EngineNo) (f : Engine → Engine) (same : ∀ g, (f g).state = g.state) :
    SameLedger s (s.withEngine e f) :=
  .of_fields (by simp) (by simp) (by simp) (by simp) (by simp) fun k => by
    rw [State.engine_withEngine]
    split
    next own => rw [same, own]; exact id
    next => exact id

theorem portsOnly_sameLedger (only : PortsOnly s t) : SameLedger s t := by
  rw [only]
  exact .of_fields rfl rfl rfl rfl rfl fun _ => id

theorem withForce_sameLedger (s : State) (force : ForceMonitor)
    (asserted : force.asserted = true → s.force.asserted = true) : SameLedger s (s.withForce force) where
  states _ := rfl
  isOpen _ := rfl
  counts _ := rfl
  offers := rfl
  waitList := rfl
  force h := .inl (asserted h)
  running _ := id

theorem withProfile_sameLedger (s : State) (profile : Profile) : SameLedger s (s.withProfile profile) :=
  .of_fields rfl rfl rfl rfl rfl fun _ => id

theorem withOpen_sameLedger (s : State) (p : Port) (f : OpenSession → OpenSession) : SameLedger s (s.withOpen p f) where
  states r := by rw [State.entry, State.withOpen_leases, State.entry]
  isOpen q := isOpen_withOpen s p q f
  counts q := by
    rw [State.session_withOpen]
    split
    next own =>
      subst own
      cases (s.session q).state <;> rfl
    next => rfl
  offers := s.withOpen_offers p f
  waitList := s.withOpen_waitList p f
  force := by rw [s.withOpen_force p f]; exact .inl
  running e := by rw [State.engine, State.withOpen_engines, State.engine]; exact id

/-- The session of one port moved, beside what the tables read. -/
theorem OnlyOwnMoved.sameLedger {p : Port} (own : OnlyOwnMoved s t p) (isOpen : t.isOpen p = s.isOpen p)
    (count : (t.session p).heldCount = (s.session p).heldCount) : SameLedger s t := by
  obtain ⟨leases, offers, -, waitList, -⟩ := own.tables
  refine ⟨fun r => by rw [State.entry, leases, State.entry], fun q => ?_, fun q => ?_, offers, waitList, ?_, fun e => ?_⟩
  · by_cases h : q = p
    · rw [h, isOpen]
    · rw [State.isOpen, State.openFields, own.sessions q h]
      rfl
  · by_cases h : q = p
    · rw [h, count]
    · rw [own.sessions q h]
  · rw [own.outside.force]
    exact .inl
  · rw [State.engine, own.field.2, State.engine]
    exact id

theorem deliver_sameLedger (s : State) (p : Port) (m : Nat) : SameLedger s (s.deliver p m).1 := by
  cases fields : s.openFields p with
  | none => rw [State.deliver, fields]; exact .refl s
  | some o =>
    rw [deliver_eq m fields]
    have session := session_deliveredState (markDelivered o ((s.records p).take m)) fields
    refine (deliveredState_own s p _).sameLedger ?_ (by rw [session])
    rw [State.isOpen, openFields_eq_some_iff.2 (by rw [session]), State.isOpen, fields]
    rfl

theorem acknowledge_sameLedger {p : Port} {o : OpenSession} (n : Seq) (fields : s.openFields p = some o) :
    SameLedger s (s.acknowledge p o n) := by
  have session := session_acknowledge s p o n
  refine (acknowledge_own s p o n).sameLedger ?_ (by rw [session])
  rw [State.isOpen, (openFields_eq_some_iff (o := acknowledgedFields o n)).2 (by rw [session]), State.isOpen, fields]
  rfl

theorem reattend_sameLedger (s : State) (ps : PortSet) : SameLedger s (s.reattend ps) :=
  .of_fields rfl rfl rfl rfl rfl fun _ => id

theorem enterMonitors_sameLedger (s : State) : SameLedger s s.enterMonitors := withLines_sameLedger s _

theorem changeProfile_sameLedger (s : State) (p : Port) (x : Profile) : SameLedger s (s.changeProfile p x) := by
  have seeded : SameLedger s (s.withProfile x).reseed := (withProfile_sameLedger s x).trans (withLines_sameLedger _ _)
  exact ((seeded.trans (redrive_sameLedger _ _)).trans (enterMonitors_sameLedger _)).trans (append_sameLedger _ _ _ _)

theorem forceChanged_sameLedger (s : State) (asserted : Bool) : SameLedger s (s.forceChanged asserted) :=
  ((redrive_sameLedger s _).trans (append_sameLedger _ _ _ _)).trans (enterMonitors_sameLedger _)

theorem releaseForce_sameLedger (s : State) : SameLedger s s.releaseForce :=
  (withForce_sameLedger s { asserted := false, run := 0 } (fun h => by cases h)).trans (forceChanged_sameLedger _ false)

/-- Only lease states are read of the lease table. -/
theorem withEntryOf_sameLedger (s : State) (f : Resource → LeaseEntry → LeaseEntry) (same : ∀ r x, (f r x).state = x.state) :
    SameLedger s (s.withEntryOf f) where
  states r := by rw [State.entry_withEntryOf, same]
  isOpen q := congrFun (isOpen_of_sameSessions (s.withEntryOf_sessions f)) q
  counts q := by rw [State.session, s.withEntryOf_sessions f, State.session]
  offers := s.withEntryOf_offers f
  waitList := s.withEntryOf_waitList f
  force := by rw [s.withEntryOf_force f]; exact .inl
  running e := by rw [State.engine, s.withEntryOf_engines f, State.engine]; exact id

theorem setFailsafes_sameLedger (s : State) (set : ResourceSet) (pl : List Byte) : SameLedger s (s.setFailsafes set pl) :=
  (withEntryOf_sameLedger s _ fun r x => by split <;> rfl).trans (redrive_sameLedger _ set)

/-! ### Engines that stop -/

theorem stopEngine_leaves_idle (s : State) (o : EngineOutcome) (e : EngineNo) : ((s.stopEngine o e).engine e).state = .idle := by
  unfold State.stopEngine
  split
  next idle => exact idle
  next =>
    split
    · rw [setEngineState_engine]
    · rw [State.finishRun, State.appendResult, append_engine, setEngineState_engine]

theorem silenceEngine_leaves_idle (s : State) (e : EngineNo) : ((s.silenceEngine e).engine e).state = .idle := by
  unfold State.silenceEngine
  split
  next idle => exact idle
  next => rw [setEngineState_engine]

/-- Each engine of a list is made IDLE, and none is started again. -/
theorem foldl_leaves_idle {f : State → EngineNo → State} (run : ∀ s e, FieldRun (fun _ => True) s (f s e))
    (idle : ∀ s e, ((f s e).engine e).state = .idle) {l : List EngineNo} {e : EngineNo}
    (h : e ∈ l ∨ (s.engine e).state = .idle) : ((l.foldl f s).engine e).state = .idle := by
  induction l generalizing s with
  | nil => exact h.resolve_left List.not_mem_nil
  | cons k l ih =>
    refine ih ?_
    rcases h with mem | already
    · rcases List.mem_cons.1 mem with rfl | later
      · exact .inr (idle s e)
      · exact .inl later
    · refine .inr ?_
      by_contra running
      exact FieldRun.running (run s k) e running already

theorem stopAll_leaves_idle (s : State) (o : EngineOutcome) {l : List EngineNo} {e : EngineNo} (h : e ∈ l) :
    ((l.foldl (fun s e => State.stopEngine s o e) s).engine e).state = .idle :=
  foldl_leaves_idle (fun _ e => stopEngine_fieldRun o e trivial) (fun s e => stopEngine_leaves_idle s o e) (.inl h)

theorem silenceAll_leaves_idle (s : State) {l : List EngineNo} {e : EngineNo} (h : e ∈ l) :
    ((l.foldl State.silenceEngine s).engine e).state = .idle :=
  foldl_leaves_idle (fun _ e => silenceEngine_fieldRun e) silenceEngine_leaves_idle (.inl h)

theorem mem_enginesOf {set : ResourceSet} {e : EngineNo} : e ∈ enginesOf set ↔ inSet set (engineResource e) = true := by
  simp [enginesOf]

theorem sameLedger_of_forced (h : SameLedger (s.setForce true) t) (idle : ∀ e, (t.engine e).state = .idle) : SameLedger s t where
  states := h.states
  isOpen := h.isOpen
  counts := h.counts
  offers := h.offers
  waitList := h.waitList
  force _ := .inr idle
  running := h.running

theorem assertForce_sameLedger (s : State) : SameLedger s s.assertForce := by
  have caught := FieldRun.sameLedger (catchUpAll_fieldRun (List.finRange 4) (tickTimes_any s))
  have forced := FieldRun.sameLedger
    (stopAll_fieldRun .forced (List.finRange 4) (tickTimes_any ((s.catchUpAll (List.finRange 4)).setForce true)))
  have idle (e : EngineNo) := stopAll_leaves_idle ((s.catchUpAll (List.finRange 4)).setForce true) .forced (List.mem_finRange e)
  exact (caught.trans (sameLedger_of_forced forced idle)).trans (forceChanged_sameLedger _ true)

end Same

end Sys2Proof.Proofs
end


section
/-! PROOFS. Grants, releases, offers and the ends of sessions keep the lease tables in agreement. -/

namespace Sys2Proof.Proofs

open Sys2Proof.Machine Sys2Proof.Safety Sys2Proof.Laws

section Ledgers

variable {s t : State} {X : Offer → Prop}

/-! ### Grants and the examination (R14, R66) -/

theorem withSession_isOpen (s : State) (p q : Port) (f : Session → Session) (same : ∀ x, (f x).state = x.state) :
    (s.withSession p f).isOpen q = s.isOpen q := by
  rw [State.isOpen, State.openFields, State.session_withSession]
  by_cases own : q = p
  · rw [if_pos own, same, own]
    rfl
  · rw [if_neg own]
    rfl

theorem holder_held (p : Port) : (LeaseState.held p).holder = some p := rfl

theorem grant_move {p : Port} {adopt : Bool} {set : ResourceSet}
    (available : ∀ r, inSet set r = true → Available s p adopt r) :
    Move s (s.grant p set) (s.newlyGranted p set) none (.held p) where
  states r := by
    rw [grant_entry]
    split <;> rfl
  source r new := by
    rw [inSet_newlyGranted] at new
    obtain ⟨inside, notHeld⟩ : inSet set r = true ∧ s.holds p r = false := by simpa using new
    exact (holder_of_available (available r inside) notHeld).1
  isOpen q := congrFun (isOpen_grant s p set) q
  counts q := by
    obtain ⟨-, -, -, own, others⟩ := grant_rest s p set
    rw [if_neg (Option.some_ne_none q).symm, Nat.sub_zero, holder_held]
    by_cases h : q = p
    · rw [h, own, if_pos rfl]
    · rw [others q h, if_neg fun same => h (Option.some.inj same).symm, Nat.add_zero]
  force := (grant_outside s p set).force
  running e running := by
    refine ⟨?_, fun _ => Option.some_ne_none p⟩
    rwa [grant_eq_redrive, state_redrive, seededGrant_engine] at running

theorem grant_ledger {p : Port} {adopt : Bool} {set : ResourceSet} (isOpen : s.isOpen p = true)
    (available : ∀ r, inSet set r = true → Available s p adopt r) (k : Ledger X s) : Ledger X (s.grant p set) := by
  have move := grant_move available
  obtain ⟨offers, waitList, -⟩ := grant_rest s p set
  refine move.ledger k (by rw [waitList]) (fun q own => Option.some.inj own ▸ isOpen) ?_
  refine move.offersWf (keep := fun _ => true) (by rw [offers, List.filter_true]) (fun _ _ => by simp)
    (fun o ho _ notX => ⟨notX, fun r inside => ?_⟩) (fun _ _ dropped => by cases dropped) k.offers
  by_contra new
  have free := move.source r (by simpa using new)
  rw [k.offers.marked o ho notX r inside] at free
  cases free

theorem removeTicket_ledger (ticket : Byte) (k : Ledger X s) : Ledger X (s.removeTicket ticket) where
  holders := k.holders
  counts := k.counts
  offers := { k.offers with }
  waits := k.waits.of_sublist List.filter_sublist fun _ => rfl
  engines := k.engines

theorem removeTicket_blocked (ticket : Byte) (k : Blocked s) : Blocked (s.removeTicket ticket) :=
  fun w hw => k w (List.mem_filter.1 hw).1

theorem append_ledger (ps : PortSet) (time : Count) (body : RecordBody) (k : Ledger X s) : Ledger X (s.append ps time body) :=
  (append_sameLedger s ps time body).ledger k

theorem examineEntry_ledger {w : WaitEntry} (isOpen : s.isOpen w.port = true) (k : Ledger X s) : Ledger X (s.examineEntry w) := by
  unfold State.examineEntry
  split
  next available => exact append_ledger _ _ _ (removeTicket_ledger _ (grant_ledger isOpen (setAvailable_iff.1 available) k))
  next => exact k

theorem isOpen_examineEntry (s : State) (w : WaitEntry) (q : Port) : (s.examineEntry w).isOpen q = s.isOpen q := by
  unfold State.examineEntry
  split
  · rw [State.grantQueued, isOpen_of_frame (append_moved _ _ _ _), isOpen_removeTicket, isOpen_grant]
  · rfl

theorem examineAll_ledger {l : List WaitEntry} (isOpen : ∀ w ∈ l, s.isOpen w.port = true) (k : Ledger X s) :
    Ledger X (l.foldl State.examineEntry s) := by
  induction l generalizing s with
  | nil => exact k
  | cons w l ih =>
    refine ih (fun v hv => ?_) (examineEntry_ledger (isOpen w List.mem_cons_self) k)
    rw [isOpen_examineEntry]
    exact isOpen v (List.mem_cons_of_mem w hv)

/-- The examination leaves every claim blocked. -/
theorem examine_leasesWf (k : Ledger (fun _ => False) s) : LeasesWf s.examine :=
  (leasesWf_iff _).2 ⟨examineAll_ledger (fun w hw => (k.waits.entries w hw).2.2) k, examine_blocked k.waits.distinct⟩

/-! ### Releases (R22) -/

theorem letGo_state (s : State) (set : ResourceSet) (after : LeaseState) (r : Resource) :
    ((s.letGo set after).entry r).state = if inSet set r then after else (s.entry r).state := by
  rw [letGo_entry]
  split <;> rfl

theorem letGo_running (s : State) (set : ResourceSet) (after : LeaseState) (e : EngineNo) :
    ((s.letGo set after).engine e).state = (s.engine e).state := by
  rw [State.letGo, state_redrive]
  simp [State.engine]

/-- The resources of one port leave its control, their engines being IDLE. -/
theorem letGo_move {p : Port} {set : ResourceSet} {after : LeaseState} {f : Session → Session}
    (held : ∀ r, inSet set r = true → (s.entry r).state.holder = some p) (none_after : after.holder = none)
    (idle : ∀ e ∈ enginesOf set, (s.engine e).state = .idle) (sameState : ∀ x, (f x).state = x.state)
    (count : (f (s.session p)).heldCount = (s.session p).heldCount - setSize set) :
    Move s ((s.letGo set after).withSession p f) set (some p) after where
  states r := by rw [State.entry, State.withSession_leases, ← State.entry, letGo_state]
  source := held
  isOpen q := by
    obtain ⟨-, -, sessions, -⟩ := letGo_rest s set after
    rw [withSession_isOpen _ p q f sameState, isOpen_of_sameSessions sessions]
  counts q := by
    obtain ⟨-, -, sessions, -⟩ := letGo_rest s set after
    have session (q : Port) : (s.letGo set after).session q = s.session q := by
      rw [State.session, sessions, State.session]
    rw [State.session_withSession, none_after, if_neg (Option.some_ne_none q).symm, Nat.add_zero]
    by_cases own : q = p
    · rw [if_pos own, own, session, count, if_pos rfl]
    · rw [if_neg own, session, if_neg fun same => own (Option.some.inj same).symm, Nat.sub_zero]
  force := (State.withSession_force _ _ _).trans (letGo_outside s set after).force
  running e running := by
    rw [State.engine, State.withSession_engines, ← State.engine, letGo_running] at running
    exact ⟨running, fun inside => absurd (idle e (mem_enginesOf.2 inside)) running⟩

/-- The offers that keep their marks name none of the resources that are let go. -/
theorem letGo_ledger {Y : Offer → Prop} {p : Port} {set : ResourceSet} {after : LeaseState} {f : Session → Session}
    (move : Move s ((s.letGo set after).withSession p f) set (some p) after) (none_after : after.holder = none)
    (apart : ∀ o ∈ s.offers, ¬Y o → ¬X o ∧ ∀ r, inSet o.set r = true → inSet set r = false) (k : Ledger X s) :
    Ledger Y ((s.letGo set after).withSession p f) := by
  obtain ⟨offers, waitList, -⟩ := letGo_rest s set after
  refine move.ledger k ?_ (fun q own => by rw [none_after] at own; cases own) ?_
  · rw [State.withSession_waitList, waitList]
  · refine move.offersWf (keep := fun _ => true) ?_ (fun p id same => ?_) (fun o ho _ => apart o ho)
      (fun _ _ dropped => by cases dropped) k.offers
    · rw [State.withSession_offers, offers, List.filter_true]
    · rw [same] at none_after
      cases none_after

/-- The engines of a set are stopped, each with its record, a due tick being taken first (R22, R99). -/
def stoppedFor (s : State) (set : ResourceSet) : State :=
  (enginesOf set).foldl (fun s e => State.stopEngine s .stopped e) (s.catchUpAll (enginesOf set))

theorem releaseSet_eq (s : State) (p : Port) (set : ResourceSet) :
    s.releaseSet p set = (((stoppedFor s set).letGo set .free).lose p (setSize set)).examine := rfl

theorem stoppedFor_fieldRun {ok : Count → Prop} (set : ResourceSet) (ticks : TickTimes ok s) : FieldRun ok s (stoppedFor s set) := by
  have ready := catchUpAll_fieldRun (enginesOf set) ticks
  exact ready.trans (stopAll_fieldRun .stopped (enginesOf set) (ready.tickTimes ticks))

theorem stoppedFor_idle (s : State) {set : ResourceSet} {e : EngineNo} (h : e ∈ enginesOf set) :
    ((stoppedFor s set).engine e).state = .idle := stopAll_leaves_idle _ .stopped h

theorem releaseSet_leasesWf {p : Port} {set : ResourceSet} (held : ∀ r, inSet set r = true → (s.entry r).state = .held p)
    (k : LeasesWf s) : LeasesWf (s.releaseSet p set) := by
  have stopped := FieldRun.sameLedger (stoppedFor_fieldRun set (tickTimes_any s))
  have ledger := stopped.ledger ((leasesWf_iff s).1 k).1
  have still (r : Resource) (inside : inSet set r = true) : ((stoppedFor s set).entry r).state = .held p := by
    rw [stopped.states, held r inside]
  have move := letGo_move (after := .free) (f := fun x => { x with heldCount := x.heldCount - setSize set })
    (fun r inside => by rw [still r inside, holder_held]) rfl (fun e h => stoppedFor_idle s h) (fun _ => rfl) rfl
  rw [releaseSet_eq]
  refine examine_leasesWf (letGo_ledger move rfl (fun o ho notX => ⟨notX, fun r inside => ?_⟩) ledger)
  by_contra inside'
  have marked := ledger.offers.marked o ho notX r inside
  rw [still r (by simpa using inside')] at marked
  cases marked

/-! ### Offers (R49 to R53) -/

theorem insertOffer_split (o : Offer) (l : List Offer) :
    ∃ before after, l = before ++ after ∧ insertOffer o l = before ++ o :: after ∧
      (∀ x ∈ before, ¬o.id.toNat < x.id.toNat) ∧ ∀ x ∈ after.head?, o.id.toNat < x.id.toNat := by
  induction l with
  | nil => exact ⟨[], [], rfl, rfl, nofun, nofun⟩
  | cons x rest ih =>
    unfold insertOffer
    split
    next lower => exact ⟨[], x :: rest, rfl, rfl, nofun, fun y hy => by cases hy; exact lower⟩
    next higher =>
      obtain ⟨before, after, split, inserted, below, above⟩ := ih
      refine ⟨x :: before, after, by rw [split]; rfl, by rw [inserted]; rfl, fun y hy => ?_, above⟩
      rcases List.mem_cons.1 hy with rfl | later
      · exact higher
      · exact below y later

theorem mem_insertOffer {o x : Offer} {l : List Offer} : x ∈ insertOffer o l ↔ x = o ∨ x ∈ l := by
  obtain ⟨before, after, split, inserted, -⟩ := insertOffer_split o l
  rw [inserted, split]
  simp only [List.mem_append, List.mem_cons]
  tauto

theorem length_insertOffer (o : Offer) (l : List Offer) : (insertOffer o l).length = l.length + 1 := by
  obtain ⟨before, after, split, inserted, -⟩ := insertOffer_split o l
  rw [inserted, split]
  simp only [List.length_append, List.length_cons]
  omega

theorem insertOffer_ascending {o : Offer} {l : List Offer} (ascending : (l.map Offer.id).Pairwise (· < ·))
    (fresh : o.id ∉ l.map Offer.id) : ((insertOffer o l).map Offer.id).Pairwise (· < ·) := by
  induction l with
  | nil => simp [insertOffer]
  | cons x rest ih =>
    rw [List.map_cons, List.pairwise_cons] at ascending
    obtain ⟨first, later⟩ := ascending
    rw [List.map_cons, List.mem_cons, not_or] at fresh
    obtain ⟨notFirst, notLater⟩ := fresh
    have different : o.id.toNat ≠ x.id.toNat := fun same => notFirst (BitVec.eq_of_toNat_eq same)
    unfold insertOffer
    split
    next lower =>
      rw [List.map_cons, List.map_cons, List.pairwise_cons, List.pairwise_cons]
      refine ⟨fun id hid => ?_, first, later⟩
      rcases List.mem_cons.1 hid with rfl | mem
      · exact lower
      · exact Nat.lt_trans lower (BitVec.lt_def.1 (first id mem))
    next higher =>
      rw [List.map_cons, List.pairwise_cons]
      refine ⟨fun id hid => ?_, ih later notLater⟩
      obtain ⟨y, mem, rfl⟩ := List.mem_map.1 hid
      rcases mem_insertOffer.1 mem with rfl | old
      · exact show x.id.toNat < _ by omega
      · exact first y.id (List.mem_map_of_mem old)

theorem allocated_ne_zero {counter id : Byte} {used : List Byte} (h : Allocated counter used id) : id ≠ 0 := by
  obtain ⟨k, -, result, -⟩ := h
  rw [result, Function.iterate_succ_apply']
  exact nextId_ne_zero _

theorem allocated_not_mem {counter id : Byte} {used : List Byte} (h : Allocated counter used id) : id ∉ used := by
  obtain ⟨k, -, -, fresh, -⟩ := h
  exact fresh

theorem allocated_nextOfferId (room : s.offers.length < 4) :
    Allocated s.offerCounter (s.offers.map Offer.id) s.nextOfferId := by
  have few : (s.offers.map Offer.id).length < 255 := by
    rw [List.length_map]
    omega
  simpa [State.nextOfferId] using allocated_freeId s.offerCounter few

/-- An OFFER before its record: the entry of the offer table, and the marks. -/
def offerEntered (s : State) (p : Port) (o : OfferOperands) (id : Byte) : State :=
  { s with
    offerCounter := id
    offers := insertOffer { id := id, offerer := p, target := o.target, set := o.set, remaining := o.window } s.offers }.withEntries
    o.set fun x => { x with state := .offered p id }

theorem makeOffer_eq (s : State) (p : Port) (o : OfferOperands) :
    s.makeOffer p o =
      ((offerEntered (s.catchUpAll (enginesOf o.set)) p o s.nextOfferId).append (onlyPort o.target) s.timeCount
        (.offerMade p s.nextOfferId o.set o.window)).examine := rfl

theorem offerEntered_offers (s : State) (p : Port) (o : OfferOperands) (id : Byte) :
    (offerEntered s p o id).offers =
      insertOffer { id := id, offerer := p, target := o.target, set := o.set, remaining := o.window } s.offers := rfl

theorem offerEntered_entry (s : State) (p : Port) (o : OfferOperands) (id : Byte) (r : Resource) :
    (offerEntered s p o id).entry r = if inSet o.set r then { s.entry r with state := .offered p id } else s.entry r := by
  rw [offerEntered, State.entry_withEntries]
  rfl

theorem holder_offered (p : Port) (id : Byte) : (LeaseState.offered p id).holder = some p := rfl

theorem offerEntered_rest (s : State) (p : Port) (o : OfferOperands) (id : Byte) :
    (offerEntered s p o id).sessions = s.sessions ∧ (offerEntered s p o id).force = s.force ∧
      (offerEntered s p o id).engines = s.engines ∧ (offerEntered s p o id).waitList = s.waitList := by simp [offerEntered]

theorem offerEntered_move {p : Port} {o : OfferOperands} (id : Byte)
    (held : ∀ r, inSet o.set r = true → (s.entry r).state = .held p) :
    Move s (offerEntered s p o id) o.set (some p) (.offered p id) where
  states r := by
    rw [offerEntered_entry]
    split <;> rfl
  source r inside := by rw [held r inside]; rfl
  isOpen q := congrFun (isOpen_of_sameSessions (offerEntered_rest s p o id).1) q
  counts q := by
    rw [State.session, (offerEntered_rest s p o id).1, ← State.session, holder_offered, Nat.add_sub_cancel]
  force := (offerEntered_rest s p o id).2.1
  running e running := by
    rw [State.engine, (offerEntered_rest s p o id).2.2.1, ← State.engine] at running
    exact ⟨running, fun _ => Option.some_ne_none p⟩

theorem offerEntered_ledger {p : Port} {o : OfferOperands} {id : Byte} (some_set : o.set ≠ 0) (other : o.target ≠ p)
    (isOpen : s.isOpen p = true) (targetOpen : s.isOpen o.target = true)
    (held : ∀ r, inSet o.set r = true → (s.entry r).state = .held p) (room : s.offers.length < 4) (nonzero : id ≠ 0)
    (fresh : id ∉ s.offers.map Offer.id) (k : Ledger (fun _ => False) s) :
    Ledger (fun _ => False) (offerEntered s p o id) := by
  have move := offerEntered_move id held
  refine move.ledger k (by rw [(offerEntered_rest s p o id).2.2.2]) (fun q own => Option.some.inj own ▸ isOpen) ?_
  have offers := offerEntered_offers s p o id
  have mem (x : Offer) : x ∈ (offerEntered s p o id).offers ↔
      x = { id := id, offerer := p, target := o.target, set := o.set, remaining := o.window } ∨ x ∈ s.offers := by
    rw [offers, mem_insertOffer]
  refine ⟨?_, ?_, fun x hx => ?_, fun x hx _ r inside => ?_, fun r q i offered => ?_⟩
  · rw [offers, length_insertOffer]
    exact room
  · rw [offers]
    exact insertOffer_ascending k.offers.ascending fresh
  · rw [move.isOpen, move.isOpen]
    rcases (mem x).1 hx with rfl | old
    · exact ⟨nonzero, other, isOpen, targetOpen, some_set⟩
    · exact k.offers.parties x old
  · rcases (mem x).1 hx with rfl | old
    · rw [move.states, if_pos inside]
    · have marked := k.offers.marked x old not_false r inside
      rw [move.state_outside, marked]
      by_contra inside'
      rw [held r (by simpa using inside')] at marked
      cases marked
  · cases inside : inSet o.set r with
    | true =>
      rw [move.states, if_pos inside] at offered
      cases offered
      exact ⟨_, (mem _).2 (.inl rfl), rfl, rfl, inside⟩
    | false =>
      rw [move.state_outside inside] at offered
      obtain ⟨x, hx, named⟩ := k.offers.listed r q i offered
      exact ⟨x, (mem x).2 (.inr hx), named⟩

theorem makeOffer_leasesWf {p : Port} {o : OfferOperands} (some_set : o.set ≠ 0) (other : o.target ≠ p)
    (isOpen : s.isOpen p = true) (targetOpen : s.isOpen o.target = true)
    (held : ∀ r, inSet o.set r = true → (s.entry r).state = .held p) (room : s.offers.length < 4) (k : LeasesWf s) :
    LeasesWf (s.makeOffer p o) := by
  have ready := FieldRun.sameLedger (catchUpAll_fieldRun (enginesOf o.set) (tickTimes_any s))
  have allocated := allocated_nextOfferId room
  have entered := offerEntered_ledger some_set other (by rwa [ready.isOpen]) (by rwa [ready.isOpen])
    (fun r inside => by rw [ready.states, held r inside]) (by rwa [ready.offers]) (allocated_ne_zero allocated)
    (by rw [ready.offers]; exact allocated_not_mem allocated) (ready.ledger ((leasesWf_iff s).1 k).1)
  rw [makeOffer_eq]
  exact examine_leasesWf (append_ledger _ _ _ entered)

theorem offer_mem {id : Byte} {o : Offer} (found : s.offer id = some o) : o ∈ s.offers := List.mem_of_find?_eq_some found

/-- An id names one offer. -/
theorem OffersWfBut.unique (k : OffersWfBut X s) {o o' : Offer} (ho : o ∈ s.offers) (ho' : o' ∈ s.offers)
    (same : o'.id = o.id) : o' = o :=
  List.inj_on_of_nodup_map (k.ascending.imp fun lt => BitVec.ne_of_lt lt) ho' ho same

/-- An offer leaves the table, and its resources take one state that is no offer's. -/
theorem Move.offersWf_removed {o : Offer} {before : Option Port} {after : LeaseState} (move : Move s t o.set before after)
    (offers : t.offers = s.offers.filter fun x => decide (x.id ≠ o.id)) (plain : ∀ p id, after ≠ .offered p id)
    (ho : o ∈ s.offers) (notX : ¬X o) (k : OffersWfBut X s) : OffersWfBut X t := by
  refine move.offersWf offers plain (fun x hx kept notX' => ⟨notX', fun r inside => ?_⟩) (fun x hx dropped r offered => ?_) k
  · have different : x.id ≠ o.id := of_decide_eq_true kept
    by_contra inside'
    have marked := k.marked o ho notX r (by simpa using inside')
    rw [k.marked x hx notX' r inside] at marked
    injection marked with _ same
    exact different same
  · have same : x = o := k.unique ho hx (by simpa using dropped)
    obtain ⟨y, hy, id, -, inside⟩ := k.listed r _ _ offered
    rwa [k.unique ho hy (id.trans (congrArg Offer.id same))] at inside

/-- An offer is accepted, but for the drives. -/
def offerMoved (s : State) (o : Offer) : State :=
  (((s.removeOffer o.id).withEntries o.set fun x =>
    { x with state := .held o.target, generation := nextGeneration x.generation }).lose o.offerer (setSize o.set)).gain
    o.target (setSize o.set)

theorem acceptOffer_eq (s : State) (o : Offer) :
    s.acceptOffer o =
      ((offerMoved (s.catchUpAll (enginesOf o.set)) o).redrive o.set).appendSettled o .accepted (onlyPort o.offerer) := rfl

theorem lose_entry (s : State) (p : Port) (n : Nat) (r : Resource) : (s.lose p n).entry r = s.entry r := by
  simp [State.lose, State.entry]

theorem removeOffer_entry (s : State) (id : Byte) (r : Resource) : (s.removeOffer id).entry r = s.entry r := by
  simp [State.removeOffer, State.entry]

theorem removeOffer_sessions (s : State) (id : Byte) : (s.removeOffer id).sessions = s.sessions := by
  simp [State.removeOffer]

theorem offerMoved_entry (s : State) (o : Offer) (r : Resource) :
    (offerMoved s o).entry r = if inSet o.set r then grantedTo o.target (s.entry r) else s.entry r := by
  rw [offerMoved, gain_entry, lose_entry, State.entry_withEntries, removeOffer_entry]
  rfl

theorem offerMoved_rest (s : State) (o : Offer) :
    (offerMoved s o).force = s.force ∧ (offerMoved s o).engines = s.engines ∧ (offerMoved s o).waitList = s.waitList ∧
      (offerMoved s o).offers = s.offers.filter fun x => decide (x.id ≠ o.id) := by
  simp [offerMoved, State.gain, State.lose, State.removeOffer]

theorem offerMoved_session {o : Offer} (different : o.target ≠ o.offerer) (q : Port) :
    (offerMoved s o).session q =
      if q = o.target then { s.session q with heldCount := (s.session q).heldCount + setSize o.set }
      else if q = o.offerer then { s.session q with heldCount := (s.session q).heldCount - setSize o.set }
      else s.session q := by
  have marked (q : Port) : (((s.removeOffer o.id).withEntries o.set fun x =>
      { x with state := .held o.target, generation := nextGeneration x.generation }).lose o.offerer (setSize o.set)).session q =
        if q = o.offerer then { s.session q with heldCount := (s.session q).heldCount - setSize o.set } else s.session q := by
    rw [State.lose, State.session_withSession]
    simp only [State.session, State.withEntries, State.withEntryOf_sessions, removeOffer_sessions]
    split
    next own => rw [own]
    next => rfl
  rw [offerMoved, State.gain, State.session_withSession, marked, marked, if_neg different]
  by_cases target : q = o.target
  · rw [if_pos target, if_pos target, target]
  · rw [if_neg target, if_neg target]

theorem offerMoved_move {o : Offer} (different : o.target ≠ o.offerer)
    (marked : ∀ r, inSet o.set r = true → (s.entry r).state = .offered o.offerer o.id) :
    Move s (offerMoved s o) o.set (some o.offerer) (.held o.target) where
  states r := by
    rw [offerMoved_entry]
    split <;> rfl
  source r inside := by rw [marked r inside]; rfl
  isOpen q := by
    rw [State.isOpen, State.openFields, offerMoved_session different]
    by_cases target : q = o.target
    · rw [if_pos target]
      rfl
    · rw [if_neg target]
      by_cases offerer : q = o.offerer
      · rw [if_pos offerer]
        rfl
      · rw [if_neg offerer]
        rfl
  counts q := by
    rw [offerMoved_session different, holder_held]
    by_cases target : q = o.target
    · have notOfferer : some o.offerer ≠ some q := fun same => different (target ▸ (Option.some.inj same).symm)
      rw [if_pos target, if_neg notOfferer, if_pos (congrArg some target.symm), Nat.sub_zero]
    · rw [if_neg target, if_neg fun same => target (Option.some.inj same).symm, Nat.add_zero]
      by_cases offerer : q = o.offerer
      · rw [if_pos offerer, if_pos (congrArg some offerer.symm)]
      · rw [if_neg offerer, if_neg fun same => offerer (Option.some.inj same).symm, Nat.sub_zero]
  force := (offerMoved_rest s o).1
  running e running := by
    rw [State.engine, (offerMoved_rest s o).2.1, ← State.engine] at running
    exact ⟨running, fun _ => Option.some_ne_none o.target⟩

theorem offerMoved_ledger {o : Offer} (ho : o ∈ s.offers) (k : Ledger (fun _ => False) s) :
    Ledger (fun _ => False) (offerMoved s o) := by
  obtain ⟨-, different, -, targetOpen, -⟩ := k.offers.parties o ho
  have move := offerMoved_move different (k.offers.marked o ho not_false)
  obtain ⟨-, -, waitList, offers⟩ := offerMoved_rest s o
  exact move.ledger k (by rw [waitList]) (fun q own => Option.some.inj own ▸ targetOpen)
    (move.offersWf_removed offers (fun _ _ => by simp) ho not_false k.offers)

theorem acceptOffer_leasesWf {o : Offer} (ho : o ∈ s.offers) (k : LeasesWf s) : LeasesWf (s.acceptOffer o).examine := by
  have ready := FieldRun.sameLedger (catchUpAll_fieldRun (enginesOf o.set) (tickTimes_any s))
  rw [acceptOffer_eq]
  exact examine_leasesWf (append_ledger _ _ _ ((redrive_sameLedger _ _).ledger
    (offerMoved_ledger (by rwa [ready.offers]) (ready.ledger ((leasesWf_iff s).1 k).1))))

/-- An offer returns to its offerer once its engines have taken their ticks. -/
def givenBack (s : State) (o : Offer) : State :=
  (s.removeOffer o.id).withEntries o.set fun x => { x with state := .held o.offerer }

theorem returnOffer_eq (s : State) (o : Offer) : s.returnOffer o = givenBack (s.catchUpAll (enginesOf o.set)) o := rfl

theorem givenBack_entry (s : State) (o : Offer) (r : Resource) :
    (givenBack s o).entry r = if inSet o.set r then { s.entry r with state := .held o.offerer } else s.entry r := by
  rw [givenBack, State.entry_withEntries, removeOffer_entry]

theorem givenBack_rest (s : State) (o : Offer) :
    (givenBack s o).sessions = s.sessions ∧ (givenBack s o).force = s.force ∧
      (givenBack s o).engines = s.engines ∧ (givenBack s o).waitList = s.waitList ∧
      (givenBack s o).offers = s.offers.filter fun x => decide (x.id ≠ o.id) := by
  simp [givenBack, State.removeOffer]

theorem givenBack_move {o : Offer} (marked : ∀ r, inSet o.set r = true → (s.entry r).state = .offered o.offerer o.id) :
    Move s (givenBack s o) o.set (some o.offerer) (.held o.offerer) where
  states r := by
    rw [givenBack_entry]
    split <;> rfl
  source r inside := by rw [marked r inside]; rfl
  isOpen q := congrFun (isOpen_of_sameSessions (givenBack_rest s o).1) q
  counts q := by rw [State.session, (givenBack_rest s o).1, ← State.session, holder_held, Nat.add_sub_cancel]
  force := (givenBack_rest s o).2.1
  running e running := by
    rw [State.engine, (givenBack_rest s o).2.2.1, ← State.engine] at running
    exact ⟨running, fun _ => Option.some_ne_none o.offerer⟩

theorem givenBack_ledger {o : Offer} (ho : o ∈ s.offers) (notX : ¬X o) (k : Ledger X s) :
    Ledger X (givenBack s o) := by
  obtain ⟨-, -, offererOpen, -⟩ := k.offers.parties o ho
  have move := givenBack_move (k.offers.marked o ho notX)
  obtain ⟨-, -, -, waitList, offers⟩ := givenBack_rest s o
  exact move.ledger k (by rw [waitList]) (fun q own => Option.some.inj own ▸ offererOpen)
    (move.offersWf_removed offers (fun _ _ => by simp) ho notX k.offers)

theorem returnOffer_ledger {o : Offer} (ho : o ∈ s.offers) (notX : ¬X o) (k : Ledger X s) : Ledger X (s.returnOffer o) := by
  have ready := FieldRun.sameLedger (catchUpAll_fieldRun (enginesOf o.set) (tickTimes_any s))
  rw [returnOffer_eq]
  exact givenBack_ledger (by rwa [ready.offers]) notX (ready.ledger k)

theorem endOffer_leasesWf {o : Offer} (outcome : OfferOutcome) (ps : PortSet) (ho : o ∈ s.offers) (k : LeasesWf s) :
    LeasesWf (s.endOffer o outcome ps) :=
  examine_leasesWf (append_ledger _ _ _ (returnOffer_ledger ho not_false ((leasesWf_iff s).1 k).1))

end Ledgers

end Sys2Proof.Proofs
end


section
/-! PROOFS. The end and the opening of a session keep the lease tables in agreement, and so does every step. -/

namespace Sys2Proof.Proofs

open Sys2Proof.Machine Sys2Proof.Safety Sys2Proof.Laws

section Ends

variable {s t : State}

/-! ### The end of a session (R35, R37) -/

/-- The engines that the end of a session reaches have taken their ticks, and those of its port are ended. -/
def endedRuns (s : State) (how : SessionEnd) (p : Port) : State :=
  match how with
  | .close => (enginesOf (s.heldSet p)).foldl (fun s e => State.stopEngine s .stopped e) (s.catchUpAll (s.reachedByEnd p))
  | .lapse => (enginesOf (s.heldSet p)).foldl State.silenceEngine (s.catchUpAll (s.reachedByEnd p))
  | .replace => (enginesOf (s.heldSet p)).foldl State.silenceEngine (s.catchUpAll (s.reachedByEnd p))

/-- The lease state of what the ended session held. -/
def leaseAfterEnd (how : SessionEnd) (p : Port) : LeaseState :=
  match how with
  | .close => .free
  | .lapse => .orphaned p
  | .replace => .orphaned p

theorem dropHoldings_eq (s : State) (how : SessionEnd) (p : Port) :
    s.dropHoldings how p =
      ((endedRuns s how p).letGo (s.heldSet p) (leaseAfterEnd how p)).withSession p fun x => { x with heldCount := 0 } := by
  cases how <;> rfl

theorem holder_leaseAfterEnd (how : SessionEnd) (p : Port) : (leaseAfterEnd how p).holder = none := by cases how <;> rfl

theorem endedRuns_fieldRun {ok : Count → Prop} (how : SessionEnd) (p : Port) (ticks : TickTimes ok s) :
    FieldRun ok s (endedRuns s how p) := by
  have ready := catchUpAll_fieldRun (s.reachedByEnd p) ticks
  cases how
  case close => exact ready.trans (stopAll_fieldRun .stopped _ (ready.tickTimes ticks))
  case lapse => exact ready.trans (silenceAll_fieldRun _)
  case replace => exact ready.trans (silenceAll_fieldRun _)

theorem endedRuns_idle (s : State) (how : SessionEnd) {p : Port} {e : EngineNo} (h : e ∈ enginesOf (s.heldSet p)) :
    ((endedRuns s how p).engine e).state = .idle := by
  cases how
  case close => exact stopAll_leaves_idle _ .stopped h
  case lapse => exact silenceAll_leaves_idle _ h
  case replace => exact silenceAll_leaves_idle _ h

/-- Nothing is held by the port. -/
def HoldsNothing (s : State) (p : Port) : Prop := ∀ r, s.holds p r = false

theorem SameLedger.holdsNothing (h : SameLedger s t) {p : Port} (k : HoldsNothing s p) : HoldsNothing t p := fun r => by
  rw [h.holds, k r]

/-- Resources that take a state without that holder do not come to be held by it. -/
theorem Move.holdsNothing {set : ResourceSet} {before : Option Port} {after : LeaseState} (h : Move s t set before after) {p : Port}
    (other : after.holder ≠ some p) (k : HoldsNothing s p) : HoldsNothing t p := fun r => by
  cases inside : inSet set r with
  | false => rw [h.holds_outside inside, k r]
  | true =>
    rw [Bool.eq_false_iff, ne_eq, holds_iff_holder, h.holder_inside inside]
    exact other

theorem setSize_heldSet (s : State) (p : Port) : setSize (s.heldSet p) = holdCount s p := by
  rw [setSize, members, funext (inSet_heldSet s p)]
  rfl

theorem holdCount_eq_zero {p : Port} (k : HoldsNothing s p) : holdCount s p = 0 := by
  rw [holdCount, List.length_eq_zero_iff, List.filter_eq_nil_iff]
  exact fun r _ => by rw [k r]; exact Bool.false_ne_true

theorem dropHoldings_move (how : SessionEnd) (p : Port) (k : CountsHeld s) :
    Move (endedRuns s how p) (s.dropHoldings how p) (s.heldSet p) (some p) (leaseAfterEnd how p) := by
  have ended := FieldRun.sameLedger (endedRuns_fieldRun how p (tickTimes_any s))
  rw [dropHoldings_eq]
  refine letGo_move (fun r inside => ?_) (holder_leaseAfterEnd how p) (fun e h => endedRuns_idle s how h) (fun _ => rfl) ?_
  · rw [ended.states, ← holds_iff_holder, ← inSet_heldSet, inside]
  · have count : ((endedRuns s how p).session p).heldCount = holdCount s p := (ended.counts p).trans (k p)
    rw [count, setSize_heldSet, Nat.sub_self]

theorem dropHoldings_ledger (how : SessionEnd) (p : Port) (k : LeasesWf s) :
    Ledger (fun o => o.offerer = p) (s.dropHoldings how p) ∧ HoldsNothing (s.dropHoldings how p) p := by
  have agree := ((leasesWf_iff s).1 k).1
  have ended := FieldRun.sameLedger (endedRuns_fieldRun how p (tickTimes_any s))
  have ledger := ended.ledger agree
  have move := dropHoldings_move how p agree.counts
  constructor
  · rw [dropHoldings_eq] at move ⊢
    refine letGo_ledger move (holder_leaseAfterEnd how p) (fun o ho other => ⟨not_false, fun r inside => ?_⟩) ledger
    have marked := agree.offers.marked o (ended.offers ▸ ho) not_false r inside
    rw [inSet_heldSet, Bool.eq_false_iff, ne_eq, holds_iff_holder, marked, holder_offered]
    exact fun same => other (Option.some.inj same)
  · intro r
    cases inside : inSet (s.heldSet p) r with
    | false =>
      rw [move.holds_outside inside, ended.holds, ← inSet_heldSet, inside]
    | true =>
      rw [Bool.eq_false_iff, ne_eq, holds_iff_holder, move.holder_inside inside, holder_leaseAfterEnd]
      exact (Option.some_ne_none p).symm

theorem inSet_zero (r : Resource) : inSet 0#36 r = false := by simp [inSet]

theorem setSize_zero : setSize 0#36 = 0 := by
  rw [setSize, members, List.length_eq_zero_iff, List.filter_eq_nil_iff]
  exact fun r _ => by rw [inSet_zero]; exact Bool.false_ne_true

/-- Nothing of the tables' is the port's, but perhaps offers. -/
theorem cancelOffer_ledger {p : Port} {o : Offer} (ho : o ∈ s.offers) (nothing : HoldsNothing s p)
    (k : Ledger (fun o => o.offerer = p) s) :
    Ledger (fun o => o.offerer = p) (s.cancelOffer p o) ∧ HoldsNothing (s.cancelOffer p o) p := by
  unfold State.cancelOffer
  split
  next own =>
    have move : Move s (s.removeOffer o.id) 0#36 none .free := {
      states := fun r => by rw [removeOffer_entry, inSet_zero, if_neg Bool.false_ne_true]
      source := fun r inside => by rw [inSet_zero] at inside; cases inside
      isOpen := fun q => congrFun (isOpen_of_sameSessions (removeOffer_sessions s o.id)) q
      counts := fun q => by
        rw [setSize_zero, State.session, removeOffer_sessions, ← State.session, ite_self, ite_self]
        rfl
      force := rfl
      running := fun e running => ⟨running, fun inside => by rw [inSet_zero] at inside; cases inside⟩ }
    refine ⟨append_ledger _ _ _ (move.ledger k (List.Sublist.refl _) (fun q h => by cases h) ?_),
      (append_sameLedger _ _ _ _).holdsNothing (move.holdsNothing (fun h => by cases h) nothing)⟩
    refine move.offersWf (keep := fun x => decide (x.id ≠ o.id)) rfl (fun _ _ => by simp)
      (fun x hx _ other => ⟨other, fun r _ => inSet_zero r⟩) (fun x hx dropped r offered => ?_) k.offers
    have same : x = o := k.offers.unique ho hx (by simpa using dropped)
    have held : s.holds p r = true := by rw [holds_iff_holder, offered, holder_offered, same, own]
    rw [nothing r] at held
    cases held
  next other =>
    have ready := FieldRun.sameLedger (catchUpAll_fieldRun (enginesOf o.set) (tickTimes_any s))
    have marked (r : Resource) (inside : inSet o.set r = true) :
        ((s.catchUpAll (enginesOf o.set)).entry r).state = .offered o.offerer o.id := by
      rw [ready.states]
      exact k.offers.marked o ho other r inside
    refine ⟨append_ledger _ _ _ (returnOffer_ledger ho other k), (append_sameLedger _ _ _ _).holdsNothing ?_⟩
    exact (givenBack_move marked).holdsNothing (fun same => other (Option.some.inj same)) (ready.holdsNothing nothing)

theorem cancelOffer_offers (s : State) (p : Port) (o : Offer) :
    (s.cancelOffer p o).offers = s.offers.filter fun x => decide (x.id ≠ o.id) := by
  have told (u : State) (ps : PortSet) : (u.appendSettled o .cancelled ps).offers = u.offers := by
    rw [State.appendSettled]
    exact (append_tables u ps _ _).2.1
  unfold State.cancelOffer
  split
  · rw [told]
    rfl
  · have ready := FieldRun.sameLedger (catchUpAll_fieldRun (enginesOf o.set) (tickTimes_any s))
    obtain ⟨-, -, -, -, offers⟩ := givenBack_rest (s.catchUpAll (enginesOf o.set)) o
    rw [told, returnOffer_eq, offers, ready.offers]

/-- The port is party to the offer. -/
def IsParty (p : Port) (o : Offer) : Prop := o.offerer = p ∨ o.target = p

theorem cancelAll_ledger {p : Port} {l : List Offer} (nodup : l.Nodup) (sub : ∀ o ∈ l, o ∈ s.offers)
    (all : ∀ o ∈ s.offers, IsParty p o → o ∈ l) (nothing : HoldsNothing s p) (k : Ledger (fun o => o.offerer = p) s) :
    Ledger (fun o => o.offerer = p) (l.foldl (State.cancelOffer p) s) ∧ HoldsNothing (l.foldl (State.cancelOffer p) s) p ∧
      ∀ o ∈ (l.foldl (State.cancelOffer p) s).offers, ¬IsParty p o := by
  induction l generalizing s with
  | nil => exact ⟨k, nothing, fun o ho party => List.not_mem_nil (all o ho party)⟩
  | cons x l ih =>
    have hx := sub x List.mem_cons_self
    obtain ⟨notIn, nodup⟩ := List.nodup_cons.1 nodup
    obtain ⟨ledger, nothing'⟩ := cancelOffer_ledger hx nothing k
    have mem (o : Offer) : o ∈ (s.cancelOffer p x).offers ↔ o ∈ s.offers ∧ o ≠ x := by
      rw [cancelOffer_offers, List.mem_filter, decide_eq_true_eq]
      exact and_congr_right fun ho => not_congr ⟨k.offers.unique hx ho, congrArg _⟩
    refine ih nodup (fun o ho => (mem o).2 ⟨sub o (List.mem_cons_of_mem x ho), fun same => notIn (same ▸ ho)⟩)
      (fun o ho party => ?_) nothing' ledger
    obtain ⟨ho, other⟩ := (mem o).1 ho
    exact (List.mem_cons.1 (all o ho party)).resolve_left other

/-- The offers of an ending session, those it made before those made to it. -/
def partyOffers (s : State) (p : Port) : List Offer :=
  (s.offers.filter fun o => decide (o.offerer = p)) ++ s.offers.filter fun o => decide (o.target = p ∧ o.offerer ≠ p)

theorem mem_partyOffers {p : Port} {o : Offer} : o ∈ partyOffers s p ↔ o ∈ s.offers ∧ IsParty p o := by
  simp only [partyOffers, List.mem_append, List.mem_filter, decide_eq_true_eq, IsParty]
  tauto

theorem partyOffers_nodup {X : Offer → Prop} (k : OffersWfBut X s) (p : Port) : (partyOffers s p).Nodup := by
  have nodup : s.offers.Nodup := List.Nodup.of_map _ (k.ascending.imp fun lt => BitVec.ne_of_lt lt)
  refine List.Nodup.append (nodup.filter _) (nodup.filter _) fun o made received => ?_
  have own := of_decide_eq_true (List.mem_filter.1 made).2
  exact (of_decide_eq_true (List.mem_filter.1 received).2).2 own

theorem cancelOffers_ledger {p : Port} (nothing : HoldsNothing s p) (k : Ledger (fun o => o.offerer = p) s) :
    Ledger (fun _ => False) (s.cancelOffers p) ∧ HoldsNothing (s.cancelOffers p) p ∧
      ∀ o ∈ (s.cancelOffers p).offers, ¬IsParty p o := by
  obtain ⟨ledger, nothing', none_left⟩ := cancelAll_ledger (partyOffers_nodup k.offers p)
    (fun o ho => (mem_partyOffers.1 ho).1) (fun o ho party => mem_partyOffers.2 ⟨ho, party⟩) nothing k
  refine ⟨{ ledger with offers := { ledger.offers with marked := fun o ho _ => ?_ } }, nothing', none_left⟩
  exact ledger.offers.marked o ho fun own => none_left o ho (.inl own)

/-- Nothing of the tables' is the port's. -/
structure Away (s : State) (p : Port) : Prop where
  holds : HoldsNothing s p
  offers : ∀ o ∈ s.offers, ¬IsParty p o
  waits : ∀ w ∈ s.waitList, w.port ≠ p

theorem SameLedger.away (h : SameLedger s t) {p : Port} (k : Away s p) : Away t p :=
  ⟨h.holdsNothing k.holds, h.offers ▸ k.offers, h.waitList ▸ k.waits⟩

theorem examine_away {p : Port} (k : Away s p) : Away s.examine p where
  holds r := by
    rw [Bool.eq_false_iff, ne_eq, holds_iff_holder]
    rcases examine_entry s r with kept | ⟨w, mem, -, -, -, granted⟩
    · rw [kept, ← holds_iff_holder, k.holds r]
      exact Bool.false_ne_true
    · rw [granted]
      exact fun same => k.waits w mem (Option.some.inj same)
  offers := (examine_grants s).offers.1 ▸ k.offers
  waits w hw := k.waits w ((examine_grants s).waiting.subset hw)

theorem removeClaims_ledger {X : Offer → Prop} (p : Port) (k : Ledger X s) : Ledger X (s.removeClaims p) where
  holders := k.holders
  counts := k.counts
  offers := { k.offers with }
  waits := k.waits.of_sublist List.filter_sublist fun _ => rfl
  engines := k.engines

theorem withJournal_sameLedger (s : State) (journal : List Record) : SameLedger s (s.withJournal journal) :=
  .of_fields rfl rfl rfl rfl rfl fun _ => id

theorem dropJournalInterest_sameLedger (s : State) (p : Port) : SameLedger s (s.dropJournalInterest p) :=
  (withJournal_sameLedger s _).trans (withOpen_sameLedger _ p _)

theorem reportLost_sameLedger (s : State) (how : SessionEnd) (p : Port) (lost : ResourceSet) :
    SameLedger s (s.reportLost how p lost) := by
  unfold State.reportLost
  split
  · exact .refl s
  all_goals
    split
    · exact .refl s
    · exact append_sameLedger _ _ _ _

/-- Steps 1 to 5 of a session's end (R35). -/
def endReported (s : State) (how : SessionEnd) (p : Port) : State :=
  ((((s.dropHoldings how p).cancelOffers p).removeClaims p).dropJournalInterest p).reportLost how p (s.heldSet p)

theorem endSession_eq (s : State) (how : SessionEnd) (p : Port) :
    s.endSession how p = (endReported s how p).examine.closeRecord how p := rfl

theorem endReported_ledger (how : SessionEnd) (p : Port) (k : LeasesWf s) :
    Ledger (fun _ => False) (endReported s how p) ∧ Away (endReported s how p) p := by
  obtain ⟨dropped, nothing⟩ := dropHoldings_ledger how p k
  obtain ⟨cancelled, nothing, none_left⟩ := cancelOffers_ledger nothing dropped
  have same := (dropJournalInterest_sameLedger (((s.dropHoldings how p).cancelOffers p).removeClaims p) p).trans
    (reportLost_sameLedger _ how p (s.heldSet p))
  refine ⟨same.ledger (removeClaims_ledger p cancelled), same.away ⟨nothing, none_left, fun w hw => ?_⟩⟩
  exact of_decide_eq_true (List.mem_filter.1 hw).2

theorem closeRecord_session (s : State) (how : SessionEnd) (p q : Port) :
    (s.closeRecord how p).session q =
      if q = p then { s.session p with state := endState how, previousEnd := endCause how } else s.session q := by
  rw [State.closeRecord, State.session, State.withAttn_sessions, ← State.session, State.session_withSession]

/-- A record that is closed is no party's of the tables. -/
theorem closeRecord_leasesWf (how : SessionEnd) {p : Port} (away : Away s p) (k : LeasesWf s) : LeasesWf (s.closeRecord how p) := by
  have closed := closeRecord_isOpen (s := s) how p
  have stays {q : Port} (other : q ≠ p) (isOpen : s.isOpen q = true) : (s.closeRecord how p).isOpen q = true := by
    rwa [closed, if_neg other]
  obtain ⟨⟨holders, counts, offers, waits, engines⟩, blocked⟩ := (leasesWf_iff s).1 k
  refine (leasesWf_iff _).2 ⟨⟨fun r q held => ?_, fun q => ?_, { offers with parties := fun o ho => ?_ },
    ⟨waits.distinct, fun w hw => ?_⟩, engines⟩, blocked⟩
  · refine stays (fun own => ?_) (holders r q held)
    have none_held := away.holds r
    rw [← own] at none_held
    exact Bool.false_ne_true (none_held.symm.trans held)
  · rw [closeRecord_session]
    split
    next own => exact own ▸ counts p
    next => exact counts q
  · obtain ⟨id, different, offerer, target, set⟩ := offers.parties o ho
    have notParty := not_or.1 (away.offers o ho)
    exact ⟨id, different, stays notParty.1 offerer, stays notParty.2 target, set⟩
  · obtain ⟨ticket, set, isOpen⟩ := waits.entries w hw
    exact ⟨ticket, set, stays (away.waits w hw) isOpen⟩

theorem endSession_leasesWf (how : SessionEnd) (p : Port) (k : LeasesWf s) : LeasesWf (s.endSession how p) := by
  obtain ⟨ledger, away⟩ := endReported_ledger how p k
  rw [endSession_eq]
  exact closeRecord_leasesWf how (examine_away away) (examine_leasesWf ledger)

/-! ### Openings, claims that wait, runs that begin (R33, R18, R102) -/

theorem openRecord_leasesWf {p : Port} (period threshold : Nat) (closed : s.isOpen p = false) (k : LeasesWf s) :
    LeasesWf (s.openRecord p period threshold) := by
  have opened := openRecord_isOpen (s := s) p
  have stays {q : Port} (isOpen : s.isOpen q = true) : (s.openRecord p period threshold).isOpen q = true := by
    rw [opened, isOpen, ite_self]
  obtain ⟨⟨holders, counts, offers, waits, engines⟩, blocked⟩ := (leasesWf_iff s).1 k
  have nothing : HoldsNothing s p := fun r => by
    by_contra held
    rw [holders r p (by simpa using held)] at closed
    cases closed
  refine (leasesWf_iff _).2 ⟨⟨fun r q held => stays (holders r q held), fun q => ?_,
    { offers with parties := fun o ho => ?_ }, ⟨waits.distinct, fun w hw => ?_⟩, engines⟩, blocked⟩
  · rw [session_openRecord]
    split
    next own =>
      subst own
      exact (holdCount_eq_zero nothing).symm
    next => exact counts q
  · obtain ⟨id, different, offerer, target, set⟩ := offers.parties o ho
    exact ⟨id, different, stays offerer, stays target, set⟩
  · obtain ⟨ticket, set, isOpen⟩ := waits.entries w hw
    exact ⟨ticket, set, stays isOpen⟩

theorem queuedClaim_eq_none {p : Port} (h : s.queuedClaim p = none) : ∀ w ∈ s.waitList, w.port ≠ p := fun w hw own => by
  have := List.find?_eq_none.1 h w hw
  simp [own] at this

theorem enqueued_leasesWf {w : WaitEntry} (isOpen : s.isOpen w.port = true) (ticket : w.ticket = s.nextTicket)
    (some_set : w.set ≠ 0) (first : s.queuedClaim w.port = none)
    (blocked : ∃ r, inSet w.set r = true ∧ s.available w.port w.adopt r = false) (k : LeasesWf s) : LeasesWf (enqueued s w) := by
  have allocated := allocated_nextTicket k.2.2.2.1
  rw [← ticket] at allocated
  obtain ⟨⟨holders, counts, offers, waits, engines⟩, passed⟩ := (leasesWf_iff s).1 k
  refine (leasesWf_iff _).2 ⟨⟨holders, counts, { offers with }, ⟨⟨?_, ?_⟩, fun x hx => ?_⟩, engines⟩, fun x hx => ?_⟩
  · rw [enqueued, List.map_append]
    refine List.Nodup.append waits.distinct.1 (List.nodup_singleton _) fun q inside own => ?_
    obtain ⟨x, hx, rfl⟩ := List.mem_map.1 inside
    exact queuedClaim_eq_none first x hx (List.mem_singleton.1 own)
  · rw [enqueued, List.map_append]
    refine List.Nodup.append waits.distinct.2 (List.nodup_singleton _) fun q inside own => ?_
    exact allocated_not_mem allocated (List.mem_singleton.1 own ▸ inside)
  · rcases List.mem_append.1 hx with old | new
    · exact waits.entries x old
    · rw [List.mem_singleton.1 new]
      exact ⟨allocated_ne_zero allocated, some_set, isOpen⟩
  · rcases List.mem_append.1 hx with old | new
    · exact passed x old
    · rw [List.mem_singleton.1 new]
      obtain ⟨r, inside, unavailable⟩ := blocked
      refine ⟨r, inside, fun available => ?_⟩
      rw [(available_iff (s := s)).2 available] at unavailable
      cases unavailable

theorem removeTicket_leasesWf (ticket : Byte) (k : LeasesWf s) : LeasesWf (s.removeTicket ticket) := by
  obtain ⟨ledger, blocked⟩ := (leasesWf_iff s).1 k
  exact (leasesWf_iff _).2 ⟨removeTicket_ledger ticket ledger, removeTicket_blocked ticket blocked⟩

/-- Engines and nFSAFE are read together. -/
theorem leasesWf_of_engines (leases : t.leases = s.leases) (sessions : t.sessions = s.sessions) (offers : t.offers = s.offers)
    (waitList : t.waitList = s.waitList) (engines : EnginesHeld t) (k : LeasesWf s) : LeasesWf t := by
  have same : SameLedger s { t with engines := s.engines, force := s.force } :=
    .of_fields leases sessions offers waitList rfl fun _ => id
  obtain ⟨holders, counts, offers, waits, -⟩ := same.leasesWf k
  exact ⟨holders, counts, offers, waits, engines⟩

theorem startRun_tables (s : State) (e : EngineNo) (c : EngineConfig) :
    (s.startRun e c).leases = s.leases ∧ (s.startRun e c).sessions = s.sessions ∧ (s.startRun e c).offers = s.offers ∧
      (s.startRun e c).waitList = s.waitList ∧ (s.startRun e c).force = s.force := by
  simp [State.startRun, State.setEngineState]

theorem startRun_others {e k : EngineNo} (c : EngineConfig) (other : k ≠ e) : (s.startRun e c).engine k = s.engine k := by
  obtain ⟨⟨-, others⟩, -⟩ := setEngineState_happening (s.withEngine e zeroCounters) e (s.startState c)
  rw [State.startRun, others k other, State.engine_withEngine, if_neg other]

/-- A held engine may run while nFSAFE is released. -/
theorem startRun_leasesWf {e : EngineNo} (c : EngineConfig) (released : s.force.asserted = false)
    (held : controlled (s.entry (engineResource e)).state = true) (k : LeasesWf s) : LeasesWf (s.startRun e c) := by
  obtain ⟨leases, sessions, offers, waitList, force⟩ := startRun_tables s e c
  refine leasesWf_of_engines leases sessions offers waitList (fun i running => ?_) k
  rw [force, State.entry, leases, ← State.entry]
  by_cases own : i = e
  · exact own ▸ ⟨released, held⟩
  · rw [startRun_others c own] at running
    obtain ⟨-, -, -, -, engines⟩ := k
    exact engines i running

/-- A grant that gives nothing changes no lease. -/
theorem grant_sameLedger {p : Port} {set : ResourceSet} (nothingNew : s.newlyGranted p set = 0) :
    SameLedger s (s.grant p set) where
  states r := by rw [grant_entry, (eq_zero_iff_inSet _).1 nothingNew r, if_neg Bool.false_ne_true]
  isOpen q := congrFun (isOpen_grant s p set) q
  counts q := by
    obtain ⟨-, -, -, own, others⟩ := grant_rest s p set
    by_cases h : q = p
    · rw [h, own]
      exact (congrArg _ ((congrArg setSize nothingNew).trans setSize_zero)).trans (Nat.add_zero _)
    · rw [others q h]
  offers := (grant_rest s p set).1
  waitList := (grant_rest s p set).2.1
  force := by rw [(grant_outside s p set).force]; exact .inl
  running e := by rw [grant_eq_redrive, state_redrive, seededGrant_engine]; exact id

end Ends

end Sys2Proof.Proofs
end


section
/-! PROOFS. Every step keeps the lease tables in agreement. -/

namespace Sys2Proof.Proofs

open Sys2Proof.Machine Sys2Proof.Safety Sys2Proof.Laws

section Steps

variable {s t : State}

theorem thresholdSet_sameLedger (s : State) (p : Port) (n : Nat) : SameLedger s (thresholdSet s p n) :=
  (withOpen_sameLedger s p _).trans (reattend_sameLedger _ _)

theorem cellsReplaced_sameLedger (s : State) (set : ResourceSet) (cell : Line → LineCell → LineCell) :
    SameLedger s (cellsReplaced s set cell) := (withLines_sameLedger s cell).trans (redrive_sameLedger _ set)

/-- A new state for an engine that runs. -/
theorem setEngineState_sameLedger {e : EngineNo} (st : EngineState) (running : (s.engine e).state ≠ .idle) :
    SameLedger s (s.setEngineState e st) :=
  FieldRun.sameLedger (ok := fun _ => True) (setEngineState_fieldRun st running)

theorem controlled_of_holds {p : Port} {r : Resource} (h : s.holds p r = true) : controlled (s.entry r).state = true := by
  rw [controlled, holds_iff_holder.1 h]
  rfl

theorem BodyLeaves.leasesWf {p : Port} {rq : Request} (h : BodyLeaves p s rq t)
    (isOpen : hasSessionCheck rq = true → s.isOpen p = true) (k : LeasesWf s) : LeasesWf t := by
  have caught (e : EngineNo) : SameLedger s (s.catchUp e) := FieldRun.sameLedger (catchUp_fieldRun e (tickTimes_any s))
  cases h with
  | nothing => exact k
  | ports _ only => exact (portsOnly_sameLedger only).leasesWf k
  | opened o closed => exact openRecord_leasesWf o.period o.threshold closed k
  | replaced o =>
    exact openRecord_leasesWf o.period o.threshold (endSession_closed s .replace p) (endSession_leasesWf .replace p k)
  | closed => exact endSession_leasesWf .close p k
  | claimed set nothingNew => exact (grant_sameLedger nothingNew).leasesWf k
  | granted set adopt available =>
    exact examine_leasesWf
      (grant_ledger (isOpen rfl) (fun r inside => available_iff.1 (available r inside)) ((leasesWf_iff s).1 k).1)
  | queued w own ticket some_set first blocked =>
    subst own
    exact enqueued_leasesWf (isOpen rfl) ticket some_set first blocked k
  | cancelled w ticket => exact removeTicket_leasesWf ticket k
  | released set held => exact releaseSet_leasesWf held k
  | failsafes set pl => exact (setFailsafes_sameLedger s set pl).leasesWf k
  | offered o some_set other targetOpen held room =>
    exact makeOffer_leasesWf some_set other (isOpen rfl) targetOpen held room k
  | accepted o found => exact acceptOffer_leasesWf (offer_mem found) k
  | returned _ o found out ps => exact endOffer_leasesWf out ps (offer_mem found) k
  | directed set pl => exact (cellsReplaced_sameLedger s set _).leasesWf k
  | written mask values => exact (cellsReplaced_sameLedger s _ _).leasesWf k
  | caughtUp _ e => exact (caught e).leasesWf k
  | configured e c => exact ((caught e).trans (withEngine_sameLedger _ e (fun g => { g with config := some c }) fun _ => rfl)).leasesWf k
  | begun e c held released =>
    refine startRun_leasesWf c ?_ ?_ ((caught e).leasesWf k)
    · rw [(catchUp_outside s e).force, released]
    · rw [(caught e).states]
      exact controlled_of_holds held
  | fired e st running => exact ((caught e).trans (setEngineState_sameLedger st running)).leasesWf k
  | stopped e =>
    exact ((caught e).trans (FieldRun.sameLedger (ok := fun _ => True) (stopEngine_fieldRun .stopped e trivial))).leasesWf k
  | subscribed rise fall => exact (withOpen_sameLedger s p _).leasesWf k
  | acknowledged o n m fields =>
    exact ((acknowledge_sameLedger n fields).trans (deliver_sameLedger _ p m)).leasesWf k
  | delivered m => exact (deliver_sameLedger s p m).leasesWf k
  | threshold n => exact (thresholdSet_sameLedger s p n).leasesWf k
  | profile x => exact (changeProfile_sameLedger s p x).leasesWf k

theorem served_sameLedger (s : State) (p : Port) : SameLedger s (s.served p) := .of_fields rfl rfl rfl rfl rfl fun _ => id

theorem bodyState_sameLedger (s : State) (p : Port) (rq : Request) : SameLedger s (bodyState s p rq) := by
  unfold bodyState
  split
  · exact (served_sameLedger s p).trans (withOpen_sameLedger _ p _)
  · exact served_sameLedger s p

theorem later_sameLedger (s : State) (n : Count) : SameLedger s { s with timeCount := n } :=
  .of_fields rfl rfl rfl rfl rfl fun _ => id

theorem expireClaim_leasesWf (w : WaitEntry) (k : LeasesWf s) : LeasesWf (s.expireClaim w) :=
  (append_sameLedger _ _ _ _).leasesWf (removeTicket_leasesWf w.ticket k)

theorem Happens.leasesWf {c : Instr} (h : Happens s c t) (k : LeasesWf s) : LeasesWf t := by
  have answered (u : State) (p : Port) (tag : Byte) (rep : Reply) : SameLedger u (u.answer p tag rep) :=
    portsOnly_sameLedger (answer_portsOnly u p tag rep)
  cases h with
  | nothing => exact k
  | refused p rq tag rep => exact ((served_sameLedger s p).trans (answered _ p tag rep)).leasesWf k
  | request p rq t isOpen body tag rep =>
    have before := bodyState_sameLedger s p rq
    refine (answered t p tag rep).leasesWf (body.leasesWf (fun check => ?_) (before.leasesWf k))
    rw [before.isOpen]
    exact isOpen check
  | unknown p tag rep => exact ((served_sameLedger s p).trans (answered _ p tag rep)).leasesWf k
  | lapse p => exact endSession_leasesWf .lapse p k
  | offerExpiry o found ps => exact endOffer_leasesWf .expired ps (offer_mem found) k
  | claimExpiry w => exact expireClaim_leasesWf w k
  | tick =>
    have settled := FieldRun.sameLedger (settleAll_fieldRun (List.finRange 4) (tickTimes_any s))
    exact (settled.trans (later_sameLedger _ _)).leasesWf k
  | field run => exact (FieldRun.sameLedger (run _ (tickTimes_any s))).leasesWf k
  | asserted => exact (assertForce_sameLedger s).leasesWf k
  | released => exact (releaseForce_sameLedger s).leasesWf k
  | counted _ n => exact (withForce_sameLedger s _ id).leasesWf k
  | ports only => exact (portsOnly_sameLedger only).leasesWf k

/-! ### Time that passes, and resets (R4, R28, R47, R64, R171) -/

theorem countKeepalive_heldCount (x : Session) : (countKeepalive x).heldCount = x.heldCount := by
  unfold countKeepalive
  split <;> rfl

theorem millisecond_session (s : State) (p : Port) : s.millisecond.session p = countKeepalive (s.session p) :=
  PerPort.get_of _ p

theorem millisecond_isOpen (s : State) (p : Port) : s.millisecond.isOpen p = s.isOpen p := by
  rw [State.isOpen, State.openFields, millisecond_session, State.isOpen, State.openFields]
  unfold countKeepalive
  cases state : (s.session p).state <;> simp only [state] <;> rfl

/-- The windows and waits run down; nothing else of the tables moves. -/
theorem millisecond_leasesWf (k : LeasesWf s) : LeasesWf s.millisecond := by
  obtain ⟨⟨holders, counts, offers, waits, engines⟩, blocked⟩ := (leasesWf_iff s).1 k
  refine (leasesWf_iff _).2 ⟨⟨fun r q held => ?_, fun q => ?_, ⟨?_, ?_, fun o ho => ?_, fun o ho _ => ?_, fun r q id offered => ?_⟩,
    ⟨⟨?_, ?_⟩, fun w hw => ?_⟩, engines⟩, fun w hw => ?_⟩
  · rw [millisecond_isOpen]
    exact holders r q held
  · rw [millisecond_session, countKeepalive_heldCount]
    exact counts q
  · rw [State.millisecond, List.length_map]
    exact offers.few
  · rw [State.millisecond, List.map_map]
    exact offers.ascending
  · obtain ⟨o', ho', rfl⟩ := List.mem_map.1 ho
    rw [millisecond_isOpen, millisecond_isOpen]
    exact offers.parties o' ho'
  · obtain ⟨o', ho', rfl⟩ := List.mem_map.1 ho
    exact offers.marked o' ho' not_false
  · obtain ⟨o, ho, named⟩ := offers.listed r q id offered
    exact ⟨_, List.mem_map_of_mem ho, named⟩
  · rw [State.millisecond, List.map_map]
    exact waits.distinct.1
  · rw [State.millisecond, List.map_map]
    exact waits.distinct.2
  · obtain ⟨w', hw', rfl⟩ := List.mem_map.1 hw
    rw [millisecond_isOpen]
    exact waits.entries w' hw'
  · obtain ⟨w', hw', rfl⟩ := List.mem_map.1 hw
    exact blocked w' hw'

theorem queue_sameLedger (s : State) (rest : List Instr) (n : Nat) : SameLedger s { s with pending := rest, freeCount := n } :=
  .of_fields rfl rfl rfl rfl rfl fun _ => id

theorem freeCount_sameLedger (s : State) (n : Nat) : SameLedger s { s with freeCount := n } :=
  .of_fields rfl rfl rfl rfl rfl fun _ => id

theorem beginReset_state (s : State) (cause : ResetCause) (e : EngineNo) :
    ((s.beginReset cause).engine e).state = (s.engine e).state := by
  simp [State.beginReset, State.engine, State.withEngines]

theorem beginReset_sameLedger (s : State) (cause : ResetCause) : SameLedger s (s.beginReset cause) :=
  .of_fields (by simp [State.beginReset]) (beginReset_sessions s cause) (by simp [State.beginReset])
    (by simp [State.beginReset]) (by simp [State.beginReset]) fun e => by rw [beginReset_state]; exact id

theorem afterReset_entry (cause : ResetCause) (pins : ResetPins) (n : Nat) (rest : List Instr) (r : Resource) :
    (State.afterReset cause pins n rest).entry r = LeaseEntry.reset r := by simp [State.afterReset, State.entry]

theorem afterReset_engine (cause : ResetCause) (pins : ResetPins) (n : Nat) (rest : List Instr) (e : EngineNo) :
    (State.afterReset cause pins n rest).engine e = Engine.reset := by simp [State.afterReset, State.engine]

theorem afterReset_session (cause : ResetCause) (pins : ResetPins) (n : Nat) (rest : List Instr) (p : Port) :
    (State.afterReset cause pins n rest).session p = Session.reset := by cases p <;> rfl

/-- After reset every resource is FREE, and the tables are empty. -/
theorem afterReset_leasesWf (cause : ResetCause) (pins : ResetPins) (n : Nat) (rest : List Instr) :
    LeasesWf (State.afterReset cause pins n rest) := by
  have free (r : Resource) (q : Port) : (State.afterReset cause pins n rest).holds q r = false := by
    rw [State.holds, State.holderOf, afterReset_entry]
    rfl
  refine ⟨fun r q held => ?_, fun q => ?_, ⟨Nat.zero_le _, List.Pairwise.nil, nofun, fun r q id offered => ?_⟩,
    ⟨List.nodup_nil, List.nodup_nil, nofun, nofun⟩, fun e running => ?_⟩
  · rw [free] at held
    cases held
  · rw [afterReset_session]
    exact (holdCount_eq_zero fun r => free r q).symm
  · rw [afterReset_entry] at offered
    cases offered
  · rw [afterReset_engine] at running
    exact absurd rfl running

theorem Steps.leasesWf (h : Steps s t) (k : LeasesWf s) : LeasesWf t := by
  cases h with
  | happening c rest t does => exact does.leasesWf ((queue_sameLedger s rest s.freeCount).leasesWf k)
  | waits => exact k
  | takes c => exact (queue_sameLedger s [c] s.freeCount).leasesWf k
  | millisecond => exact (queue_sameLedger s.millisecond _ s.freeCount).leasesWf (millisecond_leasesWf k)
  | counted rest n => exact (queue_sameLedger s rest n).leasesWf k
  | resetBegins cause rest =>
    exact ((queue_sameLedger s rest s.freeCount).trans (beginReset_sameLedger _ cause)).leasesWf k
  | resetByChance rest n =>
    have begins := (queue_sameLedger s rest s.freeCount).trans (beginReset_sameLedger _ .pin)
    exact (begins.trans (freeCount_sameLedger _ n)).leasesWf k
  | resetEnds cause pins rest => exact afterReset_leasesWf cause pins s.freeCount rest

end Steps

/-- Settles O58. -/
theorem leasesKept : Obligations.LeasesKept := fun _ _ k h => (steps_of_step h).leasesWf k

end Sys2Proof.Proofs
end


section
/-! PROOFS. Every step keeps every pin at the drive that its lease, cell, profile and engine call for (R83, R114). -/

namespace Sys2Proof.Proofs

open Sys2Proof.Machine Sys2Proof.Safety Sys2Proof.Laws

/-- Every pin has the drive that is called for (R83, R114). -/
structure PinsRight (s : State) : Prop where
  lines : ∀ l, (s.line l).drive = s.effectiveDrive l
  engines : ∀ e, (s.engine e).out = s.engineDrive e

/-- The drive of a line is as it was, and the same drive is called for. -/
def SameLinePin (s t : State) (l : Line) : Prop :=
  (t.line l).drive = (s.line l).drive ∧ t.effectiveDrive l = s.effectiveDrive l

/-- The level of an engine's pin is as it was, and the same level is called for. -/
def SameEnginePin (s t : State) (e : EngineNo) : Prop :=
  (t.engine e).out = (s.engine e).out ∧ t.engineDrive e = s.engineDrive e

/-- The pins are as they were, and so is what is called for. -/
def SamePins (s t : State) : Prop := (∀ l, SameLinePin s t l) ∧ ∀ e, SameEnginePin s t e

section Pins

variable {s t u : State}

theorem pinsExact_of_awake (awake : s.inReset = none) : PinsExact s ↔ PinsRight s := by
  constructor
  · rintro ⟨lines, engines⟩
    refine ⟨fun l => (lines l).trans ?_, fun e => (engines e).trans ?_⟩ <;> rw [awake] <;> rfl
  · rintro ⟨lines, engines⟩
    refine ⟨fun l => (lines l).trans ?_, fun e => (engines e).trans ?_⟩ <;> rw [awake] <;> rfl

theorem SamePins.right (h : SamePins s t) (k : PinsRight s) : PinsRight t where
  lines l := by rw [(h.1 l).1, (h.1 l).2, k.lines]
  engines e := by rw [(h.2 e).1, (h.2 e).2, k.engines]

theorem SamePins.refl (s : State) : SamePins s s := ⟨fun _ => ⟨rfl, rfl⟩, fun _ => ⟨rfl, rfl⟩⟩

theorem SamePins.trans (h : SamePins s t) (k : SamePins t u) : SamePins s u :=
  ⟨fun l => ⟨(k.1 l).1.trans (h.1 l).1, (k.1 l).2.trans (h.1 l).2⟩,
    fun e => ⟨(k.2 e).1.trans (h.2 e).1, (k.2 e).2.trans (h.2 e).2⟩⟩

/-- A line pin keeps its call when its cell, its lease, the profile and the force input do. -/
theorem sameLinePin_of {l : Line} (drive : (t.line l).drive = (s.line l).drive)
    (direction : (t.line l).direction = (s.line l).direction) (commanded : (t.line l).commanded = (s.line l).commanded)
    (control : controlled (t.entry (lineResource l)).state = controlled (s.entry (lineResource l)).state)
    (failsafe : (t.entry (lineResource l)).failsafe = (s.entry (lineResource l)).failsafe) (force : t.force = s.force)
    (profile : t.profile = s.profile) : SameLinePin s t l :=
  ⟨drive, by simp only [State.effectiveDrive, direction, commanded, control, failsafe, force, profile]⟩

theorem sameEnginePin_of {e : EngineNo} (out : (t.engine e).out = (s.engine e).out)
    (state : (t.engine e).state = (s.engine e).state)
    (control : controlled (t.entry (engineResource e)).state = controlled (s.entry (engineResource e)).state)
    (failsafe : (t.entry (engineResource e)).failsafe = (s.entry (engineResource e)).failsafe) (force : t.force = s.force) :
    SameEnginePin s t e :=
  ⟨out, by simp only [State.engineDrive, state, control, failsafe, force]⟩

/-- Lease states alone moved, and no resource came under or left a holder's control. -/
theorem samePins_of_leases (field : SameField s t) (outside : SameOutside s t)
    (control : ∀ r, controlled (t.entry r).state = controlled (s.entry r).state)
    (failsafe : ∀ r, (t.entry r).failsafe = (s.entry r).failsafe) : SamePins s t := by
  obtain ⟨lines, engines⟩ := field
  have line (l : Line) : t.line l = s.line l := by rw [State.line, lines, State.line]
  have engine (e : EngineNo) : t.engine e = s.engine e := by rw [State.engine, engines, State.engine]
  exact ⟨fun l => sameLinePin_of (by rw [line]) (by rw [line]) (by rw [line]) (control _) (failsafe _) outside.force
    outside.profile, fun e => sameEnginePin_of (by rw [engine]) (by rw [engine]) (control _) (failsafe _) outside.force⟩

/-- Neither leases nor the field moved. -/
theorem samePins_of_tables (leases : t.leases = s.leases) (field : SameField s t) (force : t.force = s.force)
    (profile : t.profile = s.profile) : SamePins s t := by
  obtain ⟨lines, engines⟩ := field
  have entry (r : Resource) : t.entry r = s.entry r := by rw [State.entry, leases, State.entry]
  have line (l : Line) : t.line l = s.line l := by rw [State.line, lines, State.line]
  have engine (e : EngineNo) : t.engine e = s.engine e := by rw [State.engine, engines, State.engine]
  exact ⟨fun l => sameLinePin_of (by rw [line]) (by rw [line]) (by rw [line]) (by rw [entry]) (by rw [entry]) force profile,
    fun e => sameEnginePin_of (by rw [engine]) (by rw [engine]) (by rw [entry]) (by rw [entry]) force⟩

theorem removeOffer_samePins (s : State) (id : Byte) : SamePins s (s.removeOffer id) :=
  samePins_of_tables rfl ⟨rfl, rfl⟩ rfl rfl

theorem removeTicket_samePins (s : State) (ticket : Byte) : SamePins s (s.removeTicket ticket) :=
  samePins_of_tables rfl ⟨rfl, rfl⟩ rfl rfl

theorem enqueued_samePins (s : State) (w : WaitEntry) : SamePins s (enqueued s w) :=
  samePins_of_tables rfl ⟨rfl, rfl⟩ rfl rfl

/-! ### Drives decided again -/

theorem decidedAgain_drive (t : State) (l : Line) (c : LineCell) : (decidedAgain t l c).drive = t.effectiveDrive l := by
  unfold decidedAgain
  split
  next same => exact same.symm
  next => rfl

/-- The pins of a set are right once they are decided again; the others must have been. -/
theorem redrive_right {set : ResourceSet}
    (lines : ∀ l, inSet set (lineResource l) = false → (s.line l).drive = s.effectiveDrive l)
    (engines : ∀ e, inSet set (engineResource e) = false → (s.engine e).out = s.engineDrive e) : PinsRight (s.redrive set) where
  lines l := by
    rw [line_redrive_decidedAgain]
    cases inside : inSet set (lineResource l) with
    | true => exact decidedAgain_drive _ l _
    | false => rw [if_neg Bool.false_ne_true, effectiveDrive_redrive, lines l inside]
  engines e := by
    rw [engine_redrive_engineDrive]
    cases inside : inSet set (engineResource e) with
    | true => rfl
    | false => rw [if_neg Bool.false_ne_true, engineDrive_redrive, engines e inside]

/-- Pins that moved only inside a set are right once the set is decided again. -/
theorem redrive_right_of_same {set : ResourceSet} (lines : ∀ l, inSet set (lineResource l) = false → SameLinePin s t l)
    (engines : ∀ e, inSet set (engineResource e) = false → SameEnginePin s t e) (k : PinsRight s) :
    PinsRight (t.redrive set) :=
  redrive_right (fun l outside => by rw [(lines l outside).1, (lines l outside).2, k.lines])
    fun e outside => by rw [(engines e outside).1, (engines e outside).2, k.engines]

theorem redrive_everyResource_right (s : State) : PinsRight (s.redrive everyResource) :=
  redrive_right (fun l outside => by rw [inSet_everyResource] at outside; cases outside)
    fun e outside => by rw [inSet_everyResource] at outside; cases outside

theorem cells_samePins (f : Line → LineCell → LineCell)
    (pins : ∀ l c, (f l c).drive = c.drive ∧ (f l c).direction = c.direction ∧ (f l c).commanded = c.commanded) :
    SamePins s (s.withLines f) := by
  refine ⟨fun l => ?_, fun e => ?_⟩
  · obtain ⟨drive, direction, commanded⟩ := pins l (s.line l)
    exact sameLinePin_of (by rw [State.line_withLines, drive]) (by rw [State.line_withLines, direction])
      (by rw [State.line_withLines, commanded]) (by rw [State.entry_withLines]) (by rw [State.entry_withLines]) (by simp)
      (by simp)
  · exact sameEnginePin_of (by rw [State.engine_withLines]) (by rw [State.engine_withLines]) (by rw [State.entry_withLines])
      (by rw [State.entry_withLines]) (by simp)

theorem withEngine_samePins (e : EngineNo) (f : Engine → Engine) (same : ∀ g, (f g).state = g.state ∧ (f g).out = g.out) :
    SamePins s (s.withEngine e f) := by
  refine ⟨fun l => sameLinePin_of (by simp) (by simp) (by simp) (by simp) (by simp) (by simp) (by simp), fun k => ?_⟩
  have engine : ((s.withEngine e f).engine k).out = (s.engine k).out ∧ ((s.withEngine e f).engine k).state = (s.engine k).state := by
    rw [State.engine_withEngine]
    split
    next own => exact ⟨by rw [(same _).2, own], by rw [(same _).1, own]⟩
    next => exact ⟨rfl, rfl⟩
  exact sameEnginePin_of engine.1 engine.2 (by simp) (by simp) (by simp)

/-- A new state of an engine brings its pin along (R114). -/
theorem setEngineState_right (e : EngineNo) (st : EngineState) (k : PinsRight s) : PinsRight (s.setEngineState e st) := by
  refine redrive_right_of_same (fun l _ => ?_) (fun i outside => ?_) k
  · exact sameLinePin_of (by simp) (by simp) (by simp) (by simp) (by simp) (by simp) (by simp)
  · have other : i ≠ e := by
      rintro rfl
      rw [(inSet_engineSet i).2] at outside
      simp at outside
    have engine : (s.withEngine e fun g => { g with state := st }).engine i = s.engine i := by
      rw [State.engine_withEngine, if_neg other]
    exact sameEnginePin_of (by rw [engine]) (by rw [engine]) (by simp) (by simp) (by simp)

theorem append_samePins (s : State) (ps : PortSet) (time : Count) (body : RecordBody) : SamePins s (s.append ps time body) :=
  ⟨fun l => ⟨by rw [append_line], effectiveDrive_append s ps time body l⟩,
    fun e => ⟨by rw [append_engine], engineDrive_append s ps time body e⟩⟩

theorem FieldStep.right {ok : Count → Prop} (h : FieldStep ok s t) (k : PinsRight s) : PinsRight t := by
  cases h with
  | record ps time body => exact (append_samePins s ps time body).right k
  | cells f pins => exact (cells_samePins f pins).right k
  | counters e f same => exact (withEngine_samePins e f fun g => ⟨(same g).1, (same g).2.2⟩).right k
  | run e st => exact setEngineState_right e st k

theorem FieldRun.right {ok : Count → Prop} (h : FieldRun ok s t) (k : PinsRight s) : PinsRight t := by
  induction h with
  | refl => exact k
  | tail _ step ih => exact step.right ih

/-! ### Leases -/

/-- Grants decide the drives of what they give again. -/
theorem right_of_grants (field : OnlyGrantsInField s t)
    (same : ∀ r, (t.entry r).generation = (s.entry r).generation → t.entry r = s.entry r) (force : t.force = s.force)
    (profile : t.profile = s.profile) (k : PinsRight s) : PinsRight t where
  lines l := by
    have cell := field.1 l
    split at cell
    next kept =>
      have pin : SameLinePin s t l := sameLinePin_of (by rw [cell]) (by rw [cell]) (by rw [cell]) (by rw [same _ kept])
        (by rw [same _ kept]) force profile
      rw [pin.1, pin.2, k.lines]
    next => rw [cell, decidedAgain_drive]
  engines e := by
    have engine := field.2 e
    split at engine
    next kept =>
      have pin : SameEnginePin s t e := sameEnginePin_of (by rw [engine]) (by rw [engine]) (by rw [same _ kept])
        (by rw [same _ kept]) force
      rw [pin.1, pin.2, k.engines]
    next => rw [engine]

theorem grant_right (p : Port) (set : ResourceSet) (k : PinsRight s) : PinsRight (s.grant p set) := by
  have outside := grant_outside s p set
  refine right_of_grants (grant_field s p set) (fun r same => ?_) outside.force outside.profile k
  rw [grant_entry, (grant_generation_iff s p set r).1 same, if_neg Bool.false_ne_true]

theorem GrantsOnly.right (h : GrantsOnly s t) (k : PinsRight s) : PinsRight t :=
  right_of_grants h.field (fun r => (h.generation_iff r).1) h.outside.force h.outside.profile k

theorem examine_right (k : PinsRight s) : PinsRight s.examine := (examine_grants s).right k

theorem withSession_samePins (s : State) (p : Port) (f : Session → Session) : SamePins s (s.withSession p f) :=
  samePins_of_tables rfl ⟨rfl, rfl⟩ rfl rfl

theorem entries_samePins_outside {set : ResourceSet} {f : LeaseEntry → LeaseEntry} :
    (∀ l, inSet set (lineResource l) = false → SameLinePin s (s.withEntries set f) l) ∧
      ∀ e, inSet set (engineResource e) = false → SameEnginePin s (s.withEntries set f) e := by
  have entry (r : Resource) (outside : inSet set r = false) : (s.withEntries set f).entry r = s.entry r := by
    rw [State.entry_withEntries, outside, if_neg Bool.false_ne_true]
  exact ⟨fun l outside => sameLinePin_of (by simp) (by simp) (by simp) (by rw [entry _ outside]) (by rw [entry _ outside])
      (by simp) (by simp),
    fun e outside => sameEnginePin_of (by simp) (by simp) (by rw [entry _ outside]) (by rw [entry _ outside]) (by simp)⟩

theorem letGo_right (set : ResourceSet) (after : LeaseState) (k : PinsRight s) : PinsRight (s.letGo set after) :=
  redrive_right_of_same entries_samePins_outside.1 entries_samePins_outside.2 k

theorem releaseSet_right (p : Port) (set : ResourceSet) (k : PinsRight s) : PinsRight (s.releaseSet p set) := by
  rw [releaseSet_eq]
  exact examine_right ((withSession_samePins _ p _).right
    (letGo_right set .free (FieldRun.right (stoppedFor_fieldRun set (tickTimes_any s)) k)))

/-- A move between holders leaves every pin under control as it was. -/
theorem offerEntered_samePins {p : Port} {o : OfferOperands} (id : Byte)
    (held : ∀ r, inSet o.set r = true → (s.entry r).state = .held p) : SamePins s (offerEntered s p o id) := by
  refine samePins_of_leases ⟨by simp [offerEntered], by simp [offerEntered]⟩ ?_ (fun r => ?_) fun r => ?_
  · simp [offerEntered, SameOutside, SameRest, SameControl, SamePorts]
  · rw [offerEntered_entry]
    split
    next inside => rw [held r inside]; rfl
    next => rfl
  · rw [offerEntered_entry]
    split <;> rfl

theorem givenBack_samePins {o : Offer} (marked : ∀ r, inSet o.set r = true → (s.entry r).state = .offered o.offerer o.id) :
    SamePins s (givenBack s o) := by
  refine samePins_of_leases ⟨by simp [givenBack, State.removeOffer], by simp [givenBack, State.removeOffer]⟩ ?_
    (fun r => ?_) fun r => ?_
  · simp [givenBack, State.removeOffer, SameOutside, SameRest, SameControl, SamePorts]
  · rw [givenBack_entry]
    split
    next inside => rw [marked r inside]; rfl
    next => rfl
  · rw [givenBack_entry]
    split <;> rfl

theorem makeOffer_right {p : Port} {o : OfferOperands} (held : ∀ r, inSet o.set r = true → (s.entry r).state = .held p)
    (k : PinsRight s) : PinsRight (s.makeOffer p o) := by
  have caught := catchUpAll_fieldRun (enginesOf o.set) (tickTimes_any s)
  have ready := FieldRun.sameLedger caught
  have entered := offerEntered_samePins (s := s.catchUpAll (enginesOf o.set)) s.nextOfferId
    (fun r inside => by rw [ready.states, held r inside])
  rw [makeOffer_eq]
  exact examine_right ((append_samePins _ _ _ _).right (entered.right (FieldRun.right caught k)))

theorem returnOffer_right {o : Offer} (marked : ∀ r, inSet o.set r = true → (s.entry r).state = .offered o.offerer o.id)
    (k : PinsRight s) : PinsRight (s.returnOffer o) := by
  have caught := catchUpAll_fieldRun (enginesOf o.set) (tickTimes_any s)
  have ready := FieldRun.sameLedger caught
  rw [returnOffer_eq]
  exact (givenBack_samePins fun r inside => by rw [ready.states, marked r inside]).right (FieldRun.right caught k)

theorem endOffer_right {o : Offer} (outcome : OfferOutcome) (ps : PortSet)
    (marked : ∀ r, inSet o.set r = true → (s.entry r).state = .offered o.offerer o.id) (k : PinsRight s) :
    PinsRight (s.endOffer o outcome ps) :=
  examine_right ((append_samePins _ _ _ _).right (returnOffer_right marked k))

theorem acceptOffer_right (o : Offer) (k : PinsRight s) : PinsRight (s.acceptOffer o) := by
  have ready := FieldRun.right (catchUpAll_fieldRun (enginesOf o.set) (tickTimes_any s)) k
  have entry (u : State) (r : Resource) (outside : inSet o.set r = false) : (offerMoved u o).entry r = u.entry r := by
    rw [offerMoved_entry, outside, if_neg Bool.false_ne_true]
  have fields (u : State) : (offerMoved u o).lines = u.lines ∧ (offerMoved u o).engines = u.engines ∧
      (offerMoved u o).force = u.force ∧ (offerMoved u o).profile = u.profile := by
    simp [offerMoved, State.gain, State.lose, State.removeOffer]
  have line (u : State) (l : Line) : (offerMoved u o).line l = u.line l := by rw [State.line, (fields u).1, State.line]
  have engine (u : State) (e : EngineNo) : (offerMoved u o).engine e = u.engine e := by
    rw [State.engine, (fields u).2.1, State.engine]
  rw [acceptOffer_eq]
  refine (append_samePins _ _ _ _).right (redrive_right_of_same (fun l outside => ?_) (fun e outside => ?_) ready)
  · exact sameLinePin_of (by rw [line]) (by rw [line]) (by rw [line]) (by rw [entry _ _ outside]) (by rw [entry _ _ outside])
      (fields _).2.2.1 (fields _).2.2.2
  · exact sameEnginePin_of (by rw [engine]) (by rw [engine]) (by rw [entry _ _ outside]) (by rw [entry _ _ outside])
      (fields _).2.2.1

/-! ### The end of a session -/

theorem dropHoldings_right (how : SessionEnd) (p : Port) (k : PinsRight s) : PinsRight (s.dropHoldings how p) := by
  rw [dropHoldings_eq]
  exact (withSession_samePins _ p _).right (letGo_right _ _ (FieldRun.right (endedRuns_fieldRun how p (tickTimes_any s)) k))

theorem cancelOffer_right {p : Port} {o : Offer}
    (marked : o.offerer ≠ p → ∀ r, inSet o.set r = true → (s.entry r).state = .offered o.offerer o.id) (k : PinsRight s) :
    PinsRight (s.cancelOffer p o) := by
  unfold State.cancelOffer
  split
  · exact (append_samePins _ _ _ _).right ((removeOffer_samePins s o.id).right k)
  next other => exact (append_samePins _ _ _ _).right (returnOffer_right (marked other) k)

theorem cancelAll_right {p : Port} {l : List Offer} (nodup : l.Nodup) (sub : ∀ o ∈ l, o ∈ s.offers)
    (nothing : HoldsNothing s p) (ledger : Ledger (fun o => o.offerer = p) s) (k : PinsRight s) :
    PinsRight (l.foldl (State.cancelOffer p) s) := by
  induction l generalizing s with
  | nil => exact k
  | cons x l ih =>
    have hx := sub x List.mem_cons_self
    obtain ⟨notIn, nodup⟩ := List.nodup_cons.1 nodup
    obtain ⟨ledger', nothing'⟩ := cancelOffer_ledger hx nothing ledger
    refine ih nodup (fun o ho => ?_) nothing' ledger' (cancelOffer_right (ledger.offers.marked x hx) k)
    rw [cancelOffer_offers, List.mem_filter, decide_eq_true_eq]
    have old := sub o (List.mem_cons_of_mem x ho)
    exact ⟨old, fun same => notIn (ledger.offers.unique hx old same ▸ ho)⟩

theorem dropJournalInterest_samePins (s : State) (p : Port) : SamePins s (s.dropJournalInterest p) := by
  refine samePins_of_tables ?_ ⟨?_, ?_⟩ ?_ ?_
  all_goals simp [State.dropJournalInterest]

theorem reportLost_samePins (s : State) (how : SessionEnd) (p : Port) (lost : ResourceSet) :
    SamePins s (s.reportLost how p lost) := by
  unfold State.reportLost
  split
  · exact .refl s
  all_goals
    split
    · exact .refl s
    · exact append_samePins _ _ _ _

theorem endSession_right (how : SessionEnd) (p : Port) (leases : LeasesWf s) (k : PinsRight s) :
    PinsRight (s.endSession how p) := by
  obtain ⟨ledger, nothing⟩ := dropHoldings_ledger how p leases
  have cancelled : PinsRight ((s.dropHoldings how p).cancelOffers p) :=
    cancelAll_right (partyOffers_nodup ledger.offers p) (fun o ho => (mem_partyOffers.1 ho).1) nothing ledger
      (dropHoldings_right how p k)
  have removed : SamePins ((s.dropHoldings how p).cancelOffers p) (((s.dropHoldings how p).cancelOffers p).removeClaims p) :=
    samePins_of_tables rfl ⟨rfl, rfl⟩ rfl rfl
  have reported := ((removed.trans (dropJournalInterest_samePins _ p)).trans
    (reportLost_samePins _ how p (s.heldSet p))).right cancelled
  have closed (u : State) : SamePins u (u.closeRecord how p) := samePins_of_tables rfl ⟨rfl, rfl⟩ rfl rfl
  exact (closed _).right (examine_right reported)

/-! ### Failsafe values, lines, engines, force and profile -/

theorem setFailsafes_right (set : ResourceSet) (pl : List Byte) (k : PinsRight s) : PinsRight (s.setFailsafes set pl) where
  lines l := by
    rw [setFailsafes_line]
    cases inside : inSet set (lineResource l) with
    | true => exact decidedAgain_drive _ l _
    | false =>
      have entry : (s.setFailsafes set pl).entry (lineResource l) = s.entry (lineResource l) := by
        rw [setFailsafes_entry, inside, if_neg Bool.false_ne_true]
      have cell : (s.setFailsafes set pl).line l = s.line l := by
        rw [setFailsafes_line, inside, if_neg Bool.false_ne_true]
      have outside := setFailsafes_outside s set pl
      rw [if_neg Bool.false_ne_true, k.lines]
      exact (sameLinePin_of (by rw [cell]) (by rw [cell]) (by rw [cell]) (by rw [entry]) (by rw [entry]) outside.force
        outside.profile).2.symm
  engines e := by
    rw [setFailsafes_engine]
    cases inside : inSet set (engineResource e) with
    | true => rfl
    | false =>
      have entry : (s.setFailsafes set pl).entry (engineResource e) = s.entry (engineResource e) := by
        rw [setFailsafes_entry, inside, if_neg Bool.false_ne_true]
      have engine : (s.setFailsafes set pl).engine e = s.engine e := by
        rw [setFailsafes_engine, inside, if_neg Bool.false_ne_true]
      rw [if_neg Bool.false_ne_true, k.engines]
      exact (sameEnginePin_of (by rw [engine]) (by rw [engine]) (by rw [entry]) (by rw [entry])
        (setFailsafes_outside s set pl).force).2.symm

theorem cellsReplaced_right {set : ResourceSet} {cell : Line → LineCell → LineCell}
    (same : ∀ l c, inSet set (lineResource l) = false → cell l c = c) (k : PinsRight s) : PinsRight (cellsReplaced s set cell) := by
  refine redrive_right_of_same (fun l outside => ?_) (fun e _ => ?_) k
  · have kept : (s.withLines cell).line l = s.line l := by rw [State.line_withLines, same l _ outside]
    exact sameLinePin_of (by rw [kept]) (by rw [kept]) (by rw [kept]) (by simp) (by simp) (by simp) (by simp)
  · exact sameEnginePin_of (by simp) (by simp) (by simp) (by simp) (by simp)

theorem inSet_ofLines (mask : LineSet) (l : Line) : inSet (ofLines mask) (lineResource l) = mask.getLsbD l.val := by
  have inside : l.val < 36 := by omega
  simp [inSet, ofLines, lineResource, inside]

theorem enterMonitors_samePins (s : State) : SamePins s s.enterMonitors := cells_samePins _ fun _ _ => ⟨rfl, rfl, rfl⟩

theorem forceChanged_right (s : State) (asserted : Bool) : PinsRight (s.forceChanged asserted) :=
  (enterMonitors_samePins _).right ((append_samePins _ _ _ _).right (redrive_everyResource_right s))

theorem changeProfile_right (s : State) (p : Port) (x : Profile) : PinsRight (s.changeProfile p x) :=
  (append_samePins _ _ _ _).right ((enterMonitors_samePins _).right (redrive_everyResource_right _))

theorem portsOnly_samePins (only : PortsOnly s t) : SamePins s t := by
  rw [only]
  exact samePins_of_tables rfl ⟨rfl, rfl⟩ rfl rfl

theorem withOpen_samePins (s : State) (p : Port) (f : OpenSession → OpenSession) : SamePins s (s.withOpen p f) := by
  refine samePins_of_tables ?_ ⟨?_, ?_⟩ ?_ ?_
  all_goals simp

theorem OnlyOwnMoved.samePins {p : Port} (own : OnlyOwnMoved s t p) : SamePins s t :=
  samePins_of_tables own.tables.1 own.field own.outside.force own.outside.profile

theorem openRecord_right (p : Port) (period threshold : Nat) (k : PinsRight s) : PinsRight (s.openRecord p period threshold) := by
  obtain ⟨-, -, tables, field⟩ := openRecord_others s p period threshold
  have outside := openRecord_outside s p period threshold
  exact (samePins_of_tables tables.1 field outside.force outside.profile).right k

theorem deliver_samePins (s : State) (p : Port) (m : Nat) : SamePins s (s.deliver p m).1 := by
  cases fields : s.openFields p with
  | none => rw [State.deliver, fields]; exact .refl s
  | some o =>
    rw [deliver_eq m fields]
    exact (deliveredState_own s p _).samePins

theorem BodyLeaves.right {p : Port} {rq : Request} (h : BodyLeaves p s rq t) (leases : LeasesWf s) (k : PinsRight s) :
    PinsRight t := by
  have caught (e : EngineNo) : PinsRight (s.catchUp e) := FieldRun.right (catchUp_fieldRun e (tickTimes_any s)) k
  have marked {o : Offer} (found : s.offer o.id = some o) (r : Resource) (inside : inSet o.set r = true) :
      (s.entry r).state = .offered o.offerer o.id :=
    ((leasesWf_iff s).1 leases).1.offers.marked o (offer_mem found) not_false r inside
  cases h with
  | nothing => exact k
  | ports _ only => exact (portsOnly_samePins only).right k
  | opened o => exact openRecord_right p _ _ k
  | replaced o => exact openRecord_right p _ _ (endSession_right .replace p leases k)
  | closed => exact endSession_right .close p leases k
  | claimed set => exact grant_right p set k
  | granted set => exact examine_right (grant_right p set k)
  | queued w => exact (enqueued_samePins s w).right k
  | cancelled w ticket => exact (removeTicket_samePins s ticket).right k
  | released set => exact releaseSet_right p set k
  | failsafes set pl => exact setFailsafes_right set pl k
  | offered o _ _ _ held => exact makeOffer_right held k
  | accepted o => exact examine_right (acceptOffer_right o k)
  | returned _ o found out ps => exact endOffer_right out ps (marked found) k
  | directed set pl => exact cellsReplaced_right (fun l c outside => by rw [outside, if_neg Bool.false_ne_true]) k
  | written mask values =>
    exact cellsReplaced_right (fun l c outside => by rw [← inSet_ofLines, outside, if_neg Bool.false_ne_true]) k
  | caughtUp _ e => exact caught e
  | configured e c => exact (withEngine_samePins e (fun g => { g with config := some c }) fun _ => ⟨rfl, rfl⟩).right (caught e)
  | begun e c => exact setEngineState_right e _ ((withEngine_samePins e zeroCounters fun _ => ⟨rfl, rfl⟩).right (caught e))
  | fired e st => exact setEngineState_right e st (caught e)
  | stopped e => exact FieldRun.right (ok := fun _ => True) (stopEngine_fieldRun .stopped e trivial) (caught e)
  | subscribed rise fall => exact (withOpen_samePins s p _).right k
  | acknowledged o n m => exact ((acknowledge_own s p o n).samePins.trans (deliver_samePins _ p m)).right k
  | delivered m => exact (deliver_samePins s p m).right k
  | threshold n => exact (thresholdSet_own s p n).samePins.right k
  | profile x => exact changeProfile_right s p x

theorem served_samePins (s : State) (p : Port) : SamePins s (s.served p) := samePins_of_tables rfl ⟨rfl, rfl⟩ rfl rfl

theorem bodyState_samePins (s : State) (p : Port) (rq : Request) : SamePins s (bodyState s p rq) := by
  unfold bodyState
  split
  · exact (served_samePins s p).trans (withOpen_samePins _ p _)
  · exact served_samePins s p

theorem later_samePins (s : State) (n : Count) : SamePins s { s with timeCount := n } :=
  samePins_of_tables rfl ⟨rfl, rfl⟩ rfl rfl

theorem Happens.right {c : Instr} (h : Happens s c t) (leases : LeasesWf s) (k : PinsRight s) : PinsRight t := by
  have answered (u : State) (p : Port) (tag : Byte) (rep : Reply) : SamePins u (u.answer p tag rep) :=
    portsOnly_samePins (answer_portsOnly u p tag rep)
  cases h with
  | nothing => exact k
  | refused p rq tag rep => exact ((served_samePins s p).trans (answered _ p tag rep)).right k
  | request p rq t _ body tag rep =>
    exact (answered t p tag rep).right
      (body.right ((bodyState_sameLedger s p rq).leasesWf leases) ((bodyState_samePins s p rq).right k))
  | unknown p tag rep => exact ((served_samePins s p).trans (answered _ p tag rep)).right k
  | lapse p => exact endSession_right .lapse p leases k
  | offerExpiry o found ps =>
    exact endOffer_right .expired ps (((leasesWf_iff s).1 leases).1.offers.marked o (offer_mem found) not_false) k
  | claimExpiry w =>
    exact (append_samePins _ _ _ _).right ((removeTicket_samePins s w.ticket).right k)
  | tick => exact (later_samePins _ _).right (FieldRun.right (settleAll_fieldRun (List.finRange 4) (tickTimes_any s)) k)
  | field run => exact FieldRun.right (run _ (tickTimes_any s)) k
  | asserted => exact forceChanged_right _ true
  | released => exact forceChanged_right _ false
  | counted _ n =>
    exact ⟨fun l => k.lines l, fun e => k.engines e⟩
  | ports only => exact (portsOnly_samePins only).right k

end Pins

end Sys2Proof.Proofs
end


section
/-! PROOFS. Pins over a step, and who moves time count, session numbers, failsafe values and generations. -/

namespace Sys2Proof.Proofs

open Sys2Proof.Machine Sys2Proof.Safety Sys2Proof.Laws

/-! ### Failsafe values and generations (R8, R24) -/

/-- The failsafe value stays, and the generation stays or rises by one step with a holder. -/
def EntryMoved (x y : LeaseEntry) : Prop :=
  y.failsafe = x.failsafe ∧
    (y.generation = x.generation ∨ y.generation = generationAfter x.generation ∧ y.state.holder ≠ none)

/-- Every lease entry moved so. -/
def EntriesMoved (s t : State) : Prop := ∀ r, EntryMoved (s.entry r) (t.entry r)

/-- Lease states alone moved. -/
def OnlyStatesMoved (s t : State) : Prop :=
  ∀ r, (t.entry r).failsafe = (s.entry r).failsafe ∧ (t.entry r).generation = (s.entry r).generation

section Entries

variable {s t u : State}

theorem OnlyStatesMoved.refl (s : State) : OnlyStatesMoved s s := fun _ => ⟨rfl, rfl⟩

theorem OnlyStatesMoved.trans (h : OnlyStatesMoved s t) (k : OnlyStatesMoved t u) : OnlyStatesMoved s u := fun r =>
  ⟨(k r).1.trans (h r).1, (k r).2.trans (h r).2⟩

theorem OnlyStatesMoved.of_leases (h : t.leases = s.leases) : OnlyStatesMoved s t := fun r => by
  rw [State.entry, h, State.entry]
  exact ⟨rfl, rfl⟩

theorem OnlyStatesMoved.moved (h : OnlyStatesMoved s t) : EntriesMoved s t := fun r => ⟨(h r).1, .inl (h r).2⟩

theorem OnlyStatesMoved.then (h : OnlyStatesMoved s t) (k : EntriesMoved t u) : EntriesMoved s u := fun r => by
  obtain ⟨failsafe, generation⟩ := k r
  rw [(h r).1] at failsafe
  rw [(h r).2] at generation
  exact ⟨failsafe, generation⟩

theorem EntriesMoved.leases (h : EntriesMoved s t) (k : u.leases = t.leases) : EntriesMoved s u := fun r => by
  have entry : u.entry r = t.entry r := by rw [State.entry, k, State.entry]
  rw [entry]
  exact h r

theorem entryMoved_grantedTo (p : Port) (x : LeaseEntry) : EntryMoved x (grantedTo p x) :=
  ⟨rfl, .inr ⟨rfl, holder_grantedTo p x⟩⟩

theorem entryMoved_refl (x : LeaseEntry) : EntryMoved x x := ⟨rfl, .inl rfl⟩

theorem GrantsOnly.moved (h : GrantsOnly s t) : EntriesMoved s t := fun r => by
  rcases h.entries r with same | ⟨-, p, granted⟩
  · rw [same]
    exact entryMoved_refl _
  · rw [granted]
    exact entryMoved_grantedTo p _

/-- What was given a new generation has a holder, so an examination passes it by. -/
theorem EntriesMoved.examined (h : EntriesMoved s t) (k : GrantsOnly t u) : EntriesMoved s u := fun r => by
  obtain ⟨failsafe, same | ⟨next, held⟩⟩ := h r
  · obtain ⟨failsafe', generation⟩ := k.moved r
    rw [failsafe] at failsafe'
    rw [same] at generation
    exact ⟨failsafe', generation⟩
  · rw [k.entry_of_holder held]
    exact ⟨failsafe, .inr ⟨next, held⟩⟩

theorem OnlyStatesMoved.examined (h : OnlyStatesMoved s t) : EntriesMoved s t.examine :=
  h.moved.examined (examine_grants t)

theorem FieldRun.onlyStates {ok : Count → Prop} (h : FieldRun ok s t) : OnlyStatesMoved s t := .of_leases h.tables.1

theorem append_onlyStates (s : State) (ps : PortSet) (time : Count) (body : RecordBody) :
    OnlyStatesMoved s (s.append ps time body) := .of_leases (append_tables s ps time body).1

theorem grant_moved (s : State) (p : Port) (set : ResourceSet) : EntriesMoved s (s.grant p set) := fun r => by
  rw [grant_entry_grantedTo]
  split
  · exact entryMoved_grantedTo p _
  · exact entryMoved_refl _

theorem letGo_onlyStates (s : State) (set : ResourceSet) (after : LeaseState) : OnlyStatesMoved s (s.letGo set after) := fun r => by
  rw [letGo_entry]
  split <;> exact ⟨rfl, rfl⟩

theorem withSession_onlyStates (s : State) (p : Port) (f : Session → Session) : OnlyStatesMoved s (s.withSession p f) :=
  .of_leases rfl

theorem releaseSet_entries (s : State) (p : Port) (set : ResourceSet) : EntriesMoved s (s.releaseSet p set) := by
  rw [releaseSet_eq]
  exact ((FieldRun.onlyStates (stoppedFor_fieldRun set (tickTimes_any s))).trans
    ((letGo_onlyStates _ set .free).trans (withSession_onlyStates _ p _))).examined

theorem makeOffer_entries (s : State) (p : Port) (o : OfferOperands) : EntriesMoved s (s.makeOffer p o) := by
  have entered (u : State) (id : Byte) : OnlyStatesMoved u (offerEntered u p o id) := fun r => by
    rw [offerEntered_entry]
    split <;> exact ⟨rfl, rfl⟩
  rw [makeOffer_eq]
  exact (((FieldRun.onlyStates (catchUpAll_fieldRun (enginesOf o.set) (tickTimes_any s))).trans (entered _ _)).trans
    (append_onlyStates _ _ _ _)).examined

theorem returnOffer_onlyStates (s : State) (o : Offer) : OnlyStatesMoved s (s.returnOffer o) := by
  have returned (u : State) : OnlyStatesMoved u (givenBack u o) := fun r => by
    rw [givenBack_entry]
    split <;> exact ⟨rfl, rfl⟩
  rw [returnOffer_eq]
  exact (FieldRun.onlyStates (catchUpAll_fieldRun (enginesOf o.set) (tickTimes_any s))).trans (returned _)

theorem endOffer_entries (s : State) (o : Offer) (outcome : OfferOutcome) (ps : PortSet) :
    EntriesMoved s (s.endOffer o outcome ps) :=
  ((returnOffer_onlyStates s o).trans (append_onlyStates _ _ _ _)).examined

theorem acceptOffer_entries (s : State) (o : Offer) : EntriesMoved s (s.acceptOffer o).examine := by
  have moved (u : State) : EntriesMoved u (offerMoved u o) := fun r => by
    rw [offerMoved_entry]
    split
    · exact entryMoved_grantedTo _ _
    · exact entryMoved_refl _
  have ready := FieldRun.onlyStates (catchUpAll_fieldRun (enginesOf o.set) (tickTimes_any s))
  have settled : EntriesMoved s (s.acceptOffer o) := by
    rw [acceptOffer_eq]
    exact (ready.then (moved _)).leases ((append_tables _ _ _ _).1.trans (State.redrive_leases _ _))
  exact settled.examined (examine_grants _)

theorem cancelOffer_onlyStates (p : Port) (s : State) (o : Offer) : OnlyStatesMoved s (s.cancelOffer p o) := by
  unfold State.cancelOffer
  split
  · exact .of_leases ((append_tables _ _ _ _).1.trans rfl)
  · exact (returnOffer_onlyStates s o).trans (append_onlyStates _ _ _ _)

theorem cancelAll_onlyStates (p : Port) (l : List Offer) (s : State) : OnlyStatesMoved s (l.foldl (State.cancelOffer p) s) := by
  induction l generalizing s with
  | nil => exact .refl s
  | cons o l ih => exact (cancelOffer_onlyStates p s o).trans (ih _)

theorem dropHoldings_onlyStates (s : State) (how : SessionEnd) (p : Port) : OnlyStatesMoved s (s.dropHoldings how p) := by
  rw [dropHoldings_eq]
  exact (FieldRun.onlyStates (endedRuns_fieldRun how p (tickTimes_any s))).trans
    ((letGo_onlyStates _ _ _).trans (withSession_onlyStates _ p _))

theorem reportLost_leases (s : State) (how : SessionEnd) (p : Port) (lost : ResourceSet) :
    (s.reportLost how p lost).leases = s.leases := by
  unfold State.reportLost
  split
  · rfl
  all_goals
    split
    · rfl
    · exact (append_tables _ _ _ _).1

theorem endReported_onlyStates (s : State) (how : SessionEnd) (p : Port) : OnlyStatesMoved s (endReported s how p) := by
  have dropped := (dropHoldings_onlyStates s how p).trans (cancelAll_onlyStates p (partyOffers (s.dropHoldings how p) p) _)
  refine dropped.trans (.of_leases ?_)
  rw [endReported, reportLost_leases, State.dropJournalInterest, State.withOpen_leases]
  rfl

theorem endSession_entries (s : State) (how : SessionEnd) (p : Port) : EntriesMoved s (s.endSession how p) := by
  rw [endSession_eq]
  exact (endReported_onlyStates s how p).examined.leases rfl

theorem forceChanged_leases (s : State) (asserted : Bool) : (s.forceChanged asserted).leases = s.leases := by
  rw [State.forceChanged, State.enterMonitors, State.withLines_leases, (append_tables _ _ _ _).1, State.redrive_leases]

theorem assertForce_onlyStates (s : State) : OnlyStatesMoved s s.assertForce := by
  have caught := FieldRun.onlyStates (catchUpAll_fieldRun (List.finRange 4) (tickTimes_any s))
  have forced := FieldRun.onlyStates
    (stopAll_fieldRun .forced (List.finRange 4) (tickTimes_any ((s.catchUpAll (List.finRange 4)).setForce true)))
  have flagged (u : State) : OnlyStatesMoved u (u.setForce true) := .of_leases rfl
  exact ((caught.trans (flagged _)).trans forced).trans (.of_leases (forceChanged_leases _ true))

theorem deliver_leases (s : State) (p : Port) (m : Nat) : (s.deliver p m).1.leases = s.leases := by
  cases fields : s.openFields p with
  | none => rw [State.deliver, fields]
  | some o =>
    rw [deliver_eq m fields]
    exact (deliveredState_own s p _).tables.1

theorem BodyLeaves.entries {p : Port} {rq : Request} (h : BodyLeaves p s rq t) (notFailsafe : rq ≠ .setFailsafe) :
    EntriesMoved s t := by
  have caught (e : EngineNo) : OnlyStatesMoved s (s.catchUp e) := FieldRun.onlyStates (catchUp_fieldRun e (tickTimes_any s))
  have same {u : State} (leases : t.leases = u.leases) (h : OnlyStatesMoved s u) : EntriesMoved s t := h.moved.leases leases
  cases h with
  | nothing => exact (OnlyStatesMoved.refl s).moved
  | ports _ only => exact same (u := s) (by rw [only]) (.refl s)
  | opened o => exact same (openRecord_others s p _ _).2.2.1.1 (.refl s)
  | replaced o => exact (endSession_entries s .replace p).leases (openRecord_others _ p _ _).2.2.1.1
  | closed => exact endSession_entries s .close p
  | claimed set => exact grant_moved s p set
  | granted set => exact (grant_moved s p set).examined (examine_grants _)
  | queued w => exact same (u := s) rfl (.refl s)
  | cancelled w ticket => exact same (u := s) rfl (.refl s)
  | released set => exact releaseSet_entries s p set
  | failsafes => exact absurd rfl notFailsafe
  | offered o => exact makeOffer_entries s p o
  | accepted o => exact acceptOffer_entries s o
  | returned _ o _ out ps => exact endOffer_entries s o out ps
  | directed set pl => exact same (u := s) (by simp [State.setDirections]) (.refl s)
  | written mask values => exact same (u := s) (by simp [State.writeValues]) (.refl s)
  | caughtUp _ e => exact (caught e).moved
  | configured e c => exact same (State.withEngine_leases _ _ _) (caught e)
  | begun e c => exact same (startRun_tables _ e c).1 (caught e)
  | fired e st => exact same (by simp [State.setEngineState]) (caught e)
  | stopped e => exact same (stopEngine_happening _ _ e).2.2.1.1 (caught e)
  | subscribed rise fall => exact same (s.withOpen_leases p _) (.refl s)
  | acknowledged o n m => exact same (deliver_leases _ p m) (.of_leases (acknowledge_own s p o n).tables.1)
  | delivered m => exact same (deliver_leases s p m) (.refl s)
  | threshold n => exact same (thresholdSet_own s p n).tables.1 (.refl s)
  | profile x => exact same (u := s) (changeProfile_tables s p x).1 (.refl s)

end Entries

end Sys2Proof.Proofs
end


section
/-! PROOFS. Pins over a step; and who moves time count, session numbers, failsafe values and generations. -/

namespace Sys2Proof.Proofs

open Sys2Proof.Machine Sys2Proof.Safety Sys2Proof.Laws

section Moves

variable {s t u : State}

/-- The leases that a request's body finds are those before it. -/
theorem bodyState_leases (s : State) (p : Port) (rq : Request) : (bodyState s p rq).leases = s.leases := by
  unfold bodyState
  split
  · exact taken_leases s p
  · rfl

theorem leases_later (s : State) (n : Count) : State.leases { s with timeCount := n } = s.leases := rfl

theorem expireClaim_leases (s : State) (w : WaitEntry) : (s.expireClaim w).leases = s.leases := by
  rw [State.expireClaim, (append_tables _ _ _ _).1]
  rfl

theorem answer_leases (s : State) (p : Port) (tag : Byte) (rep : Reply) : (s.answer p tag rep).leases = s.leases := rfl

/-- Every command moves failsafe values and generations so, or it is a SET FAILSAFE. -/
theorem Happens.entries {c : Instr} (h : Happens s c t) :
    EntriesMoved s t ∨ ∃ p u tag rep, c = .setFailsafe p ∧ t = State.answer u p tag rep ∧
      BodyLeaves p (bodyState s p .setFailsafe) .setFailsafe u := by
  have same {u : State} (leases : t.leases = u.leases) (h : OnlyStatesMoved s u) : EntriesMoved s t := h.moved.leases leases
  cases h with
  | request p rq t _ body tag rep =>
    by_cases own : rq = .setFailsafe
    · subst own
      exact .inr ⟨p, t, tag, rep, rfl, rfl, body⟩
    · have before : OnlyStatesMoved s (bodyState s p rq) := .of_leases (bodyState_leases s p rq)
      exact .inl ((before.then (body.entries own)).leases (answer_leases t p tag rep))
  | nothing => exact .inl (OnlyStatesMoved.refl s).moved
  | refused p rq tag rep => exact .inl (same (u := s) rfl (.refl s))
  | unknown p tag rep => exact .inl (same (u := s) rfl (.refl s))
  | lapse p => exact .inl (endSession_entries s .lapse p)
  | offerExpiry o _ ps => exact .inl (endOffer_entries s o .expired ps)
  | claimExpiry w => exact .inl (same (u := s) (expireClaim_leases s w) (.refl s))
  | tick =>
    exact .inl ((FieldRun.onlyStates (settleAll_fieldRun (List.finRange 4) (tickTimes_any s))).moved.leases (leases_later _ _))
  | field run => exact .inl (FieldRun.onlyStates (run _ (tickTimes_any s))).moved
  | asserted => exact .inl (assertForce_onlyStates s).moved
  | released => exact .inl (same (u := s) (forceChanged_leases _ false) (.refl s))
  | counted _ n => exact .inl (same (u := s) rfl (.refl s))
  | ports only => exact .inl (same (u := s) (by rw [only]) (.refl s))

/-! ### No engine floats (R10, R24) -/

theorem EntriesMoved.engineFailsafes (h : EntriesMoved s t) (k : EngineFailsafes s) : EngineFailsafes t := fun e => by
  rw [(h (engineResource e)).1]
  exact k e

/-- A legal value for an engine is not FLOAT (R24). -/
theorem legalFailsafe_engine {e : EngineNo} {f : Option Failsafe} (legal : legalFailsafe (engineResource e) f = true)
    (other : Failsafe) (k : other ≠ .float) : f.getD other ≠ .float := by
  cases f with
  | none => exact k
  | some f =>
    cases f
    case driveLow => exact nofun
    case driveHigh => exact nofun
    case float =>
      have below := of_decide_eq_true legal
      simp [engineResource] at below

theorem setFailsafes_engineFailsafes {set : ResourceSet} {pl : List Byte}
    (legal : ∀ r, inSet set r = true → legalFailsafe r (failsafeAt pl r) = true) (k : EngineFailsafes s) :
    EngineFailsafes (s.setFailsafes set pl) := fun e => by
  rw [setFailsafes_entry]
  split
  next inside => exact legalFailsafe_engine (legal _ inside) _ (k e)
  next => exact k e

theorem BodyLeaves.engineFailsafes {p : Port} {rq : Request} (h : BodyLeaves p s rq t) (k : EngineFailsafes s) :
    EngineFailsafes t := by
  by_cases own : rq = .setFailsafe
  · subst own
    have same (leases : t.leases = s.leases) : EngineFailsafes t :=
      ((OnlyStatesMoved.of_leases leases).moved).engineFailsafes k
    cases h with
    | nothing => exact k
    | ports _ only => exact same (by rw [only])
    | failsafes set pl legal => exact setFailsafes_engineFailsafes legal k
    | returned _ o _ out ps => exact (endOffer_entries s o out ps).engineFailsafes k
    | caughtUp _ e => exact (FieldRun.onlyStates (catchUp_fieldRun e (tickTimes_any s))).moved.engineFailsafes k
  · exact (h.entries own).engineFailsafes k

theorem engineFailsafes_of_leases (leases : t.leases = s.leases) (k : EngineFailsafes s) : EngineFailsafes t :=
  ((OnlyStatesMoved.of_leases leases).moved).engineFailsafes k

theorem Happens.engineFailsafes {c : Instr} (h : Happens s c t) (k : EngineFailsafes s) : EngineFailsafes t := by
  rcases h.entries with moved | ⟨p, u, tag, rep, -, rfl, body⟩
  · exact moved.engineFailsafes k
  · exact engineFailsafes_of_leases (answer_leases u p tag rep)
      (body.engineFailsafes (engineFailsafes_of_leases (bodyState_leases s p _) k))

/-! ### Pins over a step -/

theorem millisecond_samePins (s : State) (rest : List Instr) : SamePins s { s.millisecond with pending := rest } :=
  samePins_of_tables rfl ⟨rfl, rfl⟩ rfl rfl

/-- In reset every line floats and every engine's pin is LOW (R171). -/
theorem beginReset_pinsExact (s : State) (cause : ResetCause) : PinsExact (s.beginReset cause) := by
  refine ⟨fun l => ?_, fun e => ?_⟩
  · simp [State.beginReset, State.line, State.withEngines, State.withLines]
  · simp [State.beginReset, State.engine, State.withEngines]

theorem freeCount_pinsExact (n : Nat) (k : PinsExact s) : PinsExact { s with freeCount := n } := k

theorem beginReset_leases (s : State) (cause : ResetCause) : (s.beginReset cause).leases = s.leases := by
  simp [State.beginReset]

theorem freeCount_leases (s : State) (n : Nat) : State.leases { s with freeCount := n } = s.leases := rfl

/-- After reset every line floats and every engine's pin is LOW: no resource has a holder (R4, R76, R98). -/
theorem afterReset_pinsRight (cause : ResetCause) (pins : ResetPins) (n : Nat) (rest : List Instr) :
    PinsRight (State.afterReset cause pins n rest) where
  lines l := by
    have cell : ((State.afterReset cause pins n rest).line l).drive = .float := by
      simp [State.afterReset, State.line, LineCell.reset]
    have line : isLine (lineResource l) = true := decide_eq_true l.isLt
    rw [cell, State.effectiveDrive, afterReset_entry]
    simp [LeaseEntry.reset, line, controlled, LeaseState.holder, failsafeDrive]
  engines e := by
    have engine : isLine (engineResource e) = false := by simp [isLine, engineResource]
    rw [State.engineDrive, afterReset_entry, afterReset_engine]
    simp [LeaseEntry.reset, engine, controlled, LeaseState.holder, failsafeLevel, Engine.reset]

theorem afterReset_engineFailsafes (cause : ResetCause) (pins : ResetPins) (n : Nat) (rest : List Instr) :
    EngineFailsafes (State.afterReset cause pins n rest) := fun e => by
  have engine : isLine (engineResource e) = false := by simp [isLine, engineResource]
  rw [afterReset_entry]
  simp [LeaseEntry.reset, engine]

theorem Steps.pins (h : Steps s t) (leases : LeasesWf s) (exact_ : PinsExact s) (k : EngineFailsafes s) :
    PinsExact t ∧ EngineFailsafes t := by
  cases h with
  | happening c rest t does asleep =>
    have queue := queue_sameLedger s rest s.freeCount
    refine ⟨?_, does.engineFailsafes k⟩
    by_cases awake : s.inReset = none
    · have right : PinsRight { s with pending := rest } := (pinsExact_of_awake (s := { s with pending := rest }) awake).1 exact_
      exact (pinsExact_of_awake (does.control.2.1.trans awake)).2 (does.right (queue.leasesWf leases) right)
    · rw [asleep awake]
      exact exact_
  | waits => exact ⟨exact_, k⟩
  | takes c => exact ⟨exact_, k⟩
  | millisecond awake =>
    have right := (millisecond_samePins s s.millisecond.timersOut).right ((pinsExact_of_awake awake).1 exact_)
    exact ⟨(pinsExact_of_awake (s := { s.millisecond with pending := s.millisecond.timersOut }) awake).2 right, k⟩
  | counted rest n => exact ⟨exact_, k⟩
  | resetBegins cause rest =>
    exact ⟨beginReset_pinsExact _ cause, engineFailsafes_of_leases (beginReset_leases { s with pending := rest } cause) k⟩
  | resetByChance rest n =>
    exact ⟨freeCount_pinsExact n (beginReset_pinsExact _ .pin),
      engineFailsafes_of_leases ((freeCount_leases _ n).trans (beginReset_leases { s with pending := rest } .pin)) k⟩
  | resetEnds cause pins rest =>
    exact ⟨(pinsExact_of_awake rfl).2 (afterReset_pinsRight cause pins s.freeCount rest),
      afterReset_engineFailsafes cause pins s.freeCount rest⟩

end Moves

/-- Settles O59. -/
theorem pinsKept : Obligations.PinsKept := fun _ _ leases exact_ k h => (steps_of_step h).pins leases exact_ k

end Sys2Proof.Proofs
end


section
/-! PROOFS. Who moves time count, session numbers, failsafe values and generations. -/

namespace Sys2Proof.Proofs

open Sys2Proof.Machine Sys2Proof.Safety Sys2Proof.Laws

/-- The number of port `p`'s session stays. -/
def SameNumber (s t : State) (p : Port) : Prop := (t.session p).number = (s.session p).number

section Numbers

variable {s t u : State} {q : Port}

theorem SameNumber.trans (h : SameNumber s t q) (k : SameNumber t u q) : SameNumber s u q := Eq.trans k h

theorem OnlyCountsMoved.number (h : OnlyCountsMoved s t) (q : Port) : SameNumber s t q := by
  have same := congrArg Session.number (h q)
  simp only [besideCounts, sessionFrame] at same
  exact same

theorem sameNumber_of_sessions (h : t.sessions = s.sessions) (q : Port) : SameNumber s t q :=
  (OnlyCountsMoved.of_sessions h).number q

theorem FieldRun.number {ok : Count → Prop} (h : FieldRun ok s t) (q : Port) : SameNumber s t q :=
  (OnlyCountsMoved.of_journalMoved h.moved).number q

theorem withSession_number (s : State) (p q : Port) (f : Session → Session) (same : ∀ x, (f x).number = x.number) :
    SameNumber s (s.withSession p f) q := by
  rw [SameNumber, State.session_withSession]
  split
  next own => rw [same, own]
  next => rfl

theorem withOpen_number (s : State) (p q : Port) (f : OpenSession → OpenSession) : SameNumber s (s.withOpen p f) q := by
  rw [SameNumber, State.session_withOpen]
  split
  next own =>
    subst own
    cases (s.session q).state <;> rfl
  next => rfl

theorem append_number (s : State) (ps : PortSet) (time : Count) (body : RecordBody) (q : Port) :
    SameNumber s (s.append ps time body) q := (OnlyCountsMoved.of_journalMoved (append_moved s ps time body)).number q

theorem examine_number (s : State) (q : Port) : SameNumber s s.examine q := (examine_countsMoved s).number q

theorem dropHoldings_number (s : State) (how : SessionEnd) (p q : Port) : SameNumber s (s.dropHoldings how p) q := by
  rw [dropHoldings_eq]
  exact ((FieldRun.number (endedRuns_fieldRun how p (tickTimes_any s)) q).trans
    ((letGo_countsMoved _ _ _).number q)).trans (withSession_number _ p q _ fun _ => rfl)

theorem cancelOffer_number (p : Port) (s : State) (o : Offer) (q : Port) : SameNumber s (s.cancelOffer p o) q := by
  unfold State.cancelOffer
  split
  · exact (sameNumber_of_sessions (removeOffer_sessions s o.id) q).trans (append_number _ _ _ _ q)
  · exact ((returnOffer_countsMoved s o).number q).trans (append_number _ _ _ _ q)

theorem cancelAll_number (p : Port) (l : List Offer) (s : State) (q : Port) :
    SameNumber s (l.foldl (State.cancelOffer p) s) q := by
  induction l generalizing s with
  | nil => rfl
  | cons o l ih => exact (cancelOffer_number p s o q).trans (ih _)

theorem reportLost_number (s : State) (how : SessionEnd) (p : Port) (lost : ResourceSet) (q : Port) :
    SameNumber s (s.reportLost how p lost) q := by
  unfold State.reportLost
  split
  · rfl
  all_goals
    split
    · rfl
    · exact append_number _ _ _ _ q

theorem endSession_number (s : State) (how : SessionEnd) (p q : Port) : SameNumber s (s.endSession how p) q := by
  have cancelled := (dropHoldings_number s how p q).trans (cancelAll_number p (partyOffers (s.dropHoldings how p) p) _ q)
  have removed (u : State) : SameNumber u ((u.removeClaims p).dropJournalInterest p) q :=
    withOpen_number ((u.removeClaims p).withJournal _) p q _
  have closed (u : State) : SameNumber u (u.closeRecord how p) q := by
    rw [SameNumber, closeRecord_session]
    split
    next own => rw [own]
    next => rfl
  exact (((cancelled.trans (removed _)).trans (reportLost_number _ how p (s.heldSet p) q)).trans (examine_number _ q)).trans
    (closed _)

theorem forceChanged_number (s : State) (asserted : Bool) (q : Port) : SameNumber s (s.forceChanged asserted) q := by
  have driven : SameNumber s (s.redrive everyResource) q := sameNumber_of_sessions (by simp) q
  have entered (u : State) : SameNumber u u.enterMonitors q := sameNumber_of_sessions (by simp [State.enterMonitors]) q
  exact (driven.trans (append_number _ _ _ _ q)).trans (entered _)

theorem openRecord_number (s : State) {p q : Port} (other : q ≠ p) (period threshold : Nat) :
    SameNumber s (s.openRecord p period threshold) q := by
  rw [SameNumber, session_openRecord, if_neg other]

theorem BodyLeaves.number {p : Port} {rq : Request} (h : BodyLeaves p s rq t) (other : rq = .openSession → q ≠ p) :
    SameNumber s t q := by
  have caught (e : EngineNo) : SameNumber s (s.catchUp e) q := FieldRun.number (catchUp_fieldRun e (tickTimes_any s)) q
  cases h with
  | nothing => rfl
  | ports _ only => exact sameNumber_of_sessions (by rw [only]) q
  | opened o => exact openRecord_number s (other rfl) _ _
  | replaced o => exact (endSession_number s .replace p q).trans (openRecord_number _ (other rfl) _ _)
  | closed => exact endSession_number s .close p q
  | claimed set => exact (grant_countsMoved s p set).number q
  | granted set => exact ((grant_countsMoved s p set).number q).trans (examine_number _ q)
  | queued w => rfl
  | cancelled w ticket => rfl
  | released set => exact (releaseSet_countsMoved s p set).number q
  | failsafes set pl => exact sameNumber_of_sessions (by simp [State.setFailsafes]) q
  | offered o => exact (makeOffer_countsMoved s p o).number q
  | accepted o => exact ((acceptOffer_countsMoved s o).number q).trans (examine_number _ q)
  | returned _ o _ out ps => exact (endOffer_countsMoved s o out ps).number q
  | directed set pl => exact sameNumber_of_sessions (by simp [State.setDirections]) q
  | written mask values => exact sameNumber_of_sessions (by simp [State.writeValues]) q
  | caughtUp _ e => exact caught e
  | configured e c => exact (caught e).trans (sameNumber_of_sessions (by simp) q)
  | begun e c => exact (caught e).trans (sameNumber_of_sessions (startRun_tables _ e c).2.1 q)
  | fired e st => exact (caught e).trans (sameNumber_of_sessions (by simp [State.setEngineState]) q)
  | stopped e => exact (caught e).trans ((stopEngine_countsMoved _ _ e).number q)
  | subscribed rise fall => exact withOpen_number s p q _
  | acknowledged o n m fields => exact ((acknowledge_countsMoved n fields).number q).trans ((deliver_countsMoved _ p m).number q)
  | delivered m => exact (deliver_countsMoved s p m).number q
  | threshold n => exact (withOpen_number s p q _).trans (sameNumber_of_sessions rfl q)
  | profile x => exact (changeProfile_countsMoved s p x).number q

theorem bodyState_number (s : State) (p : Port) (rq : Request) (q : Port) : SameNumber s (bodyState s p rq) q := by
  unfold bodyState
  split
  · exact (sameNumber_of_sessions rfl q).trans (withOpen_number (s.served p) p q _)
  · exact sameNumber_of_sessions rfl q

theorem sessions_later (s : State) (n : Count) : State.sessions { s with timeCount := n } = s.sessions := rfl

theorem Happens.number {c : Instr} (h : Happens s c t) (other : c ≠ .openSession q) : SameNumber s t q := by
  have answered (u : State) (p : Port) (tag : Byte) (rep : Reply) : SameNumber u (u.answer p tag rep) q :=
    sameNumber_of_sessions rfl q
  cases h with
  | nothing => rfl
  | refused p rq tag rep => exact (sameNumber_of_sessions (t := s.served p) rfl q).trans (answered _ p tag rep)
  | request p rq t _ body tag rep =>
    refine ((bodyState_number s p rq q).trans (body.number fun own => ?_)).trans (answered t p tag rep)
    rintro rfl
    exact other (by rw [own]; rfl)
  | unknown p tag rep => exact (sameNumber_of_sessions (t := s.served p) rfl q).trans (answered _ p tag rep)
  | lapse p => exact endSession_number s .lapse p q
  | offerExpiry o _ ps => exact (endOffer_countsMoved s o .expired ps).number q
  | claimExpiry w => exact (sameNumber_of_sessions (t := s.removeTicket w.ticket) rfl q).trans (append_number _ _ _ _ q)
  | tick =>
    exact (FieldRun.number (settleAll_fieldRun (List.finRange 4) (tickTimes_any s)) q).trans
      (sameNumber_of_sessions (sessions_later _ _) q)
  | field run => exact FieldRun.number (run _ (tickTimes_any s)) q
  | asserted =>
    have caught := FieldRun.number (catchUpAll_fieldRun (List.finRange 4) (tickTimes_any s)) q
    have forced := FieldRun.number
      (stopAll_fieldRun .forced (List.finRange 4) (tickTimes_any ((s.catchUpAll (List.finRange 4)).setForce true))) q
    have flagged (u : State) : SameNumber u (u.setForce true) q := sameNumber_of_sessions rfl q
    exact ((caught.trans (flagged _)).trans forced).trans (forceChanged_number _ true q)
  | released => exact (sameNumber_of_sessions (t := s.setForce false) rfl q).trans (forceChanged_number _ false q)
  | counted _ n => rfl
  | ports only => exact sameNumber_of_sessions (by rw [only]) q

end Numbers

section Owners

variable {s t : State}

/-- The beginning of a reset moves none of what has an owner. -/
theorem beginReset_owned (cause : ResetCause) (s : State) (q : Port) :
    (s.beginReset cause).timeCount = s.timeCount ∧ SameNumber s (s.beginReset cause) q ∧
      OnlyStatesMoved s (s.beginReset cause) :=
  ⟨beginReset_timeCount s cause, sameNumber_of_sessions (beginReset_sessions s cause) q,
    .of_leases (beginReset_leases s cause)⟩

theorem reset_owned (ev : ResetEvent) (h : exec (.reset ev) s = .next t) (q : Port) :
    t.timeCount = s.timeCount ∧ SameNumber s t q ∧ OnlyStatesMoved s t := by
  cases ev with
  | powerOn =>
    rw [exec_powerOn] at h
    obtain rfl := Host.Outcome.next.inj h
    exact beginReset_owned .powerOn s q
  | pinLow ns =>
    rw [exec_pinLow] at h
    obtain rfl := Host.Outcome.next.inj h
    have counted (u : State) (n : Nat) (k : u.timeCount = s.timeCount ∧ SameNumber s u q ∧ OnlyStatesMoved s u) :
        State.timeCount { u with freeCount := n } = s.timeCount ∧ SameNumber s { u with freeCount := n } q ∧
          OnlyStatesMoved s { u with freeCount := n } := k
    rcases resetByPin_cases s ns with same | same | same | same
    all_goals rw [same]
    · exact ⟨rfl, rfl, .refl s⟩
    · exact counted s _ ⟨rfl, rfl, .refl s⟩
    · exact beginReset_owned .pin s q
    · exact counted _ _ (beginReset_owned .pin s q)

theorem holds_of_holder {r : Resource} (h : (s.entry r).state.holder ≠ none) : ∃ p, s.holds p r = true := by
  obtain ⟨p, holder⟩ := Option.ne_none_iff_exists'.1 h
  exact ⟨p, holds_iff_holder.2 holder⟩

theorem EntriesMoved.generation (h : EntriesMoved s t) (r : Resource) :
    (t.entry r).generation = (s.entry r).generation ∨
      (t.entry r).generation = generationAfter (s.entry r).generation ∧ ∃ p, t.holds p r = true :=
  (h r).2.imp_right fun ⟨next, held⟩ => ⟨next, holds_of_holder held⟩

/-- SET FAILSAFE moves no generation. -/
theorem setFailsafe_generation {p : Port} {u : State} (h : BodyLeaves p s .setFailsafe u) (r : Resource) :
    (u.entry r).generation = (s.entry r).generation ∨
      (u.entry r).generation = generationAfter (s.entry r).generation ∧ ∃ p, u.holds p r = true := by
  cases h with
  | nothing => exact .inl rfl
  | ports _ only => exact ((OnlyStatesMoved.of_leases (by rw [only])).moved).generation r
  | failsafes set pl =>
    refine .inl ?_
    rw [setFailsafes_entry]
    split <;> rfl
  | returned _ o _ out ps => exact (endOffer_entries s o out ps).generation r
  | caughtUp _ e => exact (FieldRun.onlyStates (catchUp_fieldRun e (tickTimes_any s))).moved.generation r

theorem holds_answer (s : State) (q : Port) (tag : Byte) (rep : Reply) (p : Port) (r : Resource) :
    (s.answer q tag rep).holds p r = s.holds p r := rfl

theorem entry_answer (s : State) (q : Port) (tag : Byte) (rep : Reply) (r : Resource) :
    (s.answer q tag rep).entry r = s.entry r := rfl

theorem Happens.generation {c : Instr} (h : Happens s c t) (r : Resource) :
    (t.entry r).generation = (s.entry r).generation ∨
      (t.entry r).generation = generationAfter (s.entry r).generation ∧ ∃ p, t.holds p r = true := by
  rcases h.entries with moved | ⟨p, u, tag, rep, -, rfl, body⟩
  · exact moved.generation r
  · have before : (bodyState s p .setFailsafe).entry r = s.entry r := by
      rw [State.entry, bodyState_leases, State.entry]
    have after := setFailsafe_generation body r
    rw [before] at after
    simpa only [entry_answer, holds_answer] using after

theorem Happens.failsafe {c : Instr} (h : Happens s c t) (notFailsafe : ∀ p, c ≠ .setFailsafe p) (r : Resource) :
    (t.entry r).failsafe = (s.entry r).failsafe := by
  rcases h.entries with moved | ⟨p, u, tag, rep, own, -⟩
  · exact (moved r).1
  · exact absurd own (notFailsafe p)

end Owners

/-- Settles O60: each command's happening, and the beginning of a reset. -/
theorem ownersMoveTheirState : Obligations.OwnersMoveTheirState := by
  intro c s t h notEnd
  by_cases hc : IsHappening c
  · obtain ⟨t', run, does, -⟩ := exec_happens hc s
    rw [run] at h
    obtain rfl := Host.Outcome.next.inj h
    exact ⟨fun notTick => (does.steady (.inl notTick)).2, fun p other => does.number other,
      fun r => ⟨fun notFailsafe => does.failsafe notFailsafe r, does.generation r⟩⟩
  · rcases reset_of_not_isHappening hc with ⟨ev, rfl⟩ | ⟨pins, rfl⟩
    · obtain ⟨time, -, entries⟩ := reset_owned ev h .hp0
      exact ⟨fun _ => time, fun p _ => (reset_owned ev h p).2.1, fun r => ⟨fun _ => (entries r).1, .inl (entries r).2⟩⟩
    · exact absurd rfl (notEnd pins)

end Sys2Proof.Proofs
end


section
/-! PROOFS. Frames and their CHECK byte (R172, R173): a request frame reads back as itself. -/

namespace Sys2Proof.Proofs

open Sys2Proof.Machine Sys2Proof.Safety

/-! ### The CHECK byte -/

/-- A byte combined into a register that equals it leaves 0, which the shifts keep. -/
@[simp] theorem crcByte_self (r : Byte) : crcByte r r = 0 := by
  have shifted : crcShift 0 = 0 := by decide
  simp only [crcByte, BitVec.xor_self, BitVec.ofNat_eq_ofNat] at *
  simp only [shifted]

theorem crc_append_crc (body : List Byte) : crc (body ++ [crc body]) = 0 := by
  rw [crc, List.foldl_append]
  exact crcByte_self (crc body)

/-! ### The bytes of a request frame -/

/-- The bytes of a request frame before its CHECK byte. -/
def frameBody (f : Frame) : List Byte :=
  f.tag :: f.code :: BitVec.ofNat 8 (f.session.toNat / 256) :: BitVec.ofNat 8 f.session.toNat ::
    BitVec.ofNat 8 f.payload.length :: f.payload

theorem frameBytes_eq (f : Frame) : frameBytes f = frameBody f ++ [crc (frameBody f)] := by
  simp [frameBytes, frameBody, bytesOfNat]

@[simp] theorem length_frameBytes (f : Frame) : (frameBytes f).length = f.payload.length + 6 := by
  simp [frameBytes_eq, frameBody]

/-- The session number that the third and the fourth byte spell. -/
theorem sessionBytes (n : BitVec 16) : BitVec.ofNat 8 (n.toNat / 256) ++ BitVec.ofNat 8 n.toNat = n := by
  apply BitVec.eq_of_toNat_eq
  have bound := n.isLt
  rw [BitVec.toNat_append, Nat.shiftLeft_eq, Nat.mul_comm, ← Nat.two_pow_add_eq_or_of_lt (by simp; omega),
    BitVec.toNat_ofNat, BitVec.toNat_ofNat]
  omega

/-- The bytes of a request frame before its payload. -/
@[simp] theorem byteAt_frameBytes_len (f : Frame) : byteAt (frameBytes f) 4 = BitVec.ofNat 8 f.payload.length := by
  simp [frameBytes_eq, frameBody, byteAt]

theorem len_frameBytes {f : Frame} (short : f.payload.length ≤ 48) :
    (byteAt (frameBytes f) 4).toNat = f.payload.length := by
  simp
  omega

theorem wholeFrame_frameBytes {f : Frame} (short : f.payload.length ≤ 48) : WholeFrame (frameBytes f) := by
  rw [WholeFrame, length_frameBytes, len_frameBytes short]
  omega

theorem goodCheck_frameBytes (f : Frame) : GoodCheck (frameBytes f) := by
  have before : (frameBytes f).length - 1 = (frameBody f).length := by simp [frameBody]
  rw [GoodCheck, before, frameBytes_eq]
  simp [byteAt]

theorem spelled_frameBytes {f : Frame} (short : f.payload.length ≤ 48) : spelled (frameBytes f) = f := by
  rw [spelled, len_frameBytes short]
  have session : BitVec.ofNat 8 (f.session.toNat / 256) ++ BitVec.setWidth 8 f.session = f.session := by
    rw [← BitVec.ofNat_toNat, sessionBytes]
  simp [frameBytes_eq, frameBody, byteAt, session]

/-- Settles O55. The bytes of a number are read back by induction on how many they are. -/
theorem framesReadBack : Obligations.FramesReadBack :=
  ⟨fun f short => ⟨wholeFrame_frameBytes short, goodCheck_frameBytes f, spelled_frameBytes short⟩,
    fun k n => ⟨length_bytesOfNat k n, natOfBytes_bytesOfNat k n⟩, crc_append_crc, by simp [crc, crcByte, crcShift]⟩

end Sys2Proof.Proofs
end


section
/-! PROOFS. The Command Arbiter's turn (R161), and what passes while no command waits (R30, R47, R64). -/

namespace Sys2Proof.Proofs

open Sys2Proof.Machine Sys2Proof.Safety Sys2Proof.Laws

/-! ### The Arbiter's turn -/

theorem looksBefore_next (last : Port) : looksBefore last (nextPort last) = 0 := by cases last <;> rfl

theorem looksBefore_next_next (last : Port) : looksBefore last (nextPort (nextPort last)) = 1 := by cases last <;> rfl

theorem looksBefore_self (last : Port) : looksBefore last (nextPort (nextPort (nextPort last))) = 2 := by
  cases last <;> rfl

theorem port_in_turn (last q : Port) :
    q = nextPort last ∨ q = nextPort (nextPort last) ∨ q = nextPort (nextPort (nextPort last)) := by
  cases last <;> cases q <;> decide

section Turn

variable {s : State}

theorem isPending_iff (p : Port) : s.isPending p = true ↔ (s.port p).request ≠ none := by
  rw [State.isPending, Option.isSome_iff_ne_none]

/-- The Arbiter's next port is PENDING, and it looks at no other PENDING port before it. -/
theorem arbiterChoice_eq_some {p : Port} (h : s.arbiterChoice = some p) :
    s.isPending p = true ∧ ∀ q, q ≠ p → s.isPending q = true → looksBefore s.servedLast p < looksBefore s.servedLast q := by
  have first := looksBefore_next s.servedLast
  have second := looksBefore_next_next s.servedLast
  have third := looksBefore_self s.servedLast
  simp only [State.arbiterChoice] at h
  split at h
  next pend =>
    obtain rfl := Option.some.inj h
    refine ⟨pend, fun q other _ => ?_⟩
    rcases port_in_turn s.servedLast q with rfl | rfl | rfl
    · exact absurd rfl other
    · omega
    · omega
  next idle =>
    split at h
    next pend =>
      obtain rfl := Option.some.inj h
      refine ⟨pend, fun q other pending => ?_⟩
      rcases port_in_turn s.servedLast q with rfl | rfl | rfl
      · exact absurd pending idle
      · exact absurd rfl other
      · omega
    next idle' =>
      split at h
      next pend =>
        obtain rfl := Option.some.inj h
        refine ⟨pend, fun q other pending => ?_⟩
        rcases port_in_turn s.servedLast q with rfl | rfl | rfl
        · exact absurd pending idle
        · exact absurd pending idle'
        · exact absurd rfl other
      next => exact absurd h (Option.some_ne_none p).symm

theorem arbiterChoice_eq_none : s.arbiterChoice = none ↔ ∀ p, s.isPending p = false := by
  refine ⟨fun h p => ?_, fun h => by simp [State.arbiterChoice, h]⟩
  simp only [State.arbiterChoice] at h
  split at h
  next => exact absurd h (Option.some_ne_none _)
  next idle =>
    split at h
    next => exact absurd h (Option.some_ne_none _)
    next idle' =>
      rcases port_in_turn s.servedLast p with rfl | rfl | rfl
      · simpa using idle
      · simpa using idle'
      · simpa using h

theorem taking_eq_some_iff {p : Port} {f : Frame} :
    s.taking p = some f ↔ s.inReset = none ∧ s.arbiterChoice = some p ∧ (s.port p).request = some f := by
  unfold State.taking
  split
  next h => simp [h]
  next h =>
    refine ⟨nofun, fun ⟨awake, choice, _⟩ => absurd ⟨awake, choice⟩ h⟩

end Turn

/-- Settles O5. -/
theorem arbiterTakesInTurn : Obligations.ArbiterTakesInTurn := by
  intro s awake ⟨p, pending⟩
  obtain ⟨p', choice⟩ : ∃ p', s.arbiterChoice = some p' := by
    refine Option.ne_none_iff_exists'.1 fun none => ?_
    have idle := arbiterChoice_eq_none.1 none p
    rw [← Bool.not_eq_true, isPending_iff] at idle
    exact idle pending
  obtain ⟨pend, first⟩ := arbiterChoice_eq_some choice
  obtain ⟨f, request⟩ := Option.ne_none_iff_exists'.1 ((isPending_iff p').1 pend)
  refine ⟨p', f, taking_eq_some_iff.2 ⟨awake, choice, request⟩, request, fun q g takes => ?_, fun q other pending => ?_⟩
  · exact (Option.some.inj (choice.symm.trans (taking_eq_some_iff.1 takes).2.1)).symm
  · exact first q other ((isPending_iff q).2 pending)

/-! ### The command that takes a request -/

theorem requestOf_requestCode (rq : Request) : requestOf (requestCode rq) = some rq := by cases rq <;> rfl

theorem takingOf_commandOf (p : Port) {f : Frame} {rq : Request} (h : f.code = requestCode rq) :
    takingOf p f = commandOf p rq := by
  unfold takingOf
  rw [h, requestOf_requestCode]
  cases rq <;> rfl

theorem takingOf_unknown (p : Port) {f : Frame} (h : ∀ rq, f.code ≠ requestCode rq) :
    takingOf p f = .unknownCodeRequest p := by
  have unknown : requestOf f.code = none := by
    rw [requestOf, List.find?_eq_none]
    exact fun rq _ same => h rq (of_decide_eq_true same).symm
  rw [takingOf, unknown]

theorem arbiterCommand_of_taking {s : State} {p : Port} {f : Frame} (h : s.taking p = some f) :
    s.arbiterCommand = some (takingOf p f) := by
  obtain ⟨_, choice, request⟩ := taking_eq_some_iff.1 h
  simp only [State.arbiterCommand, choice, request, Option.map_some]

theorem arbiterCommand_of_no_request {s : State} (h : ∀ p, (s.port p).request = none) : s.arbiterCommand = none := by
  rw [State.arbiterCommand, arbiterChoice_eq_none.2 fun p => by rw [State.isPending, h p]; rfl]

/-! ### One millisecond -/

theorem openFields_millisecond {s : State} {p : Port} {o : OpenSession} (h : s.openFields p = some o) :
    s.millisecond.openFields p = some { o with remaining := o.remaining - 1 } := by
  rw [openFields_eq_some_iff] at h ⊢
  rw [millisecond_session, countKeepalive, h]

theorem lapse_mem_timersOut (s : State) (p : Port) : Instr.lapse p ∈ s.timersOut ↔ s.keepaliveOut p = true := by
  have listed : p ∈ allPorts := by cases p <;> decide
  simp only [State.timersOut, List.mem_append, List.mem_map, List.mem_filter, reduceCtorEq, and_false, exists_false,
    or_false, Instr.lapse.injEq]
  refine ⟨?_, fun out => .inl ⟨p, ⟨listed, out⟩, rfl⟩⟩
  rintro (⟨q, ⟨_, out⟩, rfl⟩ | stretch)
  · exact out
  · split at stretch <;> simp at stretch

theorem offerExpiry_mem_timersOut {s : State} {o : Offer} (mem : o ∈ s.offers) (out : o.remaining = 0) :
    Instr.offerExpiry o.id ∈ s.timersOut := by
  have here : o ∈ s.offers.filter fun o => decide (o.remaining = 0) := List.mem_filter.2 ⟨mem, decide_eq_true out⟩
  exact List.mem_append_left _ (List.mem_append_left _ (List.mem_append_right _ (List.mem_map_of_mem here)))

theorem claimExpiry_mem_timersOut {s : State} {w : WaitEntry} (mem : w ∈ s.waitList) (out : w.remaining = 0) :
    Instr.claimExpiry w.ticket ∈ s.timersOut := by
  have here : w ∈ s.waitList.filter fun w => decide (w.remaining = 0) := List.mem_filter.2 ⟨mem, decide_eq_true out⟩
  exact List.mem_append_left _ (List.mem_append_right _ (List.mem_map_of_mem here))

/-- Settles O2. -/
theorem idleStepLetsTimePass : Obligations.IdleStepLetsTimePass := by
  intro s empty
  refine ⟨s.alone, by rw [step, empty], fun asleep => if_pos asleep, fun p f takes => ?_, fun awake idle => ?_⟩
  · refine ⟨takingOf p f, ?_, fun rq => takingOf_commandOf p, takingOf_unknown p⟩
    rw [State.alone, if_neg (not_not.2 (taking_eq_some_iff.1 takes).1), arbiterCommand_of_taking takes]
  · rw [State.alone, if_neg (not_not.2 awake), arbiterCommand_of_no_request idle]
    refine ⟨fun p o opened => ⟨openFields_millisecond opened, ?_⟩, rfl, fun o mem out => ?_, rfl, fun w mem out => ?_,
      rfl, ⟨rfl, rfl⟩, ⟨rfl, rfl, rfl⟩, rfl, rfl, rfl⟩
    · rw [lapse_mem_timersOut, State.keepaliveOut, openFields_millisecond opened, decide_eq_true_iff]
      exact Nat.sub_eq_zero_iff_le
    · exact offerExpiry_mem_timersOut (o := { o with remaining := o.remaining - 1 }) (List.mem_map_of_mem mem) (Nat.sub_eq_zero_of_le out)
    · exact claimExpiry_mem_timersOut (w := { w with remaining := w.remaining - 1 }) (List.mem_map_of_mem mem) (Nat.sub_eq_zero_of_le out)

end Sys2Proof.Proofs
end


section
/-! PROOFS. What single bytes do at a port: a frame that arrives, completes or is lost (R156 to R158). -/

namespace Sys2Proof.Proofs

open Sys2Proof.Machine Sys2Proof.Safety Sys2Proof.Laws

/-! ### A state with another port unit -/

/-- The state with the Host Port Unit `u` at port `p`. -/
def setPort (s : State) (p : Port) (u : PortUnit) : State := s.withPort p fun _ => u

section SetPort

variable (s : State) (p : Port) (u v : PortUnit) (f : PortUnit → PortUnit)

@[simp] theorem setPort_port : (setPort s p u).port p = u := by simp [setPort]

@[simp] theorem setPort_attn : (setPort s p u).attn = s.attn := by simp [setPort]

@[simp] theorem setPort_force : (setPort s p u).force = s.force := by simp [setPort]

@[simp] theorem setPort_inReset : (setPort s p u).inReset = s.inReset := by simp [setPort]

@[simp] theorem setPort_i2cAddress : (setPort s p u).i2cAddress = s.i2cAddress := by simp [setPort]

theorem withPort_eq_setPort : s.withPort p f = setPort s p (f (s.port p)) := by cases p <;> rfl

@[simp] theorem setPort_withPort : (setPort s p u).withPort p f = setPort s p (f u) := by
  rw [setPort, withPort_withPort]
  rfl

@[simp] theorem setPort_setPort : setPort (setPort s p u) p v = setPort s p v := setPort_withPort s p u fun _ => v

theorem setPort_self : setPort s p (s.port p) = s := by cases p <;> rfl

end SetPort

/-- A command that leaves another unit at one port changes that port only. -/
theorem leaves_of_setPort {s : State} {c : Instr} {p : Port} {u : PortUnit} {f : PortUnit → PortUnit}
    (run : exec c s = .next (setPort s p u)) (same : u = f (s.port p)) :
    ∃ t, exec c s = .next t ∧ OnlyPort s t p f ∧ BesidePorts s t := by
  obtain ⟨here, others, turn⟩ := withPort_onlyPort s p fun _ => u
  exact ⟨_, run, ⟨here.trans same, others, turn⟩, withPort_beside s p _⟩

theorem awake_of_awake {s : State} (awake : s.inReset = none) (f : State → State) : s.awake f = .next (f s) := by
  rw [State.awake, if_pos awake]

/-! ### The bytes that have arrived -/

theorem addByte_eq_arriving (b : Byte) (u : PortUnit) : addByte b u.state = arriving u (arrived u ++ [b]) := by
  unfold arriving arrived
  cases u.state with
  | idle => rfl
  | answered r => rfl
  | receiving bytes r => rfl
  | pending f incoming => cases incoming <;> rfl

/-- The port with the bytes of a frame arrived, whatever had arrived before. -/
def withArrived (u : PortUnit) (bytes : List Byte) : PortUnit := { u with state := arriving u bytes }

section Arrived

variable (u : PortUnit) (bytes more : List Byte)

@[simp] theorem incomingOf_arriving : incomingOf (arriving u bytes) = some bytes := by
  unfold arriving
  cases u.state <;> rfl

@[simp] theorem arrived_withArrived : arrived (withArrived u bytes) = bytes := by
  unfold withArrived arrived arriving
  cases u.state <;> rfl

@[simp] theorem withArrived_withArrived : withArrived (withArrived u bytes) more = withArrived u more := by
  unfold withArrived arriving
  cases u.state <;> rfl

theorem dropIncoming_arriving : dropIncoming (arriving u bytes) = dropIncoming u.state := by
  unfold arriving
  cases u.state with
  | idle => rfl
  | answered r => rfl
  | receiving incoming r => cases r <;> rfl
  | pending f incoming => rfl

theorem afterLoss_eq : afterLoss u = setLink .quiet (loseFrame u) := by
  obtain ⟨st, _, _, _, _, _, _, _, _, _⟩ := u
  cases st with
  | idle => rfl
  | answered r => rfl
  | receiving bytes r => cases r <;> rfl
  | pending f incoming => rfl

theorem loseFrame_withArrived : loseFrame (withArrived u bytes) = loseFrame u := by
  simp only [loseFrame, withArrived, dropIncoming_arriving]

end Arrived

theorem arrived_of_incomingOf {u : PortUnit} {bytes : List Byte} (h : incomingOf u.state = some bytes) :
    arrived u = bytes := by
  unfold arrived
  revert h
  cases u.state with
  | idle => exact nofun
  | answered r => exact nofun
  | receiving incoming r => exact Option.some.inj
  | pending f incoming => cases incoming with
    | none => exact nofun
    | some incoming => exact Option.some.inj

theorem incomingOf_of_arrived {u : PortUnit} (h : arrived u ≠ []) : incomingOf u.state = some (arrived u) := by
  unfold arrived at h ⊢
  revert h
  cases u.state with
  | idle => exact absurd rfl
  | answered r => exact absurd rfl
  | receiving incoming r => exact fun _ => rfl
  | pending f incoming => cases incoming with
    | none => exact absurd rfl
    | some incoming => exact fun _ => rfl

theorem incomingOf_of_noFrame {u : PortUnit} (h : NoFrameArriving u) : incomingOf u.state = none := by
  obtain ⟨_, _, ⟨f, state⟩ | state | ⟨r, state⟩⟩ := h <;> rw [state] <;> rfl

theorem arrived_of_noFrame {u : PortUnit} (h : NoFrameArriving u) : arrived u = [] := by
  by_contra some
  exact Option.some_ne_none _ ((incomingOf_of_arrived some).symm.trans (incomingOf_of_noFrame h))

theorem takesBytes_of_noFrame {u : PortUnit} (h : NoFrameArriving u) : takesBytes u.link = false := by
  obtain ⟨writing, judging, _⟩ := h
  unfold takesBytes
  split
  next link => exact absurd link writing
  next bytes link => exact absurd link (judging bytes)
  all_goals rfl

/-! ### Whole, unfinished and overlong frames (R156) -/

/-- The bytes are the beginning of a request frame that is not yet whole. -/
def Unfinished (bytes : List Byte) : Prop :=
  bytes.length < 5 ∨ ((byteAt bytes 4).toNat ≤ 48 ∧ bytes.length < (byteAt bytes 4).toNat + 6)

theorem byteAt_append {bytes : List Byte} {i : Nat} (h : i < bytes.length) (more : List Byte) :
    byteAt (bytes ++ more) i = byteAt bytes i := List.getD_append _ _ _ _ h

section Frames

variable {bytes more : List Byte} {b : Byte}

theorem Unfinished.of_append (h : Unfinished (bytes ++ more)) : Unfinished bytes := by
  unfold Unfinished at *
  by_cases len : bytes.length < 5
  · exact .inl len
  · rw [byteAt_append (by omega), List.length_append] at h
    omega

theorem unfinished_of_wholeFrame (h : WholeFrame (bytes ++ b :: more)) : Unfinished bytes := by
  unfold Unfinished WholeFrame at *
  by_cases len : bytes.length < 5
  · exact .inl len
  · rw [byteAt_append (by omega), List.length_append, List.length_cons] at h
    omega

theorem frameFull_iff : frameFull bytes = true ↔ 5 ≤ bytes.length ∧ bytes.length = (byteAt bytes 4).toNat + 6 := by
  rw [frameFull, decide_eq_true_iff, frameLength, byteAt]
  by_cases len : 4 < bytes.length
  · rw [List.getElem?_eq_getElem len, List.getD_eq_getElem _ _ len, Option.map_some, Option.some.injEq]
    omega
  · rw [List.getElem?_eq_none (by omega)]
    simp only [Option.map_none, reduceCtorEq, false_iff]
    omega

theorem Unfinished.not_full (h : Unfinished bytes) : frameFull bytes = false := by
  rw [← Bool.not_eq_true, frameFull_iff]
  unfold Unfinished at h
  omega

theorem full_of_wholeFrame (h : WholeFrame bytes) : frameFull bytes = true := by
  rw [frameFull_iff]
  unfold WholeFrame at h
  omega

/-- A frame's bytes are whole, or go on, when no LEN byte above 48 has just arrived. -/
def LenFits (bytes : List Byte) : Prop := ¬(bytes.length = 5 ∧ 48 < (byteAt bytes 4).toNat)

theorem Unfinished.lenFits (h : Unfinished bytes) : LenFits bytes := by
  unfold Unfinished LenFits at *
  omega

theorem lenFits_of_wholeFrame (h : WholeFrame bytes) : LenFits bytes := by
  unfold WholeFrame LenFits at *
  omega

end Frames

section Units

variable {u : PortUnit} {bytes : List Byte}

theorem incomingFull_withArrived : incomingFull (withArrived u bytes) = frameFull bytes := by
  simp only [incomingFull, withArrived, incomingOf_arriving]

theorem badLenByte_withArrived :
    badLenByte (withArrived u bytes) = decide (bytes.length = 5 ∧ 48 < (byteAt bytes 4).toNat) := by
  simp only [badLenByte, withArrived, incomingOf_arriving, Config.maxRequestPayload]

theorem incomingFull_of_unfinished (h : Unfinished (arrived u)) : incomingFull u = false := by
  unfold incomingFull
  split
  next => rfl
  next incoming here => rw [← arrived_of_incomingOf here, h.not_full]

end Units

/-! ### The completion of a frame (R157) -/

/-- The port after a whole frame completed at it, with the attention output and the force flag of that moment. -/
def frameTaken (attn force : Bool) (u : PortUnit) (frame : List Byte) (link : Link) : PortUnit :=
  match u.request with
  | some f =>
    { u with
      state := .pending f none, overrunLatch := true, link := link
      overruns := if u.overruns < 255 then u.overruns + 1 else u.overruns }
  | none => { completed u frame attn force with link := link }

theorem afterFrame_eq (s : State) (p : Port) (frame : List Byte) (link : Link) :
    afterFrame s p frame link = frameTaken (s.attn.get p) s.force.asserted (s.port p) frame link := rfl

theorem checkCorrect_iff {frame : List Byte} (h : frame ≠ []) :
    checkCorrect frame = true ↔ byteAt frame (frame.length - 1) = crc (frame.take (frame.length - 1)) := by
  rw [checkCorrect, decide_eq_true_iff, List.dropLast_eq_take, List.getLast?_eq_getElem?,
    List.getElem?_eq_getElem (by have := List.length_pos_iff.2 h; omega), Option.some.injEq, byteAt,
    List.getD_eq_getElem _ _ (by have := List.length_pos_iff.2 h; omega), eq_comm]

theorem frameOf_eq_spelled {frame : List Byte} (h : WholeFrame frame) : frameOf frame = spelled frame := by
  have len : (frame.drop 5).length - 1 = (byteAt frame 4).toNat := by
    rw [List.length_drop]
    unfold WholeFrame at h
    omega
  rw [frameOf, spelled, List.dropLast_eq_take, len]

theorem placeInPort_of_not_stretching {u : PortUnit} (link : isStretching u.link = false) (idle : u.state = .idle)
    (r : Response) : placeInPort r u = { u with state := .answered r, overrunLatch := false } := by
  simp only [placeInPort, idle]
  split
  next here => simp [isStretching, here] at link
  all_goals rfl

/-- A frame that found no request PENDING: its CHECK byte decides. -/
theorem completeFrame_received (s : State) (p : Port) {u : PortUnit} {frame : List Byte} {r : Option Response}
    (whole : WholeFrame frame) (state : u.state = .receiving frame r) (link : isStretching u.link = false) :
    (setPort s p u).completeFrame p = setPort s p (completed u frame (s.attn.get p) s.force.asserted) := by
  have some : frame ≠ [] := List.length_pos_iff.1 (by unfold WholeFrame at whole; omega)
  simp only [State.completeFrame, setPort_port, state, completed]
  by_cases good : byteAt frame (frame.length - 1) = crc (frame.take (frame.length - 1))
  · rw [if_pos ((checkCorrect_iff some).2 good), if_pos good, setPort_withPort, frameOf_eq_spelled whole]
  · rw [if_neg (good ∘ (checkCorrect_iff some).1), if_neg good, setPort_withPort, State.answer, setPort_withPort,
      placeInPort_of_not_stretching]
    · simp only [State.response, setPort_port, setPort_attn, setPort_force, bare, responseTag]
    · exact link
    · rfl

theorem completed_withArrived (u : PortUnit) (bytes frame : List Byte) (attn force : Bool) :
    completed (withArrived u bytes) frame attn force = completed u frame attn force := by
  unfold completed
  split <;> rfl

theorem completed_link (u : PortUnit) (frame : List Byte) (attn force : Bool) :
    { completed u frame attn force with link := u.link } = completed u frame attn force := by
  unfold completed
  split <;> rfl

/-- A frame whose last byte has arrived completes: an overrun while a request is PENDING, else by its CHECK byte. -/
theorem completeFrame_withArrived (s : State) (p : Port) {u : PortUnit} {frame : List Byte} (whole : WholeFrame frame)
    (link : isStretching u.link = false) :
    (setPort s p (withArrived u frame)).completeFrame p =
      setPort s p (frameTaken (s.attn.get p) s.force.asserted u frame u.link) := by
  have received {r : Option Response} (state : arriving u frame = .receiving frame r) (none : u.request = none) :
      (setPort s p (withArrived u frame)).completeFrame p =
        setPort s p (frameTaken (s.attn.get p) s.force.asserted u frame u.link) := by
    rw [completeFrame_received (u := withArrived u frame) s p whole state link, completed_withArrived, frameTaken, none]
    simp only [completed_link]
  cases state : u.state with
  | pending f incoming =>
    simp only [State.completeFrame, setPort_port, withArrived, arriving, state, setPort_withPort, overrun, frameTaken,
      PortUnit.request, satInc]
  | idle => exact received (by rw [arriving, state]) (by rw [PortUnit.request, state])
  | answered r => exact received (by rw [arriving, state]) (by rw [PortUnit.request, state])
  | receiving incoming r => exact received (by rw [arriving, state]) (by rw [PortUnit.request, state])

section Taken

variable (attn force : Bool) (u : PortUnit) (bytes frame : List Byte) (link : Link)

/-- What completes does not depend on the bytes that had arrived before. -/
@[simp] theorem frameTaken_withArrived :
    frameTaken attn force (withArrived u bytes) frame link = frameTaken attn force u frame link := by
  have request : (withArrived u bytes).request = u.request := by
    simp only [PortUnit.request, withArrived, arriving]
    cases u.state <;> rfl
  rw [frameTaken, request, frameTaken, completed_withArrived]
  rfl

@[simp] theorem frameTaken_setLink (link' : Link) :
    frameTaken attn force (setLink link' u) frame link = frameTaken attn force u frame link := by
  simp only [frameTaken, PortUnit.request, completed, setLink]
  split
  · rfl
  · split <;> rfl

theorem frameTaken_driven : (frameTaken attn force u frame link).driven = u.driven := by
  simp only [frameTaken, completed]
  split
  · rfl
  · split <;> rfl

theorem frameTaken_link : (frameTaken attn force u frame link).link = link := by
  rw [frameTaken]
  split <;> rfl

end Taken

/-! ### The outputs of the link -/

/-- The port after it sent more bytes and gave more acknowledgements. -/
def giving (sent : List Byte) (acks : List Bool) (u : PortUnit) : PortUnit :=
  { u with sent := u.sent ++ sent, acks := u.acks ++ acks }

section Giving

variable (sent sent' : List Byte) (acks acks' : List Bool) (u : PortUnit)

@[simp] theorem giving_nil : giving [] [] u = u := by simp [giving]

theorem giving_giving : giving sent' acks' (giving sent acks u) = giving (sent ++ sent') (acks ++ acks') u := by
  simp [giving]

theorem sendZero_eq_giving : sendZero u = giving [0] [] u := by simp [giving, sendZero]

theorem giveAck_eq_giving (acknowledged : Bool) : giveAck acknowledged u = giving [] [acknowledged] u := by
  simp [giving, giveAck]

@[simp] theorem arrived_giving : arrived (giving sent acks u) = arrived u := rfl

@[simp] theorem giving_link : (giving sent acks u).link = u.link := rfl

theorem loseFrame_giving : loseFrame (giving sent acks u) = giving sent acks (loseFrame u) := rfl

theorem setLink_giving (link : Link) : setLink link (giving sent acks u) = giving sent acks (setLink link u) := rfl

theorem frameTaken_giving (attn force : Bool) (frame : List Byte) (link : Link) :
    frameTaken attn force (giving sent acks u) frame link = giving sent acks (frameTaken attn force u frame link) := by
  simp only [frameTaken, PortUnit.request, completed, giving]
  split
  · rfl
  · split <;> rfl

end Giving

/-! ### Several bytes -/

/-- The port after bytes of a frame have arrived. -/
def fed (u : PortUnit) (bytes : List Byte) : PortUnit :=
  { u with state := if bytes = [] then u.state else arriving u (arrived u ++ bytes) }

section Fed

variable (u : PortUnit) (b : Byte) (bytes : List Byte)

@[simp] theorem fed_nil : fed u [] = u := rfl

theorem fed_cons : fed u (b :: bytes) = withArrived u (arrived u ++ b :: bytes) := rfl

theorem arrived_fed : arrived (fed u bytes) = arrived u ++ bytes := by
  cases bytes with
  | nil => simp
  | cons b bytes => rw [fed_cons, arrived_withArrived]

theorem loseFrame_fed : loseFrame (fed u bytes) = loseFrame u := by
  cases bytes with
  | nil => rfl
  | cons b bytes => rw [fed_cons, loseFrame_withArrived]

theorem frameTaken_fed (attn force : Bool) (frame : List Byte) (link : Link) :
    frameTaken attn force (fed u bytes) frame link = frameTaken attn force u frame link := by
  cases bytes with
  | nil => rfl
  | cons b bytes => rw [fed_cons, frameTaken_withArrived]

theorem fed_giving (sent : List Byte) (acks : List Bool) : fed (giving sent acks u) bytes = giving sent acks (fed u bytes) := rfl

theorem fed_step : fed (withArrived u (arrived u ++ [b])) bytes = fed u (b :: bytes) := by
  cases bytes with
  | nil => rfl
  | cons c bytes =>
    rw [fed_cons, fed_cons, arrived_withArrived, withArrived_withArrived, List.append_assoc, List.singleton_append]

end Fed

end Sys2Proof.Proofs
end


section
/-! PROOFS. SPI transactions (R164 to R166). -/

namespace Sys2Proof.Proofs

open Sys2Proof.Machine Sys2Proof.Safety Sys2Proof.Laws

/-! ### The judgement of a transaction that began with 0xFF (R164) -/

/-- The port after the bytes of a transaction that began with 0xFF: still to be judged before the fourth byte, and judged by
the first four from then on. -/
def judged (bytes : List Byte) (u : PortUnit) : PortUnit :=
  if bytes.length < 4 then setLink (.judging bytes) u
  else if bytes.take 4 = [0xFF, 0xFF, 0xFF, 0xFF] then setLink .ignoring (afterResync u)
  else setLink .ignoring (afterFailedStart u)

section Judged

variable {bytes more : List Byte}

theorem judged_of_lt (few : bytes.length < 4) (u : PortUnit) : judged bytes u = setLink (.judging bytes) u := if_pos few

theorem judgeStart_eq_judged (head : bytes.head? = some 0xFF) (few : bytes.length ≤ 4) (u : PortUnit) :
    judgeStart bytes u = judged bytes u := by
  rw [judgeStart, judged]
  by_cases still : bytes.length < 4
  · rw [if_pos ⟨head, still⟩, if_pos still]
  · rw [if_neg fun both => still both.2, if_neg still, List.take_of_length_le few]
    split <;> rfl

theorem judged_congr (h : ¬bytes.length < 4) (k : ¬more.length < 4) (same : bytes.take 4 = more.take 4) (u : PortUnit) :
    judged bytes u = judged more u := by
  rw [judged, if_neg h, judged, if_neg k, same]

theorem judged_ignored (h : ¬bytes.length < 4) (u : PortUnit) : takesBytes (judged bytes u).link = false := by
  rw [judged, if_neg h]
  split <;> rfl

theorem judged_giving (bytes : List Byte) (sent : List Byte) (acks : List Bool) (u : PortUnit) :
    judged bytes (giving sent acks u) = giving sent acks (judged bytes u) := by
  unfold judged
  split
  · rfl
  · split <;> rfl

theorem judged_setLink (bytes : List Byte) (link : Link) (u : PortUnit) :
    judged bytes (setLink link u) = judged bytes u := by
  unfold judged
  split
  · rfl
  · split <;> rfl

end Judged

section Bytes

variable (s : State) (p : Port) {u : PortUnit} {b : Byte}

theorem spiFrameByte_setPort (b : Byte) :
    (setPort s p u).spiFrameByte p b =
      let u' := withArrived u (arrived u ++ [b])
      if badLenByte u' then setPort s p (setLink .ignoring (loseFrame u'))
      else if incomingFull u' then (setPort s p (setLink .ignoring u')).completeFrame p
      else setPort s p u' := by
  simp only [State.spiFrameByte, setPort_withPort, setPort_port, addByte_eq_arriving, withArrived]
  rfl

theorem spiByte_writing (link : u.link = .writing) (b : Byte) :
    (setPort s p u).spiByte p b = ((setPort s p u).spiFrameByte p b).withPort p sendZero := by
  simp only [State.spiByte, setPort_port, link]

/-- A byte of a frame that goes on. -/
theorem spiByte_unfinished (link : u.link = .writing) (goes : Unfinished (arrived u ++ [b])) :
    (setPort s p u).spiByte p b = setPort s p (giving [0] [] (withArrived u (arrived u ++ [b]))) := by
  rw [spiByte_writing s p link, spiFrameByte_setPort]
  simp only [badLenByte_withArrived, incomingFull_withArrived, goes.not_full]
  rw [if_neg (goes.lenFits ∘ of_decide_eq_true), if_neg Bool.false_ne_true, setPort_withPort, sendZero_eq_giving]

/-- The CHECK byte of a frame completes it. -/
theorem spiByte_last (link : u.link = .writing) (whole : WholeFrame (arrived u ++ [b])) :
    (setPort s p u).spiByte p b =
      setPort s p (giving [0] [] (frameTaken (s.attn.get p) s.force.asserted u (arrived u ++ [b]) .ignoring)) := by
  have completes := completeFrame_withArrived s p (u := setLink .ignoring u) whole rfl
  rw [frameTaken_setLink] at completes
  rw [spiByte_writing s p link, spiFrameByte_setPort]
  simp only [badLenByte_withArrived, incomingFull_withArrived, full_of_wholeFrame whole]
  rw [if_neg (lenFits_of_wholeFrame whole ∘ of_decide_eq_true), if_pos trivial, ← sendZero_eq_giving]
  exact (congrArg (fun t : State => t.withPort p sendZero) completes).trans (setPort_withPort s p _ sendZero)

/-- A LEN byte above 48 loses the frame. -/
theorem spiByte_overlong (link : u.link = .writing) (len : (arrived u).length = 4) (long : 48 < b.toNat) :
    (setPort s p u).spiByte p b = setPort s p (giving [0] [] (setLink .ignoring (loseFrame u))) := by
  have bad : byteAt (arrived u ++ [b]) 4 = b := by simp [byteAt, ← len]
  rw [spiByte_writing s p link, spiFrameByte_setPort]
  simp only [badLenByte_withArrived, bad]
  rw [if_pos (decide_eq_true ⟨by simp [len], long⟩), setPort_withPort, loseFrame_withArrived, sendZero_eq_giving]

/-- The bytes of a transaction whose rest is ignored. -/
theorem spiBytes_ignored (bytes : List Byte) (ignored : takesBytes u.link = false) :
    bytes.foldl (State.spiByte p) (setPort s p u) = setPort s p (giving (List.replicate bytes.length 0) [] u) := by
  induction bytes generalizing u with
  | nil => simp
  | cons b bytes ih =>
    rw [List.foldl_cons, spiByte_ignored b (by rwa [setPort_port]), setPort_withPort, sendZero_eq_giving, ih (by exact ignored),
      giving_giving]
    rfl

/-- The bytes of a frame that goes on. -/
theorem spiBytes_unfinished (bytes : List Byte) (link : u.link = .writing) (goes : Unfinished (arrived u ++ bytes)) :
    bytes.foldl (State.spiByte p) (setPort s p u) =
      setPort s p (giving (List.replicate bytes.length 0) [] (fed u bytes)) := by
  induction bytes generalizing u with
  | nil => simp
  | cons b bytes ih =>
    rw [List.append_cons] at goes
    rw [List.foldl_cons, spiByte_unfinished s p link goes.of_append, ih (by exact link) (by simpa using goes), fed_giving,
      fed_step, giving_giving]
    rfl

/-- The rest of a frame, up to its CHECK byte, and bytes that follow it. -/
theorem spiBytes_whole {bytes : List Byte} (some : bytes ≠ []) (extra : List Byte) (link : u.link = .writing)
    (whole : WholeFrame (arrived u ++ bytes)) :
    (bytes ++ extra).foldl (State.spiByte p) (setPort s p u) =
      setPort s p
        (giving (List.replicate (bytes.length + extra.length) 0) []
          (frameTaken (s.attn.get p) s.force.asserted u (arrived u ++ bytes) .ignoring)) := by
  obtain ⟨before, last, rfl⟩ := (List.eq_nil_or_concat bytes).resolve_left some
  rw [List.concat_eq_append, ← List.append_assoc] at *
  have all : WholeFrame (arrived (giving (List.replicate before.length 0) [] (fed u before)) ++ [last]) := by
    rwa [arrived_giving, arrived_fed]
  have ignored : takesBytes (frameTaken (s.attn.get p) s.force.asserted u (arrived u ++ before ++ [last]) .ignoring).link =
      false := by rw [frameTaken_link]; rfl
  rw [List.foldl_append, List.foldl_append, spiBytes_unfinished s p before link (unfinished_of_wholeFrame whole),
    List.foldl_cons, List.foldl_nil, spiByte_last s p (by exact link) all, arrived_giving, arrived_fed, frameTaken_giving,
    frameTaken_fed, giving_giving, spiBytes_ignored s p extra (by exact ignored), giving_giving, List.length_append,
    List.replicate_add, List.replicate_add]
  rfl

/-- A frame whose LEN byte is above 48. -/
theorem spiBytes_overlong {bytes : List Byte} (link : u.link = .writing) (none : arrived u = [])
    (enough : 5 ≤ bytes.length) (long : 48 < (byteAt bytes 4).toNat) :
    bytes.foldl (State.spiByte p) (setPort s p u) =
      setPort s p (giving (List.replicate bytes.length 0) [] (setLink .ignoring (loseFrame u))) := by
  have split : bytes = bytes.take 4 ++ byteAt bytes 4 :: bytes.drop 5 := by
    rw [byteAt, List.getD_eq_getElem _ _ (by omega), List.getElem_cons_drop, List.take_append_drop]
  have four : (bytes.take 4).length = 4 := by rw [List.length_take]; omega
  have goes : Unfinished (arrived u ++ bytes.take 4) := by
    rw [none, List.nil_append]
    exact .inl (by omega)
  have len : (arrived (giving (List.replicate (bytes.take 4).length 0) [] (fed u (bytes.take 4)))).length = 4 := by
    rw [arrived_giving, arrived_fed, none, List.nil_append, four]
  have count : bytes.length = (bytes.take 4).length + ([byteAt bytes 4].length + (bytes.drop 5).length) := by
    rw [four, List.length_drop, List.length_singleton]
    omega
  conv_lhs => rw [split]
  rw [List.foldl_append, spiBytes_unfinished s p _ link goes, List.foldl_cons, spiByte_overlong s p (by exact link) len long,
    loseFrame_giving, loseFrame_fed, spiBytes_ignored s p _ (by rfl), setLink_giving, giving_giving, giving_giving, count,
    List.replicate_add, List.replicate_add]
  rfl

/-- The bytes of a transaction that began with 0xFF: judged at the fourth, and what follows is ignored. -/
theorem spiBytes_judged {bytes had : List Byte} (link : u.link = .judging had) (few : had.length < 4)
    (start : (had ++ bytes).head? = some 0xFF) :
    bytes.foldl (State.spiByte p) (setPort s p u) =
      setPort s p (giving (List.replicate bytes.length 0) [] (judged (had ++ bytes) u)) := by
  induction bytes generalizing u had with
  | nil =>
    rw [List.append_nil, judged, if_pos few, setLink, ← link]
    simp
  | cons b bytes ih =>
    have joined : had ++ b :: bytes = had ++ [b] ++ bytes := List.append_cons had b bytes
    have head : (had ++ [b]).head? = some 0xFF := by
      rw [← start]
      cases had <;> rfl
    have len : (had ++ [b]).length = had.length + 1 := by simp
    have onward := judgeStart_eq_judged head (by omega) u
    rw [List.foldl_cons, spiByte_judging b (by rwa [setPort_port]), setPort_withPort, Function.comp_apply, sendZero_eq_giving,
      onward, joined]
    by_cases still : (had ++ [b]).length < 4
    · rw [judged_of_lt still, ih (had := had ++ [b]) (by rfl) still (by rwa [← joined]), judged_giving, judged_setLink,
        giving_giving]
      rfl
    · have four : (had ++ [b] ++ bytes).take 4 = (had ++ [b]).take 4 := by
        rw [List.take_append_of_le_length (by omega)]
      rw [judged_congr still (by rw [List.length_append]; omega) four.symm,
        spiBytes_ignored s p bytes (by exact judged_ignored (by rw [List.length_append]; omega) u), giving_giving]
      rfl

end Bytes

/-! ### The select (R164, R165) -/

section Select

variable (s : State) (p : Port)

theorem spiEnd_writing (u : PortUnit) (link : u.link = .writing) :
    (setPort s p u).spiEnd p = setPort s p (selectHigh (loseFrame u)) := by
  simp only [State.spiEnd, setPort_port, link, setPort_withPort]

theorem spiEnd_of_judging (u : PortUnit) {bytes : List Byte} (link : u.link = .judging bytes) :
    (setPort s p u).spiEnd p = setPort s p (selectHigh (afterFailedStart u)) := by
  simp only [State.spiEnd, setPort_port, link, setPort_withPort, failStart]
  rfl

theorem spiEnd_of_idle (u : PortUnit) (idle : takesBytes u.link = false) :
    (setPort s p u).spiEnd p = setPort s p (selectHigh u) := by
  cases link : u.link with
  | writing => simp [takesBytes, link] at idle
  | judging bytes => simp [takesBytes, link] at idle
  | quiet => simp only [State.spiEnd, setPort_port, link, setPort_withPort, failStart]
  | ignoring => simp only [State.spiEnd, setPort_port, link, setPort_withPort, failStart]
  | reading => simp only [State.spiEnd, setPort_port, link, setPort_withPort, failStart]
  | stretching a b c => simp only [State.spiEnd, setPort_port, link, setPort_withPort, failStart]

/-- Whatever goes on at a port, its select is high after it has risen. -/
theorem spiEnd_high (u : PortUnit) : ∃ v, (setPort s p u).spiEnd p = setPort s p (selectHigh v) := by
  cases link : u.link with
  | writing => exact ⟨_, spiEnd_writing s p u link⟩
  | judging bytes => exact ⟨_, spiEnd_of_judging s p u link⟩
  | quiet => exact ⟨_, spiEnd_of_idle s p u (by rw [link]; rfl)⟩
  | ignoring => exact ⟨_, spiEnd_of_idle s p u (by rw [link]; rfl)⟩
  | reading => exact ⟨_, spiEnd_of_idle s p u (by rw [link]; rfl)⟩
  | stretching a b c => exact ⟨_, spiEnd_of_idle s p u (by rw [link]; rfl)⟩

theorem spiEnd_spiEnd : (s.spiEnd p).spiEnd p = s.spiEnd p := by
  obtain ⟨v, high⟩ := spiEnd_high s p (s.port p)
  rw [setPort_self] at high
  rw [high]
  exact spiEnd_of_idle s p (selectHigh v) rfl

@[simp] theorem spiEnd_awake : (s.spiEnd p).inReset = s.inReset := by
  obtain ⟨v, high⟩ := spiEnd_high s p (s.port p)
  rw [setPort_self] at high
  rw [high, setPort_inReset]

end Select

/-! ### Transactions -/

/-- A port at the fall of its select: it sends 0x00 during the direction byte of a write. -/
def writeStarted (u : PortUnit) : PortUnit := selectWrite (selectHigh u)

/-- What the bytes of a transaction and the rise of its select do. -/
def transacted (s : State) (p : Port) (bytes : List Byte) (high : Bool) : State :=
  if high then (bytes.foldl (State.spiByte p) s).spiEnd p else bytes.foldl (State.spiByte p) s

section Transactions

variable {s : State} {sp : SpiPort}

theorem exec_spiWrite (awake : s.inReset = none) (free : takesBytes (s.port sp.port).link = false) (bytes : List Byte)
    (high : Bool) :
    exec (.spiWriteTransaction sp bytes high) s =
      .next (transacted (setPort s sp.port (writeStarted (s.port sp.port))) sp.port bytes high) := by
  have started := spiEnd_of_idle s sp.port (s.port sp.port) free
  rw [setPort_self] at started
  have fell : (s.spiEnd sp.port).withPort sp.port selectWrite = setPort s sp.port (writeStarted (s.port sp.port)) := by
    rw [started, setPort_withPort]
    rfl
  simp only [exec, execSpiWriteTransaction, awake_of_awake awake, fell, transacted]

/-- After bytes that leave the rest of a transaction ignored, its select rises or stays low. -/
theorem transacted_ignored {u v : PortUnit} {p : Port} {bytes : List Byte} (high : Bool)
    (run : bytes.foldl (State.spiByte p) (setPort s p u) = setPort s p v) (ignored : v.link = .ignoring)
    (driven : v.driven = true) : transacted (setPort s p u) p bytes high = setPort s p (leaveSelect high v) := by
  cases high with
  | true =>
    rw [transacted, if_pos rfl, run, spiEnd_of_idle s p v (by rw [ignored]; rfl)]
    rfl
  | false =>
    rw [transacted, if_neg Bool.false_ne_true, run]
    congr 1
    rw [leaveSelect, if_neg Bool.false_ne_true, Bool.not_false, ← ignored, ← driven]

theorem leaveSelect_frameTaken (attn force : Bool) (u : PortUnit) (frame : List Byte) (high : Bool) (n : Nat) :
    leaveSelect high (giving (List.replicate n 0) [] (frameTaken attn force (writeStarted u) frame .ignoring)) =
      spiZeros high (n + 1) (frameTaken attn force u frame (if high then .quiet else .ignoring)) := by
  simp only [frameTaken, completed, leaveSelect, giving, spiZeros, writeStarted, selectWrite, selectHigh, PortUnit.request,
    List.append_nil, List.replicate_succ]
  split
  · rfl
  · split <;> rfl

theorem writeBytes_frame {frame : List Byte} (awake : s.inReset = none) (free : NoFrameArriving (s.port sp.port))
    (whole : WholeFrame frame) (extra : List Byte) (high : Bool) :
    ∃ t, exec (.spiWriteTransaction sp (frame ++ extra) high) s = .next t ∧
      OnlyPort s t sp.port
        (fun _ =>
          spiZeros high (frame.length + extra.length + 1) (afterFrame s sp.port frame (if high then .quiet else .ignoring))) ∧
      BesidePorts s t := by
  have none : arrived (writeStarted (s.port sp.port)) = [] := by exact (arrived_of_noFrame free :)
  have some : frame ≠ [] := List.length_pos_iff.1 (by unfold WholeFrame at whole; omega)
  have run := spiBytes_whole s sp.port some extra (u := writeStarted (s.port sp.port)) rfl (by rwa [none, List.nil_append])
  have ran := transacted_ignored high run (frameTaken_link _ _ _ _ _) (frameTaken_driven _ _ _ _ _)
  have transacted := exec_spiWrite awake (takesBytes_of_noFrame free) (frame ++ extra) high
  rw [ran, none, List.nil_append] at transacted
  refine leaves_of_setPort transacted ?_
  rw [afterFrame_eq, leaveSelect_frameTaken]

theorem writeBytes_unfinished {bytes : List Byte} (awake : s.inReset = none) (free : NoFrameArriving (s.port sp.port))
    (goes : Unfinished bytes) (high : Bool) :
    exec (.spiWriteTransaction sp bytes high) s =
      .next (setPort s sp.port
        (if high then spiZeros true (bytes.length + 1) (afterLoss (s.port sp.port))
        else spiZeros false (bytes.length + 1)
          { s.port sp.port with
            state := if bytes = [] then (s.port sp.port).state else arriving (s.port sp.port) bytes, link := .writing })) := by
  have none : arrived (writeStarted (s.port sp.port)) = [] := by exact (arrived_of_noFrame free :)
  have run := spiBytes_unfinished s sp.port bytes (u := writeStarted (s.port sp.port)) rfl (by rwa [none, List.nil_append])
  rw [exec_spiWrite awake (takesBytes_of_noFrame free), transacted, run]
  cases high with
  | true =>
    rw [if_pos rfl, spiEnd_writing s sp.port _ (by rfl), loseFrame_giving, loseFrame_fed, if_pos rfl, afterLoss_eq]
    simp [selectHigh, giving, spiZeros, loseFrame, countFraming, setLink, writeStarted, selectWrite, List.replicate_succ]
  | false =>
    rw [if_neg Bool.false_ne_true, if_neg Bool.false_ne_true, fed, none, List.nil_append]
    simp [giving, spiZeros, writeStarted, selectWrite, selectHigh, arriving, List.replicate_succ]

theorem writeBytes_overlong {bytes : List Byte} (awake : s.inReset = none) (free : NoFrameArriving (s.port sp.port))
    (enough : 5 ≤ bytes.length) (long : 48 < (byteAt bytes 4).toNat) (high : Bool) :
    exec (.spiWriteTransaction sp bytes high) s =
      .next (setPort s sp.port
        (spiZeros high (bytes.length + 1)
          { afterLoss (s.port sp.port) with link := if high then .quiet else .ignoring })) := by
  have none : arrived (writeStarted (s.port sp.port)) = [] := by exact (arrived_of_noFrame free :)
  have run := spiBytes_overlong s sp.port (u := writeStarted (s.port sp.port)) rfl none enough long
  rw [exec_spiWrite awake (takesBytes_of_noFrame free), transacted_ignored high run rfl rfl, afterLoss_eq]
  simp [leaveSelect, giving, spiZeros, loseFrame, countFraming, setLink, writeStarted, selectWrite, selectHigh,
    List.replicate_succ]

theorem sentNow_eq (u : PortUnit) : sentNow u = readContent u.state := by
  unfold sentNow
  cases u.state with
  | idle => rfl
  | answered r => rfl
  | receiving bytes r => cases r <;> rfl
  | pending f incoming => rfl

theorem filled_eq (content : List Byte) (count : Nat) :
    filled content count = (content ++ List.replicate count 0).take count := by
  rw [filled, List.take_append, List.take_replicate]
  congr 2
  omega

theorem exec_spiRead (awake : s.inReset = none) (free : takesBytes (s.port sp.port).link = false) (count : Nat) (high : Bool) :
    exec (.spiReadTransaction sp ⟨count, high⟩) s =
      .next (setPort s sp.port (leaveSelect high (sendSpiRead count (selectHigh (s.port sp.port))))) := by
  have started := spiEnd_of_idle s sp.port (s.port sp.port) free
  rw [setPort_self] at started
  simp only [exec, execSpiReadTransaction, awake_of_awake awake, started, setPort_withPort]

theorem exec_spiFramingError (awake : s.inReset = none) (free : takesBytes (s.port sp.port).link = false)
    {bytes : List Byte} (invalid : invalidSpiStart bytes = true) (high : Bool) :
    exec (.spiFramingError sp ⟨bytes, high⟩) s =
      .next (transacted (setPort s sp.port (selectStart (selectHigh (s.port sp.port)))) sp.port bytes high) := by
  have started := spiEnd_of_idle s sp.port (s.port sp.port) free
  rw [setPort_self] at started
  simp only [exec, execSpiFramingError, awake_of_awake awake, started, setPort_withPort, if_pos invalid, transacted]

/-- A first byte that begins nothing is a framing error at once. -/
theorem spiBytes_strange {p : Port} {u : PortUnit} {b : Byte} (rest : List Byte) (link : u.link = .judging [])
    (strange : b ≠ 0xFF) :
    (b :: rest).foldl (State.spiByte p) (setPort s p u) =
      setPort s p (giving (List.replicate (rest.length + 1) 0) [] (setLink .ignoring (afterFailedStart u))) := by
  have judgement : judgeStart [b] u = setLink .ignoring (afterFailedStart u) := by
    rw [judgeStart, if_neg fun both => strange (Option.some.inj both.1), if_neg (by simp)]
    rfl
  rw [List.foldl_cons, spiByte_judging b (by rwa [setPort_port]), setPort_withPort, Function.comp_apply, sendZero_eq_giving,
    List.nil_append, judgement, spiBytes_ignored s p rest (by rfl), giving_giving]
  rfl

theorem invalidSpiStart_of_strange {b : Byte} (strange : b ≠ 0xB1 ∧ b ≠ 0xB2 ∧ b ≠ 0xFF) (rest : List Byte) :
    invalidSpiStart (b :: rest) = true := by
  obtain ⟨write, read, resync⟩ := strange
  rw [invalidSpiStart, if_neg (not_or.2 ⟨write, read⟩), if_neg resync]

theorem invalidSpiStart_of_other {rest : List Byte} (h : rest.take 3 ≠ [0xFF, 0xFF, 0xFF]) :
    invalidSpiStart (0xFF :: rest) = true := by
  rw [invalidSpiStart, if_neg (by decide), if_pos rfl]
  exact decide_eq_true h

theorem take_ne_of_short {rest : List Byte} (short : rest.length < 3) : rest.take 3 ≠ [0xFF, 0xFF, 0xFF] := by
  rw [List.take_of_length_le (by omega)]
  rintro rfl
  exact absurd short (by decide)

theorem take_ne_of_mem {rest : List Byte} (h : ∃ x ∈ rest.take 3, x ≠ 0xFF) : rest.take 3 ≠ [0xFF, 0xFF, 0xFF] := by
  obtain ⟨x, mem, other⟩ := h
  intro all
  rw [all] at mem
  exact other (by simpa using mem)

/-- The port at the fall of its select, before the first byte. -/
def startStarted (u : PortUnit) : PortUnit := selectStart (selectHigh u)

theorem judgedBytes_first (s : State) (p : Port) (u : PortUnit) (rest : List Byte) :
    (0xFF :: rest).foldl (State.spiByte p) (setPort s p (startStarted u)) =
      setPort s p (giving (List.replicate (rest.length + 1) 0) [] (judged (0xFF :: rest) (startStarted u))) :=
  spiBytes_judged s p (had := []) (u := startStarted u) rfl (by decide) rfl

theorem leaveSelect_failed (u : PortUnit) (n : Nat) (high : Bool) :
    leaveSelect high (giving (List.replicate n 0) [] (setLink .ignoring (afterFailedStart (startStarted u)))) =
      spiZeros high n { afterFailedStart u with link := if high then .quiet else .ignoring } := by
  simp only [leaveSelect, giving, List.append_nil]
  rfl

theorem framingError_judged {b : Byte} {rest : List Byte} {high : Bool} (awake : s.inReset = none)
    (free : takesBytes (s.port sp.port).link = false)
    (h : (b ≠ 0xB1 ∧ b ≠ 0xB2 ∧ b ≠ 0xFF) ∨
      (b = 0xFF ∧ ((3 ≤ rest.length ∧ ∃ x ∈ rest.take 3, x ≠ 0xFF) ∨ (rest.length < 3 ∧ high = true)))) :
    exec (.spiFramingError sp ⟨b :: rest, high⟩) s =
      .next (setPort s sp.port
        (spiZeros high (rest.length + 1)
          { afterFailedStart (s.port sp.port) with link := if high then .quiet else .ignoring })) := by
  rcases h with strange | ⟨rfl, ⟨enough, other⟩ | ⟨short, rfl⟩⟩
  · rw [exec_spiFramingError awake free (invalidSpiStart_of_strange strange rest), ← leaveSelect_failed]
    exact congrArg _ (transacted_ignored high (spiBytes_strange rest rfl strange.2.2) rfl rfl)
  · have failed : judged (0xFF :: rest) (startStarted (s.port sp.port)) =
        setLink .ignoring (afterFailedStart (startStarted (s.port sp.port))) := by
      rw [judged, if_neg (by rw [List.length_cons]; omega), if_neg]
      rw [List.take_succ_cons]
      exact fun all => take_ne_of_mem other (List.cons.inj all).2
    have run := judgedBytes_first s sp.port (s.port sp.port) rest
    rw [failed] at run
    rw [exec_spiFramingError awake free (invalidSpiStart_of_other (take_ne_of_mem other)), ← leaveSelect_failed]
    exact congrArg _ (transacted_ignored high run rfl rfl)
  · have run := judgedBytes_first s sp.port (s.port sp.port) rest
    rw [judged_of_lt (by rw [List.length_cons]; omega)] at run
    rw [exec_spiFramingError awake free (invalidSpiStart_of_other (take_ne_of_short short)), transacted, if_pos rfl, ← startStarted,
      run, spiEnd_of_judging s sp.port _ (by rfl)]
    simp [selectHigh, giving, setLink, afterFailedStart, startStarted, selectStart, spiZeros]

theorem framingError_waits {rest : List Byte} (awake : s.inReset = none) (free : takesBytes (s.port sp.port).link = false)
    (short : rest.length < 3) :
    exec (.spiFramingError sp ⟨0xFF :: rest, false⟩) s =
      .next (setPort s sp.port
        (spiZeros false (rest.length + 1) { s.port sp.port with link := .judging (0xFF :: rest) })) := by
  have run := judgedBytes_first s sp.port (s.port sp.port) rest
  rw [judged_of_lt (by rw [List.length_cons]; omega)] at run
  rw [exec_spiFramingError awake free (invalidSpiStart_of_other (take_ne_of_short short)), transacted,
    if_neg Bool.false_ne_true, ← startStarted, run]
  simp [selectHigh, giving, setLink, startStarted, selectStart, spiZeros]

/-- The select of a new transaction first rises on the one in progress. -/
theorem spiEndedFirst_of_eq {c : Instr} (same : exec c s = exec c (s.spiEnd sp.port)) : SpiEndedFirst s sp.port c := by
  have at_ (u : PortUnit) (f : PortUnit → PortUnit) (high : s.spiEnd sp.port = setPort s sp.port u)
      (f_eq : u = f (s.port sp.port)) : OnlyPort s (s.spiEnd sp.port) sp.port f := by
    obtain ⟨here, others, turn⟩ := withPort_onlyPort s sp.port fun _ => u
    rw [high]
    exact ⟨here.trans f_eq, others, turn⟩
  obtain ⟨v, high⟩ := spiEnd_high s sp.port (s.port sp.port)
  rw [setPort_self] at high
  refine ⟨s.spiEnd sp.port, same, by rw [high]; exact withPort_beside s sp.port _, fun link => ?_, fun bytes link => ?_⟩
  · have ended := spiEnd_writing s sp.port (s.port sp.port) link
    rw [setPort_self] at ended
    exact at_ _ _ ended (by rw [afterLoss_eq]; rfl)
  · have ended := spiEnd_of_judging s sp.port (s.port sp.port) link
    rw [setPort_self] at ended
    exact at_ _ _ ended rfl

end Transactions

/-- Settles O49. A write's bytes are folded into the port one after another: the frame goes on, completes at its CHECK byte
or is lost at its LEN byte, and the rest is ignored. -/
theorem spiTransactions : Obligations.SpiTransactions := by
  refine ⟨fun s sp awake free => ⟨fun frame extra high whole => writeBytes_frame awake free whole extra high,
    fun bytes goes => ⟨leaves_of_setPort (writeBytes_unfinished awake free goes true) rfl, fun some =>
      leaves_of_setPort (writeBytes_unfinished awake free goes false) ?_⟩,
    leaves_of_setPort (writeBytes_unfinished awake free (.inl (by decide)) false) rfl,
    fun bytes high enough long => leaves_of_setPort (writeBytes_overlong awake free enough long high) rfl,
    fun count high => leaves_of_setPort (exec_spiRead awake (takesBytes_of_noFrame free) count high) ?_,
    fun b rest high h => leaves_of_setPort (framingError_judged awake (takesBytes_of_noFrame free) h) rfl,
    fun rest short => leaves_of_setPort (framingError_waits awake (takesBytes_of_noFrame free) short) rfl⟩,
    fun s sp c awake link command => spiEndedFirst_of_eq ?_⟩
  · rw [if_neg Bool.false_ne_true, if_neg some]
  · rw [sentNow_eq, ← filled_eq]
    rfl
  · have awake' : (s.spiEnd sp.port).inReset = none := by rw [spiEnd_awake, awake]
    rcases command with ⟨bytes, high, rfl⟩ | ⟨read, rfl⟩ | ⟨b, rest, high, rfl, invalid⟩
    · simp only [exec, execSpiWriteTransaction, awake_of_awake awake, awake_of_awake awake', spiEnd_spiEnd]
    · simp only [exec, execSpiReadTransaction, awake_of_awake awake, awake_of_awake awake', spiEnd_spiEnd]
    · have start : invalidSpiStart (b :: rest) = true := by
        rcases invalid with strange | ⟨rfl, short | other⟩
        · exact invalidSpiStart_of_strange strange rest
        · exact invalidSpiStart_of_other (take_ne_of_short short)
        · exact invalidSpiStart_of_other (take_ne_of_mem other)
      simp only [exec, execSpiFramingError, awake_of_awake awake, awake_of_awake awake', spiEnd_spiEnd, if_pos start]

end Sys2Proof.Proofs
end


section
/-! PROOFS. I2C transactions (R168 to R170). -/

namespace Sys2Proof.Proofs

open Sys2Proof.Machine Sys2Proof.Safety Sys2Proof.Laws

/-- The bytes of a request frame, whole or not yet. -/
def Fits (bytes : List Byte) : Prop := Unfinished bytes ∨ WholeFrame bytes

section Fits

variable {bytes more : List Byte} {b : Byte}

theorem Fits.before (h : Fits (bytes ++ b :: more)) : Unfinished bytes :=
  h.elim Unfinished.of_append unfinished_of_wholeFrame

theorem Fits.lenFits (h : Fits bytes) : LenFits bytes := h.elim Unfinished.lenFits lenFits_of_wholeFrame

theorem Fits.of_append (h : Fits (bytes ++ more)) : Fits bytes := by
  cases more with
  | nil => rwa [List.append_nil] at h
  | cons b more => exact .inl h.before

end Fits

theorem withArrived_self {u : PortUnit} (h : incomingOf u.state = some (arrived u)) : withArrived u (arrived u) = u := by
  obtain ⟨st, _, _, _, _, _, _, _, _, _⟩ := u
  unfold withArrived arriving
  cases st with
  | idle => exact absurd h.symm (Option.some_ne_none _)
  | answered r => exact absurd h.symm (Option.some_ne_none _)
  | receiving bytes r => rfl
  | pending f incoming => cases incoming with
    | none => exact absurd h.symm (Option.some_ne_none _)
    | some bytes => rfl

section Bytes

variable (s : State) {u : PortUnit} {b : Byte}

/-- A byte of a transaction that is no write to HP2, or whose frame is lost already. -/
theorem i2cByte_ignored (link : u.link ≠ .writing) (b : Byte) :
    (setPort s .hp2 u).i2cByte b = setPort s .hp2 (giving [] [false] u) := by
  rw [State.i2cByte, setPort_port, if_pos link, setPort_withPort, giveAck_eq_giving]

/-- A byte of a frame that goes on, or its CHECK byte. -/
theorem i2cByte_taken (link : u.link = .writing) (goes : Fits (arrived u ++ [b])) :
    (setPort s .hp2 u).i2cByte b = setPort s .hp2 (giving [] [true] (withArrived u (arrived u ++ [b]))) := by
  have added : (setPort s .hp2 u).withPort .hp2 (fun u => { u with state := addByte b u.state }) =
      setPort s .hp2 (withArrived u (arrived u ++ [b])) := by
    rw [setPort_withPort, addByte_eq_arriving]
    rfl
  rw [State.i2cByte, setPort_port, if_neg (not_not.2 link), incomingFull_of_unfinished goes.before, if_neg Bool.false_ne_true]
  simp only [added, setPort_port, badLenByte_withArrived]
  rw [if_neg (goes.lenFits ∘ of_decide_eq_true), setPort_withPort, giveAck_eq_giving]

/-- A byte after a whole frame loses it. -/
theorem i2cByte_beyond (link : u.link = .writing) (some : incomingOf u.state = some (arrived u)) (whole : WholeFrame (arrived u))
    (b : Byte) : (setPort s .hp2 u).i2cByte b = setPort s .hp2 (giving [] [false] (setLink .ignoring (loseFrame u))) := by
  have full : incomingFull u = true := by
    rw [← withArrived_self some, incomingFull_withArrived, full_of_wholeFrame whole]
  rw [State.i2cByte, setPort_port, if_neg (not_not.2 link), if_pos full, setPort_withPort, giveAck_eq_giving]

/-- A LEN byte above 48 loses the frame. -/
theorem i2cByte_overlong (link : u.link = .writing) (len : (arrived u).length = 4) (long : 48 < b.toNat) :
    (setPort s .hp2 u).i2cByte b = setPort s .hp2 (giving [] [false] (setLink .ignoring (loseFrame u))) := by
  have bad : byteAt (arrived u ++ [b]) 4 = b := by simp [byteAt, ← len]
  have added : (setPort s .hp2 u).withPort .hp2 (fun u => { u with state := addByte b u.state }) =
      setPort s .hp2 (withArrived u (arrived u ++ [b])) := by
    rw [setPort_withPort, addByte_eq_arriving]
    rfl
  rw [State.i2cByte, setPort_port, if_neg (not_not.2 link), incomingFull_of_unfinished (.inl (by omega)),
    if_neg Bool.false_ne_true]
  simp only [added, setPort_port, badLenByte_withArrived, bad]
  rw [if_pos (decide_eq_true ⟨by simp [len], long⟩), setPort_withPort, loseFrame_withArrived, giveAck_eq_giving]

theorem i2cBytes_ignored (bytes : List Byte) (link : u.link ≠ .writing) :
    bytes.foldl State.i2cByte (setPort s .hp2 u) = setPort s .hp2 (giving [] (List.replicate bytes.length false) u) := by
  induction bytes generalizing u with
  | nil => simp
  | cons b bytes ih =>
    rw [List.foldl_cons, i2cByte_ignored s link, ih (by exact link), giving_giving]
    rfl

theorem i2cBytes_taken (bytes : List Byte) (link : u.link = .writing) (goes : Fits (arrived u ++ bytes)) :
    bytes.foldl State.i2cByte (setPort s .hp2 u) =
      setPort s .hp2 (giving [] (List.replicate bytes.length true) (fed u bytes)) := by
  induction bytes generalizing u with
  | nil => simp
  | cons b bytes ih =>
    rw [List.append_cons] at goes
    rw [List.foldl_cons, i2cByte_taken s link goes.of_append, ih (by exact link) (by simpa using goes), fed_giving, fed_step,
      giving_giving]
    rfl

theorem ignoring_ne_writing : Link.ignoring ≠ .writing := nofun

omit s in
theorem incomingOf_fed {bytes : List Byte} (nonempty : bytes ≠ []) :
    incomingOf (fed u bytes).state = some (arrived u ++ bytes) := by
  obtain ⟨b, bytes, rfl⟩ := List.exists_cons_of_ne_nil nonempty
  rw [fed_cons]
  exact incomingOf_arriving u _

/-- Bytes beyond a whole frame lose it. -/
theorem i2cBytes_beyond {frame extra : List Byte} {b : Byte} (link : u.link = .writing) (none : arrived u = [])
    (whole : WholeFrame frame) :
    (frame ++ b :: extra).foldl State.i2cByte (setPort s .hp2 u) =
      setPort s .hp2
        (giving [] (List.replicate frame.length true ++ List.replicate (extra.length + 1) false)
          (setLink .ignoring (loseFrame u))) := by
  have some : frame ≠ [] := List.length_pos_iff.1 (by unfold WholeFrame at whole; omega)
  have here := incomingOf_fed (u := u) some
  have all : arrived (fed u frame) = frame := by rw [arrived_fed, none, List.nil_append]
  rw [none, List.nil_append, ← all] at here
  rw [all] at here
  rw [List.foldl_append, i2cBytes_taken s frame link (by rw [none]; exact .inr whole), List.foldl_cons,
    i2cByte_beyond s (by exact link) (by rw [arrived_giving, all]; exact here) (by rw [arrived_giving, all]; exact whole),
    loseFrame_giving, loseFrame_fed, i2cBytes_ignored s extra (by exact ignoring_ne_writing), setLink_giving, giving_giving, giving_giving]
  rfl

/-- A frame whose LEN byte is above 48. -/
theorem i2cBytes_overlong {bytes : List Byte} (link : u.link = .writing) (none : arrived u = [])
    (enough : 5 ≤ bytes.length) (long : 48 < (byteAt bytes 4).toNat) :
    bytes.foldl State.i2cByte (setPort s .hp2 u) =
      setPort s .hp2
        (giving [] (List.replicate 4 true ++ List.replicate (bytes.length - 4) false) (setLink .ignoring (loseFrame u))) := by
  have split : bytes = bytes.take 4 ++ byteAt bytes 4 :: bytes.drop 5 := by
    rw [byteAt, List.getD_eq_getElem _ _ (by omega), List.getElem_cons_drop, List.take_append_drop]
  have four : (bytes.take 4).length = 4 := by rw [List.length_take]; omega
  have goes : Fits (arrived u ++ bytes.take 4) := by
    rw [none, List.nil_append]
    exact .inl (.inl (by omega))
  have len : (arrived (giving [] (List.replicate (bytes.take 4).length true) (fed u (bytes.take 4)))).length = 4 := by
    rw [arrived_giving, arrived_fed, none, List.nil_append, four]
  have count : bytes.length - 4 = (bytes.drop 5).length + 1 := by
    rw [List.length_drop]
    omega
  conv_lhs => rw [split]
  rw [List.foldl_append, i2cBytes_taken s _ link goes, List.foldl_cons, i2cByte_overlong s (by exact link) len long,
    loseFrame_giving, loseFrame_fed, i2cBytes_ignored s _ (by exact ignoring_ne_writing), setLink_giving, giving_giving, giving_giving, count, four]
  rfl

end Bytes

/-! ### The end of a transaction (R168) -/

section End

variable (s : State) {u : PortUnit}

theorem i2cEnd_idle (link : u.link ≠ .writing) : (setPort s .hp2 u).i2cEnd = setPort s .hp2 (setLink .quiet u) := by
  cases here : u.link with
  | writing => exact absurd here link
  | quiet => simp only [State.i2cEnd, setPort_port, here, setPort_withPort]
  | judging bytes => simp only [State.i2cEnd, setPort_port, here, setPort_withPort]
  | ignoring => simp only [State.i2cEnd, setPort_port, here, setPort_withPort]
  | reading => simp only [State.i2cEnd, setPort_port, here, setPort_withPort]
  | stretching a b c => simp only [State.i2cEnd, setPort_port, here, setPort_withPort]

/-- A write without a data byte is an address probe. -/
theorem i2cEnd_probe (link : u.link = .writing) (none : incomingOf u.state = none) :
    (setPort s .hp2 u).i2cEnd = setPort s .hp2 (setLink .quiet u) := by
  simp only [State.i2cEnd, setPort_port, link, none, if_true, setPort_withPort]

/-- A whole frame completes. -/
theorem i2cEnd_whole (link : u.link = .writing) (some : incomingOf u.state = some (arrived u)) (whole : WholeFrame (arrived u)) :
    (setPort s .hp2 u).i2cEnd =
      setPort s .hp2 (frameTaken (s.attn.get .hp2) s.force.asserted u (arrived u) .quiet) := by
  have full : incomingFull u = true := by
    rw [← withArrived_self some, incomingFull_withArrived, full_of_wholeFrame whole]
  have completes := completeFrame_withArrived s .hp2 (u := setLink .quiet u) whole rfl
  rw [frameTaken_setLink] at completes
  have same : withArrived (setLink .quiet u) (arrived u) = setLink .quiet u :=
    congrArg (setLink .quiet) (withArrived_self some)
  rw [same] at completes
  simp only [State.i2cEnd, setPort_port, link, some, reduceCtorEq, if_false, full, if_true, setPort_withPort]
  exact completes

/-- A shorter frame is lost. -/
theorem i2cEnd_short (link : u.link = .writing) (some : arrived u ≠ []) (short : frameFull (arrived u) = false) :
    (setPort s .hp2 u).i2cEnd = setPort s .hp2 (afterLoss u) := by
  have partial_ : incomingFull u = false := by simp only [incomingFull, incomingOf_of_arrived some, short]
  simp only [State.i2cEnd, setPort_port, link, incomingOf_of_arrived some, reduceCtorEq, if_false, partial_,
    Bool.false_eq_true, setPort_withPort, afterLoss_eq]

theorem placeInPort_link {r : Response} {u : PortUnit} (link : isStretching u.link = false) :
    (placeInPort r u).link = u.link := by
  unfold placeInPort
  cases here : u.link with
  | stretching a b c => simp [isStretching, here] at link
  | quiet => rfl
  | writing => rfl
  | judging bytes => rfl
  | ignoring => rfl
  | reading => rfl

theorem completeFrame_link (p : Port) (link : isStretching u.link = false) :
    ∃ v, (setPort s p u).completeFrame p = setPort s p v ∧ v.link = u.link := by
  unfold State.completeFrame
  rw [setPort_port]
  split
  · exact ⟨_, setPort_withPort .., rfl⟩
  · split
    · exact ⟨_, setPort_withPort .., rfl⟩
    · rw [State.answer, setPort_withPort, setPort_withPort]
      exact ⟨_, rfl, placeInPort_link link⟩
  all_goals exact ⟨u, rfl, rfl⟩

/-- Whatever goes on at HP2, its link is quiet after the end of a transaction. -/
theorem i2cEnd_quiet : ∃ v, (setPort s .hp2 u).i2cEnd = setPort s .hp2 v ∧ v.link = .quiet := by
  by_cases link : u.link = .writing
  · simp only [State.i2cEnd, setPort_port, link, setPort_withPort]
    split
    · exact ⟨_, rfl, rfl⟩
    · split
      · exact completeFrame_link s .hp2 (u := setLink .quiet u) rfl
      · exact ⟨_, rfl, rfl⟩
  · exact ⟨_, i2cEnd_idle s link, rfl⟩

end End

/-- The START of a transaction finds HP2's link quiet, and ends nothing more. -/
structure EndedAt (s u : State) : Prop where
  port : ∃ v, u = setPort s .hp2 v
  quiet : (u.port .hp2).link = .quiet

section Ended

variable {s u : State}

theorem endedAt_i2cEnd (s : State) : EndedAt s s.i2cEnd := by
  obtain ⟨v, ended, quiet⟩ := i2cEnd_quiet s (u := s.port .hp2)
  rw [setPort_self] at ended
  rw [ended]
  exact ⟨⟨v, rfl⟩, by rwa [setPort_port]⟩

theorem EndedAt.again (h : EndedAt s u) : u.i2cEnd = u := by
  have idle := i2cEnd_idle u (u := u.port .hp2) (by rw [h.quiet]; exact nofun)
  have same : setLink .quiet (u.port .hp2) = u.port .hp2 := by rw [setLink, ← h.quiet]
  rwa [same, setPort_self] at idle

theorem EndedAt.awake (h : EndedAt s u) : u.inReset = s.inReset := by
  obtain ⟨⟨v, rfl⟩, _⟩ := h
  exact setPort_inReset s .hp2 v

theorem EndedAt.address (h : EndedAt s u) : u.i2cAddress = s.i2cAddress := by
  obtain ⟨⟨v, rfl⟩, _⟩ := h
  exact setPort_i2cAddress s .hp2 v

theorem EndedAt.free (h : EndedAt s u) : isStretching (u.port .hp2).link = false := by
  rw [h.quiet]
  rfl

/-- The START of a new transaction first ends the write in progress. -/
theorem i2cEndedFirst_of_eq {c : Instr} (link : (s.port .hp2).link = .writing) (same : exec c s = exec c s.i2cEnd) :
    I2cEndedFirst s c := by
  have at_ (v : PortUnit) (f : PortUnit → PortUnit) (ended : (setPort s .hp2 (s.port .hp2)).i2cEnd = setPort s .hp2 v)
      (f_eq : v = f (s.port .hp2)) : OnlyPort s s.i2cEnd .hp2 f := by
    rw [setPort_self] at ended
    obtain ⟨here, others, turn⟩ := withPort_onlyPort s .hp2 fun _ => v
    rw [ended]
    exact ⟨here.trans f_eq, others, turn⟩
  obtain ⟨⟨v, ended⟩, _⟩ := endedAt_i2cEnd s
  refine ⟨s.i2cEnd, same, by rw [ended]; exact withPort_beside s .hp2 _, fun whole => ?_, fun some short => ?_, fun probe => ?_⟩
  · have some : arrived (s.port .hp2) ≠ [] := List.length_pos_iff.1 (by unfold WholeFrame at whole; omega)
    exact at_ _ _ (i2cEnd_whole s link (incomingOf_of_arrived some) whole) rfl
  · refine at_ _ _ (i2cEnd_short s link some ?_) rfl
    rw [← Bool.not_eq_true, frameFull_iff]
    omega
  · have none := incomingOf_of_noFrame probe
    exact at_ _ _ (i2cEnd_probe s link none) rfl

end Ended

/-! ### Transactions -/

/-- HP2 at the START of a write to its address, before the first data byte. -/
def writeOpened (u : PortUnit) : PortUnit := onlyAcks [true] (setLink .writing (setLink .quiet u))

/-- What the data bytes of a write to HP2, and its end, do. -/
def i2cWritten (s : State) (bytes : List Byte) (ended : Bool) : State :=
  if ended then (bytes.foldl State.i2cByte s).i2cEnd else bytes.foldl State.i2cByte s

section Transactions

variable {s : State}

theorem isStretching_eq_false {u : PortUnit} (h : ∀ a b c, u.link ≠ .stretching a b c) : isStretching u.link = false := by
  cases link : u.link with
  | stretching a b c => exact absurd link (h a b c)
  | quiet => rfl
  | writing => rfl
  | judging bytes => rfl
  | ignoring => rfl
  | reading => rfl

theorem exec_i2cWrite_own (awake : s.inReset = none) (free : NoFrameArriving (s.port .hp2))
    (loose : ∀ a b c, (s.port .hp2).link ≠ .stretching a b c) (bytes : List Byte) (ended : Bool) :
    exec (.i2cWriteTransaction s.i2cAddress bytes ended) s =
      .next (i2cWritten (setPort s .hp2 (writeOpened (s.port .hp2))) bytes ended) := by
  have started := i2cEnd_idle s free.1
  rw [setPort_self] at started
  simp only [exec, execI2cWriteTransaction, awake_of_awake awake, isStretching_eq_false loose, Bool.false_eq_true, if_false,
    if_true, started, setPort_withPort, i2cWritten, writeOpened]

theorem exec_i2cWrite_other (awake : s.inReset = none) (free : NoFrameArriving (s.port .hp2))
    (loose : ∀ a b c, (s.port .hp2).link ≠ .stretching a b c) {address : BitVec 7} (other : address ≠ s.i2cAddress)
    (call : address ≠ 0) (bytes : List Byte) (ended : Bool) :
    exec (.i2cWriteTransaction address bytes ended) s =
      .next (setPort s .hp2 (onlyAcks [false] (setLink .quiet (s.port .hp2)))) := by
  have started := i2cEnd_idle s free.1
  rw [setPort_self] at started
  simp only [exec, execI2cWriteTransaction, awake_of_awake awake, isStretching_eq_false loose, Bool.false_eq_true, if_false,
    if_neg other, if_neg call, started, setPort_withPort]

theorem exec_i2cWrite_call (awake : s.inReset = none) (free : NoFrameArriving (s.port .hp2))
    (loose : ∀ a b c, (s.port .hp2).link ≠ .stretching a b c) (own : s.i2cAddress ≠ 0) (b : Byte) (rest : List Byte)
    (ended : Bool) :
    exec (.i2cWriteTransaction 0 (b :: rest) ended) s =
      .next (setPort s .hp2
        (if b = 0x5B then
          { afterResync (s.port .hp2) with
            link := .quiet, sent := [], acks := [true, true] ++ List.replicate rest.length false }
        else
          { s.port .hp2 with link := .quiet, sent := [], acks := [true, false] ++ List.replicate rest.length false })) := by
  have started := i2cEnd_idle s free.1
  rw [setPort_self] at started
  simp only [exec, execI2cWriteTransaction, awake_of_awake awake, isStretching_eq_false loose, Bool.false_eq_true, if_false,
    if_neg own.symm, if_true, started, State.generalCall, setPort_withPort, List.map_const']
  split <;> rfl

theorem i2cWritten_frame (awake : s.inReset = none) (free : NoFrameArriving (s.port .hp2))
    (loose : ∀ a b c, (s.port .hp2).link ≠ .stretching a b c) {frame : List Byte} (goes : Fits frame) :
    exec (.i2cWriteTransaction s.i2cAddress frame false) s =
      .next (setPort s .hp2
        (giving [] (List.replicate frame.length true) (fed (writeOpened (s.port .hp2)) frame))) := by
  have none : arrived (writeOpened (s.port .hp2)) = [] := by exact (arrived_of_noFrame free :)
  rw [exec_i2cWrite_own awake free loose, i2cWritten, if_neg Bool.false_ne_true,
    i2cBytes_taken s frame (by rfl) (by rwa [none, List.nil_append])]

/-- A frame that begins at the port, with what HP2 has acknowledged. -/
theorem giving_fed_writeOpened {u : PortUnit} (free : NoFrameArriving u) {bytes : List Byte} (nonempty : bytes ≠ []) :
    giving [] (List.replicate bytes.length true) (fed (writeOpened u) bytes) =
      { u with state := arriving u bytes, link := .writing, sent := [], acks := allAcked bytes.length } := by
  have none : arrived (writeOpened u) = [] := by exact (arrived_of_noFrame free :)
  rw [fed, none, if_neg nonempty]
  rfl

theorem giving_frameTaken (attn force : Bool) (u : PortUnit) (frame : List Byte) (n : Nat) :
    giving [] (List.replicate n true) (frameTaken attn force (writeOpened u) frame .quiet) =
      { frameTaken attn force u frame .quiet with sent := [], acks := allAcked n } := by
  simp only [frameTaken, completed, giving, writeOpened, onlyAcks, setLink, PortUnit.request]
  split
  · rfl
  · split <;> rfl

theorem i2cWritten_frame_ended (awake : s.inReset = none) (free : NoFrameArriving (s.port .hp2))
    (loose : ∀ a b c, (s.port .hp2).link ≠ .stretching a b c) {frame : List Byte} (whole : WholeFrame frame) :
    exec (.i2cWriteTransaction s.i2cAddress frame true) s =
      .next (setPort s .hp2 { afterFrame s .hp2 frame .quiet with sent := [], acks := allAcked frame.length }) := by
  have none : arrived (writeOpened (s.port .hp2)) = [] := by exact (arrived_of_noFrame free :)
  have nonempty : frame ≠ [] := List.length_pos_iff.1 (by unfold WholeFrame at whole; omega)
  have all : arrived (fed (writeOpened (s.port .hp2)) frame) = frame := by rw [arrived_fed, none, List.nil_append]
  have here := incomingOf_fed (u := writeOpened (s.port .hp2)) nonempty
  rw [none, List.nil_append] at here
  rw [exec_i2cWrite_own awake free loose, i2cWritten, if_pos rfl,
    i2cBytes_taken s frame (by rfl) (by rw [none]; exact .inr whole),
    i2cEnd_whole s (by rfl) (by rw [arrived_giving, all]; exact here) (by rw [arrived_giving, all]; exact whole),
    frameTaken_giving, frameTaken_fed, arrived_giving, all, giving_frameTaken, afterFrame_eq]

/-- A write to HP2 whose frame was lost: its link is quiet after its end, and the rest is ignored before. -/
theorem i2cWritten_lost {u v : PortUnit} {bytes : List Byte} (ended : Bool)
    (run : bytes.foldl State.i2cByte (setPort s .hp2 u) = setPort s .hp2 v) (ignored : v.link = .ignoring) :
    i2cWritten (setPort s .hp2 u) bytes ended = setPort s .hp2 (setLink (if ended then .quiet else .ignoring) v) := by
  cases ended with
  | true => rw [i2cWritten, if_pos rfl, run, i2cEnd_idle s (by rw [ignored]; exact ignoring_ne_writing), if_pos rfl]
  | false =>
    rw [i2cWritten, if_neg Bool.false_ne_true, run, if_neg Bool.false_ne_true, ← ignored]
    rfl

theorem i2cWritten_beyond (awake : s.inReset = none) (free : NoFrameArriving (s.port .hp2))
    (loose : ∀ a b c, (s.port .hp2).link ≠ .stretching a b c) {frame : List Byte} (whole : WholeFrame frame) (b : Byte)
    (extra : List Byte) (ended : Bool) :
    exec (.i2cWriteTransaction s.i2cAddress (frame ++ b :: extra) ended) s =
      .next (setPort s .hp2
        { afterLoss (s.port .hp2) with
          link := if ended then .quiet else .ignoring
          sent := [], acks := allAcked frame.length ++ List.replicate (extra.length + 1) false }) := by
  have none : arrived (writeOpened (s.port .hp2)) = [] := by exact (arrived_of_noFrame free :)
  rw [exec_i2cWrite_own awake free loose, i2cWritten_lost ended (i2cBytes_beyond s rfl none whole) rfl, afterLoss_eq]
  rfl

theorem i2cWritten_overlong (awake : s.inReset = none) (free : NoFrameArriving (s.port .hp2))
    (loose : ∀ a b c, (s.port .hp2).link ≠ .stretching a b c) {bytes : List Byte} (enough : 5 ≤ bytes.length)
    (long : 48 < (byteAt bytes 4).toNat) (ended : Bool) :
    exec (.i2cWriteTransaction s.i2cAddress bytes ended) s =
      .next (setPort s .hp2
        { afterLoss (s.port .hp2) with
          link := if ended then .quiet else .ignoring, sent := []
          acks := allAcked 4 ++ List.replicate (bytes.length - 4) false }) := by
  have none : arrived (writeOpened (s.port .hp2)) = [] := by exact (arrived_of_noFrame free :)
  rw [exec_i2cWrite_own awake free loose, i2cWritten_lost ended (i2cBytes_overlong s rfl none enough long) rfl, afterLoss_eq]
  rfl

theorem i2cWritten_short (awake : s.inReset = none) (free : NoFrameArriving (s.port .hp2))
    (loose : ∀ a b c, (s.port .hp2).link ≠ .stretching a b c) {bytes : List Byte} (nonempty : bytes ≠ [])
    (goes : Unfinished bytes) :
    exec (.i2cWriteTransaction s.i2cAddress bytes true) s =
      .next (setPort s .hp2 { afterLoss (s.port .hp2) with sent := [], acks := allAcked bytes.length }) := by
  have none : arrived (writeOpened (s.port .hp2)) = [] := by exact (arrived_of_noFrame free :)
  have all : arrived (fed (writeOpened (s.port .hp2)) bytes) = bytes := by rw [arrived_fed, none, List.nil_append]
  rw [exec_i2cWrite_own awake free loose, i2cWritten, if_pos rfl,
    i2cBytes_taken s bytes (by rfl) (by rw [none]; exact .inl goes),
    i2cEnd_short s (by rfl) (by rw [arrived_giving, all]; exact nonempty) (by rw [arrived_giving, all]; exact goes.not_full),
    afterLoss_eq, loseFrame_giving, loseFrame_fed, afterLoss_eq]
  rfl

theorem i2cWritten_probe (awake : s.inReset = none) (free : NoFrameArriving (s.port .hp2))
    (loose : ∀ a b c, (s.port .hp2).link ≠ .stretching a b c) (ended : Bool) :
    exec (.i2cWriteTransaction s.i2cAddress [] ended) s =
      .next (setPort s .hp2
        { s.port .hp2 with link := if ended then .quiet else .writing, sent := [], acks := [true] }) := by
  rw [exec_i2cWrite_own awake free loose, i2cWritten]
  cases ended with
  | true =>
    have none : incomingOf (writeOpened (s.port .hp2)).state = none := by exact (incomingOf_of_noFrame free :)
    rw [if_pos rfl, List.foldl_nil, i2cEnd_probe s (by rfl) none]
    rfl
  | false => rfl

end Transactions

/-- Settles O50. The bytes of a write are folded into HP2 one after another, each with its acknowledgement, and the end of
the transaction completes or loses the frame. -/
theorem i2cWrites : Obligations.I2cWrites := by
  refine ⟨fun s awake free loose => ⟨fun frame whole => ⟨leaves_of_setPort (i2cWritten_frame_ended awake free loose whole) rfl,
      leaves_of_setPort (i2cWritten_frame awake free loose (.inr whole)) ?_,
      fun b extra ended => leaves_of_setPort (i2cWritten_beyond awake free loose whole b extra ended) rfl⟩,
    fun bytes ended enough long => leaves_of_setPort (i2cWritten_overlong awake free loose enough long ended) rfl,
    fun bytes nonempty goes => ⟨leaves_of_setPort (i2cWritten_short awake free loose nonempty goes) rfl,
      leaves_of_setPort (i2cWritten_frame awake free loose (.inl goes)) (giving_fed_writeOpened free nonempty)⟩,
    fun ended => leaves_of_setPort (i2cWritten_probe awake free loose ended) rfl,
    fun address bytes ended other call =>
      leaves_of_setPort (exec_i2cWrite_other awake free loose other call bytes ended) rfl,
    fun own b rest ended => ?_⟩, fun s address bytes ended awake link => i2cEndedFirst_of_eq link ?_⟩
  · exact giving_fed_writeOpened free (List.length_pos_iff.1 (by unfold WholeFrame at whole; omega))
  · have called := exec_i2cWrite_call awake free loose own b rest ended
    split
    next resync =>
      rw [if_pos resync] at called
      obtain ⟨t, run, only, beside⟩ := leaves_of_setPort (f := fun u => { afterResync u with
        link := .quiet, sent := [], acks := [true, true] ++ List.replicate rest.length false }) called rfl
      exact ⟨t, run, beside, only⟩
    next other =>
      rw [if_neg other] at called
      obtain ⟨t, run, only, beside⟩ := leaves_of_setPort (f := fun u => { u with
        link := .quiet, sent := [], acks := [true, false] ++ List.replicate rest.length false }) called rfl
      exact ⟨t, run, beside, only⟩
  · have ended := endedAt_i2cEnd s
    have loose : isStretching (s.port .hp2).link = false := by rw [link]; rfl
    simp only [exec, execI2cWriteTransaction, awake_of_awake awake, awake_of_awake (ended.awake.trans awake), loose, ended.free,
      ended.address, ended.again, Bool.false_eq_true, if_false]

end Sys2Proof.Proofs
end


section
/-! PROOFS. I2C reads, stretches and aborts (R169, R170), and the end of transactions and resyncs at every port (R157, R158,
R164, R167). -/

namespace Sys2Proof.Proofs

open Sys2Proof.Machine Sys2Proof.Safety Sys2Proof.Laws

section Reads

variable {s : State}

theorem exec_i2cRead (awake : s.inReset = none) (free : NoFrameArriving (s.port .hp2))
    (loose : ∀ a b c, (s.port .hp2).link ≠ .stretching a b c) (address : BitVec 7) (count : Nat) (ended : Bool) :
    exec (.i2cReadTransaction address count ended) s =
      .next (setPort s .hp2
        (if address = s.i2cAddress then
          if (s.port .hp2).request = none then
            { s.port .hp2 with
              link := if ended then .quiet else .reading
              sent := (sentNow (s.port .hp2) ++ List.replicate count 0).take count, acks := [true] }
          else { s.port .hp2 with link := .stretching count 10 ended, sent := [], acks := [true] }
        else { s.port .hp2 with link := .quiet, sent := [], acks := [false] })) := by
  have started := i2cEnd_idle s free.1
  rw [setPort_self] at started
  have request : PortUnit.request (onlyAcks [true] (setLink .quiet (s.port .hp2))) = (s.port .hp2).request := rfl
  simp only [exec, execI2cReadTransaction, awake_of_awake awake, isStretching_eq_false loose, Bool.false_eq_true, if_false,
    started, setPort_withPort, State.isPending, setPort_port, request, Option.isSome_iff_ne_none]
  split
  · split
    next asked => rfl
    next idle =>
      rw [if_pos (not_not.1 idle), sentNow_eq, ← filled_eq]
      rfl
  · rfl

theorem exec_stretchLimit (awake : s.inReset = none) {count left : Nat} {ended : Bool}
    (link : (s.port .hp2).link = .stretching count left ended) :
    exec .stretchLimit s =
      .next (setPort s .hp2
        { s.port .hp2 with
          sent := (([0xF0] : List Byte) ++ List.replicate count 0).take count, link := if ended then .quiet else .reading }) := by
  simp only [exec, execStretchLimit, awake_of_awake awake, link, withPort_eq_setPort, filled_eq, notReady]

theorem exec_stuckSclAbort_writing (awake : s.inReset = none) (link : (s.port .hp2).link = .writing) :
    exec .stuckSclAbort s = .next (setPort s .hp2 (afterLoss (s.port .hp2))) := by
  simp only [exec, execStuckSclAbort, awake_of_awake awake, link, withPort_eq_setPort, afterLoss_eq]

theorem exec_stuckSclAbort_reading (awake : s.inReset = none) (link : (s.port .hp2).link = .reading) :
    exec .stuckSclAbort s = .next (setPort s .hp2 (setLink .quiet (countFraming (s.port .hp2)))) := by
  simp only [exec, execStuckSclAbort, awake_of_awake awake, link, withPort_eq_setPort]

end Reads

/-- Settles O51. -/
theorem i2cReadsAndStretch : Obligations.I2cReadsAndStretch := by
  refine ⟨fun s count ended awake free loose => ⟨fun idle => leaves_of_setPort (exec_i2cRead awake free loose _ count ended) ?_,
      fun asked => leaves_of_setPort (exec_i2cRead awake free loose _ count ended) ?_,
      fun address other => leaves_of_setPort (exec_i2cRead awake free loose address count ended) ?_⟩,
    fun s address count ended awake link => i2cEndedFirst_of_eq link ?_,
    fun s count left ended awake link => leaves_of_setPort (exec_stretchLimit awake link) ?_,
    fun s awake => ⟨fun link => leaves_of_setPort (exec_stuckSclAbort_writing awake link) rfl,
      fun link => leaves_of_setPort (exec_stuckSclAbort_reading awake link) rfl⟩⟩
  · rw [if_pos rfl, if_pos idle]
  · rw [if_pos rfl, if_neg asked]
  · rw [if_neg other]
  · have quieted := endedAt_i2cEnd s
    have loose : isStretching (s.port .hp2).link = false := by rw [link]; rfl
    simp only [exec, execI2cReadTransaction, awake_of_awake awake, awake_of_awake (quieted.awake.trans awake), loose, quieted.free,
      quieted.address, quieted.again, Bool.false_eq_true, if_false]
  · have zeros : (List.replicate count 0).flatMap (fun a => [BitVec.ofNat 8 a]) = List.replicate count 0#8 :=
      List.map_eq_flatMap.symm.trans List.map_replicate
    simp [zeros]

/-! ### The rest and the loss of a frame -/

section Rest

variable {s : State} {p : Port}

/-- The two SPI ports. -/
theorem spi_of_ne_hp2 (h : p ≠ .hp2) : ∃ sp : SpiPort, p = sp.port := by
  cases p with
  | hp0 => exact ⟨.hp0, rfl⟩
  | hp1 => exact ⟨.hp1, rfl⟩
  | hp2 => exact absurd rfl h

theorem exec_frameComplete_spi (awake : s.inReset = none) (sp : SpiPort) (takes : takesBytes (s.port sp.port).link = true)
    (rest : List Byte) : exec (.frameComplete sp.port rest) s = .next (rest.foldl (State.spiByte sp.port) s) := by
  cases sp with
  | hp0 => simp only [exec, execFrameComplete, awake_of_awake awake, SpiPort.port] at takes ⊢; simp only [takes, if_true]
  | hp1 => simp only [exec, execFrameComplete, awake_of_awake awake, SpiPort.port] at takes ⊢; simp only [takes, if_true]

theorem exec_frameLost_spi (awake : s.inReset = none) (sp : SpiPort) (link : (s.port sp.port).link ≠ .quiet)
    (loose : isStretching (s.port sp.port).link = false) :
    exec (.frameLost sp.port) s = .next (s.spiEnd sp.port) := by
  simp only [exec, execFrameLost, awake_of_awake awake]
  cases here : (s.port sp.port).link with
  | quiet => exact absurd here link
  | stretching a b c => rw [here] at loose; exact absurd loose nofun
  | writing => cases sp <;> rfl
  | judging bytes => cases sp <;> rfl
  | ignoring => cases sp <;> rfl
  | reading => cases sp <;> rfl

theorem giving_frameTaken_acks (attn force : Bool) (u : PortUnit) (frame : List Byte) (link : Link) (acks : List Bool) :
    giving [] acks (frameTaken attn force u frame link) =
      { frameTaken attn force u frame link with acks := u.acks ++ acks } := by
  simp only [frameTaken, completed, giving, List.append_nil]
  split
  · rfl
  · split <;> rfl

theorem giving_frameTaken_sent (attn force : Bool) (u : PortUnit) (frame : List Byte) (link : Link) (sent : List Byte) :
    giving sent [] (frameTaken attn force u frame link) =
      { frameTaken attn force u frame link with sent := u.sent ++ sent } := by
  simp only [frameTaken, completed, giving, List.append_nil]
  split
  · rfl
  · split <;> rfl

theorem exec_frameComplete_hp2 (awake : s.inReset = none) (link : (s.port .hp2).link = .writing) {rest : List Byte}
    (whole : WholeFrame (arrived (s.port .hp2) ++ rest)) :
    exec (.frameComplete .hp2 rest) s =
      .next (setPort s .hp2
        { afterFrame s .hp2 (arrived (s.port .hp2) ++ rest) .quiet with
          acks := (s.port .hp2).acks ++ List.replicate rest.length true }) := by
  have nonempty : arrived (s.port .hp2) ++ rest ≠ [] := List.length_pos_iff.1 (by unfold WholeFrame at whole; omega)
  have run := i2cBytes_taken s rest link (.inr whole)
  rw [setPort_self] at run
  have all := arrived_fed (s.port .hp2) rest
  have here : incomingOf (fed (s.port .hp2) rest).state = some (arrived (s.port .hp2) ++ rest) := by
    rw [← all] at nonempty ⊢
    exact incomingOf_of_arrived nonempty
  have full : incomingFull (giving [] (List.replicate rest.length true) (fed (s.port .hp2) rest)) = true := by
    simp only [incomingFull, giving, here, full_of_wholeFrame whole]
  have ended := i2cEnd_whole s (u := giving [] (List.replicate rest.length true) (fed (s.port .hp2) rest)) link
    (by rw [arrived_giving, all]; exact here) (by rw [arrived_giving, all]; exact whole)
  rw [frameTaken_giving, frameTaken_fed, arrived_giving, all] at ended
  simp only [exec, execFrameComplete, awake_of_awake awake, takesBytes, link, run, setPort_port, giving_link, full, if_true]
  rw [if_pos ⟨link, trivial⟩, ended, afterFrame_eq, giving_frameTaken_acks]

theorem frameComplete_spi (awake : s.inReset = none) (sp : SpiPort) (link : (s.port sp.port).link = .writing) {rest : List Byte}
    (nonempty : rest ≠ []) (whole : WholeFrame (arrived (s.port sp.port) ++ rest)) :
    exec (.frameComplete sp.port rest) s =
      .next (setPort s sp.port
        { afterFrame s sp.port (arrived (s.port sp.port) ++ rest) .ignoring with
          sent := (s.port sp.port).sent ++ List.replicate rest.length 0 }) := by
  have run := spiBytes_whole s sp.port nonempty [] link whole
  rw [setPort_self, List.append_nil] at run
  rw [exec_frameComplete_spi awake sp (by rw [link]; rfl), run, afterFrame_eq, giving_frameTaken_sent]
  rfl

theorem exec_frameLost_hp2 (awake : s.inReset = none) (link : (s.port .hp2).link = .writing) :
    exec (.frameLost .hp2) s = .next (setPort s .hp2 (loseI2cFrame (s.port .hp2))) := by
  simp only [exec, execFrameLost, awake_of_awake awake, link, withPort_eq_setPort]

theorem frameLost_spi_writing (awake : s.inReset = none) (sp : SpiPort) (link : (s.port sp.port).link = .writing) :
    exec (.frameLost sp.port) s = .next (setPort s sp.port { afterLoss (s.port sp.port) with driven := false }) := by
  have ended := spiEnd_writing s sp.port _ link
  rw [setPort_self] at ended
  rw [exec_frameLost_spi awake sp (by rw [link]; exact nofun) (by rw [link]; rfl), ended, afterLoss_eq]
  rfl

theorem frameLost_spi_judging (awake : s.inReset = none) (sp : SpiPort) {bytes : List Byte}
    (link : (s.port sp.port).link = .judging bytes) :
    exec (.frameLost sp.port) s =
      .next (setPort s sp.port { afterFailedStart (s.port sp.port) with link := .quiet, driven := false }) := by
  have ended := spiEnd_of_judging s sp.port _ link
  rw [setPort_self] at ended
  rw [exec_frameLost_spi awake sp (by rw [link]; exact nofun) (by rw [link]; rfl), ended]
  rfl

theorem frameLost_uncounted (awake : s.inReset = none) (p : Port)
    (link : (s.port p).link = .ignoring ∨ (s.port p).link = .reading) :
    exec (.frameLost p) s =
      .next (setPort s p
        { s.port p with link := .quiet, driven := if p = .hp2 then (s.port p).driven else false }) := by
  have loose : (s.port p).link ≠ .quiet ∧ (s.port p).link ≠ .writing ∧ isStretching (s.port p).link = false ∧
      takesBytes (s.port p).link = false := by
    rcases link with link | link <;> rw [link] <;> exact ⟨nofun, nofun, rfl, rfl⟩
  obtain ⟨quiet, writing, stretching, idle⟩ := loose
  by_cases hp2 : p = .hp2
  · subst hp2
    have ended := i2cEnd_idle s writing
    rw [setPort_self] at ended
    rcases link with link | link <;>
      simp only [exec, execFrameLost, awake_of_awake awake, link, ended, if_true, setLink]
  · obtain ⟨sp, rfl⟩ := spi_of_ne_hp2 hp2
    have ended := spiEnd_of_idle s sp.port _ idle
    rw [setPort_self] at ended
    rw [exec_frameLost_spi awake sp quiet stretching, ended, if_neg hp2]
    rfl

theorem frameComplete_judging (awake : s.inReset = none) (sp : SpiPort) {bytes : List Byte} (rest : List Byte)
    (link : (s.port sp.port).link = .judging bytes) (few : bytes.length < 4) (head : bytes.head? = some 0xFF) :
    exec (.frameComplete sp.port rest) s =
      .next (setPort s sp.port (giving (List.replicate rest.length 0) [] (judged (bytes ++ rest) (s.port sp.port)))) := by
  have start : (bytes ++ rest).head? = some 0xFF := by rw [List.head?_append, head]; rfl
  have run := spiBytes_judged s sp.port link few start
  rw [setPort_self] at run
  rw [exec_frameComplete_spi awake sp (by rw [link]; rfl), run]

theorem exec_resync (awake : s.inReset = none) (event : ResyncEvent) :
    exec (.resync event) s =
      .next (setPort s (resyncedPort event)
        (resyncOutputs event (resyncPort (beforeResync event (s.port (resyncedPort event)))))) := by
  simp only [exec, execResync, awake_of_awake awake, withPort_eq_setPort]

end Rest

/-- The conclusion of the statements that name what stays beside the ports first. -/
theorem beside_of_setPort {s : State} {c : Instr} {p : Port} {u : PortUnit} {f : PortUnit → PortUnit}
    (run : exec c s = .next (setPort s p u)) (same : u = f (s.port p)) :
    ∃ t, exec c s = .next t ∧ BesidePorts s t ∧ OnlyPort s t p f := by
  obtain ⟨t, run, only, beside⟩ := leaves_of_setPort run same
  exact ⟨t, run, beside, only⟩

/-- Settles O52. -/
theorem framesCompletedLostAndResynced : Obligations.FramesCompletedLostAndResynced := by
  refine ⟨fun s p rest awake link whole goes => ?_, fun s p awake link => ⟨fun here => ?_, fun hp2 probe => ?_⟩,
    fun s p awake link => beside_of_setPort (frameLost_uncounted awake p link) rfl,
    fun s sp bytes rest awake link few head => ⟨beside_of_setPort (frameComplete_judging awake sp rest link few head) ?_,
      beside_of_setPort (frameLost_spi_judging awake sp link) rfl⟩,
    fun s sp more high awake => beside_of_setPort (exec_resync awake (.spi sp more high)) ?_,
    fun s more awake => beside_of_setPort (exec_resync awake (.generalCall more)) rfl⟩
  · by_cases hp2 : p = .hp2
    · subst hp2
      exact beside_of_setPort (exec_frameComplete_hp2 awake link whole) (if_pos rfl).symm
    · obtain ⟨sp, rfl⟩ := spi_of_ne_hp2 hp2
      exact beside_of_setPort (frameComplete_spi awake sp link (goes.resolve_right hp2) whole) (if_neg hp2).symm
  · by_cases hp2 : p = .hp2
    · subst hp2
      have some := incomingOf_of_arrived (here.resolve_left (not_not.2 rfl))
      refine leaves_of_setPort (exec_frameLost_hp2 awake link) ?_
      rw [loseI2cFrame, some, if_neg (Option.some_ne_none _), if_pos rfl, afterLoss_eq]
    · obtain ⟨sp, rfl⟩ := spi_of_ne_hp2 hp2
      exact leaves_of_setPort (frameLost_spi_writing awake sp link) (if_neg hp2).symm
  · subst hp2
    have none : incomingOf (s.port .hp2).state = none := by exact (incomingOf_of_noFrame probe :)
    refine leaves_of_setPort (exec_frameLost_hp2 awake link) ?_
    rw [loseI2cFrame, none, if_pos rfl]
    rfl
  · rw [judged, List.length_append]
    simp only [giving, List.append_nil]
    split
    · rfl
    · split <;> rfl
  · simp only [beforeResync, failStart, resyncedPort]
    cases (s.port sp.port).link <;> rfl

end Sys2Proof.Proofs
end


section
/-! PROOFS. Reset (R171): what begins one, what holds during it, and what its end leaves. -/

namespace Sys2Proof.Proofs

open Sys2Proof.Machine Sys2Proof.Safety Sys2Proof.Laws

/-! ### During a reset -/

section During

variable (s : State) (cause : ResetCause)

theorem beginReset_line (l : Line) : ((s.beginReset cause).line l).drive = .float := by
  simp [State.beginReset, State.line, State.withLines]

theorem beginReset_out (e : EngineNo) : ((s.beginReset cause).engine e).out = .low := by
  simp [State.beginReset, State.engine, State.withEngines]

theorem beginReset_attn (p : Port) : (s.beginReset cause).attn.get p = false := by cases p <;> rfl

theorem beginReset_port (p : Port) : (s.beginReset cause).port p = silentPort (s.port p) := by
  rw [State.port, State.beginReset]
  exact PerPort.get_of _ p

theorem resetByPin_ignored {s : State} {ns : Nat} (short : ns < 1000) : s.resetByPin ns = s := by
  rw [State.resetByPin, if_pos (show ns < Config.resetPulseIgnoredNs from short), ite_self]

theorem resetByPin_taken {s : State} {ns : Nat} (awake : s.inReset = none) (long : 5000 ≤ ns) :
    s.resetByPin ns = s.beginReset .pin := by
  have enough : ¬ns < Config.resetPulseIgnoredNs := by rw [Config.resetPulseIgnoredNs]; omega
  rw [State.resetByPin, if_neg (not_not.2 awake), if_neg enough, if_pos long]

theorem resetByPin_free {s : State} {ns : Nat} (awake : s.inReset = none) (enough : 1000 ≤ ns) (short : ns < 5000) :
    s.resetByPin ns =
      if Config.shortPulseResets s.freeCount then { s.beginReset .pin with freeCount := s.freeCount + 1 }
      else { s with freeCount := s.freeCount + 1 } := by
  rw [State.resetByPin, if_neg (not_not.2 awake), if_neg (not_lt.2 enough), if_neg (not_le.2 short)]

end During

/-! ### The end of a reset -/

section End

variable (cause : ResetCause) (pins : ResetPins) (n : Nat) (rest : List Instr)

theorem afterReset_line (l : Line) :
    (State.afterReset cause pins n rest).line l =
      { raw := pinLevel pins.lines l, run := 0, filtered := pinLevel pins.lines l, direction := .input, commanded := .low
        monitor := .idle, drive := .float } := by
  simp [State.afterReset, State.line, LineCell.reset, levelOf, pinLevel]

theorem afterReset_port (p : Port) :
    (State.afterReset cause pins n rest).port p =
      PortUnit.reset (match p with
        | .hp0 => pins.select0Low
        | .hp1 => pins.select1Low
        | .hp2 => false) := by cases p <;> rfl

theorem afterReset_profile (l : Line) :
    (State.afterReset cause pins n rest).profile.filterCount[l] = 3 ∧
      (State.afterReset cause pins n rest).profile.outputKind[l] = .pushPull := by
  simp [State.afterReset, Profile.reset]

theorem afterReset_address : (State.afterReset cause pins n rest).i2cAddress.toNat = 0x2C + pins.straps.toNat := by
  have bound := pins.straps.isLt
  show (0x2C + pins.straps.zeroExtend 7 : BitVec 7).toNat = _
  rw [BitVec.toNat_add]
  simp
  omega

/-- The end of a reset leaves every block with its reset values. -/
theorem atReset_afterReset : AtReset (State.afterReset cause pins n rest) cause pins := by
  have entry (r : Resource) : (State.afterReset cause pins n rest).entry r =
      { state := .free, generation := 0, failsafe := if r.val < 32 then .float else .driveLow } := by
    rw [afterReset_entry, LeaseEntry.reset, isLine]
    simp only [decide_eq_true_eq]
  refine ⟨entry, afterReset_session cause pins n rest, rfl, rfl, rfl, rfl, afterReset_line cause pins n rest, rfl, fun e => ?_,
    rfl, rfl, rfl, afterReset_profile cause pins n rest, rfl, rfl, fun p => ?_, fun p => ?_, rfl, rfl, rfl, rfl, rfl, rfl,
    fun p => ?_, rfl, rfl, rfl, afterReset_address cause pins n rest⟩
  · rw [afterReset_engine]
    exact ⟨rfl, rfl, rfl, rfl, rfl, rfl, rfl⟩
  · cases p <;> rfl
  · rw [afterReset_port]
    exact ⟨rfl, rfl, rfl, rfl, rfl, rfl⟩
  · rw [afterReset_port]
    exact ⟨rfl, rfl⟩

/-- An SPI port whose select is low at the end of a reset ignores the rest of that transaction. -/
theorem ignored_after_reset {t : State} {p : Port} (awake : t.inReset = none) (link : (t.port p).link = .ignoring)
    (spi : p ≠ .hp2) (bytes : List Byte) :
    exec (.frameComplete p bytes) t = .next t ∧
      ∃ u, exec (.frameLost p) t = .next u ∧ BesidePorts t u ∧
        OnlyPort t u p (fun x => { x with link := .quiet, driven := false }) := by
  refine ⟨?_, beside_of_setPort (frameLost_uncounted awake p (.inl link)) ?_⟩
  · simp only [exec, execFrameComplete, awake_of_awake awake, link, takesBytes, Bool.false_eq_true, if_false]
  · rw [if_neg spi]

end End

/-- Settles O53. -/
theorem resetBeginsAndEnds : Obligations.ResetBeginsAndEnds := by
  have begun (s : State) (cause : ResetCause) :
      (s.beginReset cause).inReset = some cause ∧ (∀ l, ((s.beginReset cause).line l).drive = .float) ∧
        (∀ e, ((s.beginReset cause).engine e).out = .low) ∧ (∀ p, (s.beginReset cause).attn.get p = false) ∧
        ∀ p, ((s.beginReset cause).port p).state = .idle ∧ ((s.beginReset cause).port p).link = .quiet ∧
          ((s.beginReset cause).port p).driven = false :=
    ⟨rfl, beginReset_line s cause, beginReset_out s cause, beginReset_attn s cause, fun p => by
      rw [beginReset_port]
      exact ⟨rfl, rfl, rfl⟩⟩
  refine ⟨fun s ns ev cause event => ?_, fun s ns short => ?_, fun s ns awake enough short => ?_, fun s cause pins during => ?_⟩
  · rcases event with ⟨rfl, rfl⟩ | ⟨rfl, long, awake, rfl⟩
    · exact ⟨_, exec_powerOn s, begun s .powerOn⟩
    · refine ⟨_, ?_, begun s .pin⟩
      rw [exec_pinLow, resetByPin_taken awake long]
  · rw [exec_pinLow, resetByPin_ignored short]
  · refine ⟨_, exec_pinLow ns s, ?_⟩
    rw [resetByPin_free awake enough short]
    split
    · exact .inr ⟨_, by rw [exec_pinLow, resetByPin_taken awake (le_refl 5000)], rfl⟩
    · exact .inl rfl
  · refine ⟨_, exec_resetEnd_some pins during, atReset_afterReset cause pins s.freeCount s.pending, fun bytes => ⟨fun low => ?_,
      fun low => ?_⟩⟩
    · refine ignored_after_reset (t := State.afterReset cause pins s.freeCount s.pending) rfl ?_ (by decide) bytes
      rw [afterReset_port, low]
      rfl
    · refine ignored_after_reset (t := State.afterReset cause pins s.freeCount s.pending) rfl ?_ (by decide) bytes
      rw [afterReset_port, low]
      rfl

/-- Settles O54. -/
theorem resetStateIsAReset : Obligations.ResetStateIsAReset := by
  have closed (p : Port) : State.reset.isOpen p = false := by cases p <;> rfl
  have free (r : Resource) : (State.reset.entry r).state = .free :=
    congrArg LeaseEntry.state (afterReset_entry .powerOn ResetPins.standard 0 [] r)
  refine ⟨atReset_afterReset .powerOn ResetPins.standard 0 [], rfl, ?_, ⟨by decide, nofun⟩, fun p opened => ?_, fun p => ?_,
    afterReset_leasesWf .powerOn ResetPins.standard 0 [],
    (pinsExact_of_awake (s := State.reset) rfl).2 (afterReset_pinsRight .powerOn ResetPins.standard 0 []),
    afterReset_engineFailsafes .powerOn ResetPins.standard 0 [], fun e => .inl ?_⟩
  · simp [State.quiet, free]
    rfl
  · rw [closed p] at opened
    exact absurd opened Bool.false_ne_true
  · cases p <;> rfl
  · exact congrArg Engine.taken (afterReset_engine .powerOn ResetPins.standard 0 [] e)

end Sys2Proof.Proofs
end


section
/-! PROOFS. Requests that are malformed (R161 check 1, R172, R174). -/

namespace Sys2Proof.Proofs

open Sys2Proof.Machine Sys2Proof.Safety Sys2Proof.Laws

section Malformed

variable {s : State} {p : Port} {f : Frame}

/-- A frame of the request's code with a wrong length or a forbidden tag is refused before its session is looked at. -/
theorem take_of_badLength {rq : Request} (takes : s.taking p = some f) (code : f.code = requestCode rq)
    (bad : f.payload.length ≠ requestLength rq ∨ f.tag = 0xF0 ∨ f.tag = 0xF1)
    (body : State → Port → List Byte → State × Reply) :
    s.take rq p body = (s.served p).answer p f.tag (bare .badRequest) := by
  have checked : (s.served p).checked rq p f body = (s.served p, bare .badRequest) := if_pos (decide_eq_true bad)
  simp only [State.take, takes, if_pos code, checked]

theorem exec_unknownCodeRequest (takes : s.taking p = some f) (unknown : ∀ rq, f.code ≠ requestCode rq) :
    exec (.unknownCodeRequest p) s = .next ((s.served p).answer p f.tag (bare .badRequest)) := by
  have none : requestOf f.code = none := by
    rw [requestOf, List.find?_eq_none]
    exact fun rq _ same => unknown rq (of_decide_eq_true same).symm
  simp only [exec, execUnknownCodeRequest, awake_of_awake (taking_eq_some_iff.1 takes).1, takes, none, if_true]

theorem badRequest_answered (s : State) (p : Port) (f : Frame) :
    Answered s ((s.served p).answer p f.tag (bare .badRequest)) p f .badRequest [] ∧
      NothingBeside s ((s.served p).answer p f.tag (bare .badRequest)) :=
  ⟨answered_of_outside f (bare .badRequest) (.refl _), nothingBeside_answer_served s p f.tag (bare .badRequest)⟩

theorem onlyBits_eq_false {k : Nat} {b : Byte} (h : 2 ^ k ≤ b.toNat) : onlyBits k b = false :=
  decide_eq_false (not_lt.2 h)

/-- A flag byte with a bit that no table defines: the body replies BAD_ARGUMENT and does nothing. -/
theorem bodyOf_badFlags {rq : Request} {at_ k : Nat} (flags : flagByte rq = some (at_, k)) {pl : List Byte}
    (bad : 2 ^ k ≤ (byteAt pl at_).toNat) : bodyOf rq s p pl = (s, bare .badArgument) := by
  cases rq with
  | status =>
    obtain ⟨rfl, rfl⟩ := Prod.mk.inj (Option.some.inj flags)
    have refused : statusOperands pl = none := if_neg (by rw [onlyBits_eq_false bad]; exact Bool.false_ne_true)
    simp only [bodyOf, statusBody, refused]
  | openSession =>
    obtain ⟨rfl, rfl⟩ := Prod.mk.inj (Option.some.inj flags)
    have refused : openOperands pl = none := if_neg (by simp [onlyBits_eq_false bad])
    exact openBody_badArgument refused
  | claim =>
    obtain ⟨rfl, rfl⟩ := Prod.mk.inj (Option.some.inj flags)
    have refused : claimOperands pl = none := by
      unfold claimOperands
      cases resourceSetAt pl 0 with
      | none => rfl
      | some set => exact if_neg (by simp [onlyBits_eq_false bad])
    exact claimBody_badArgument refused
  | configureEngine =>
    obtain ⟨rfl, rfl⟩ := Prod.mk.inj (Option.some.inj flags)
    have fields : configFields pl = none := by
      unfold configFields
      split
      · exact if_neg (by simp [onlyBits_eq_false bad])
      · rfl
    have refused : configureOperands pl = none := by
      rw [configureOperands, fields]
      cases engineOperand pl <;> rfl
    exact configureBody_badArgument refused
  | fetch =>
    obtain ⟨rfl, rfl⟩ := Prod.mk.inj (Option.some.inj flags)
    have refused : fetchOperands pl = none := if_neg (by simp [onlyBits_eq_false bad])
    simp only [bodyOf, fetchBody, refused]
  | _ => exact absurd flags (by simp [flagByte])

end Malformed

/-- Settles O7. -/
theorem malformedRequestsRefused : Obligations.MalformedRequestsRefused := by
  refine ⟨fun s rq p f takes code bad => ⟨_, ?_, badRequest_answered s p f⟩,
    fun s p f takes unknown => ⟨_, exec_unknownCodeRequest takes unknown, badRequest_answered s p f⟩,
    fun s p f ready passes large => take_of_reply rfl ready passes (setDirectionBody_badArgument (.inl large)),
    fun s rq p f ready passes at_ k flags bad => ?_⟩
  · rw [exec_commandOf, awake_of_awake (taking_eq_some_iff.1 takes).1, take_of_badLength takes code bad]
  · rw [exec_commandOf]
    by_cases free : rq = .status ∨ rq = .openSession
    · simp only [if_pos free]
      have unchecked : hasSessionCheck rq = false := by rcases free with rfl | rfl <;> rfl
      exact take_of_free_reply unchecked ready (bodyOf_badFlags flags bad)
    · simp only [if_neg free]
      obtain ⟨status, opening⟩ := not_or.1 free
      have time : rq ≠ .time := by
        rintro rfl
        exact absurd flags (by simp [flagByte])
      exact take_of_reply (hasSessionCheck_of_ne status time opening) ready (passes status opening) (bodyOf_badFlags flags bad)

end Sys2Proof.Proofs
end


section
/-! PROOFS. The ticks at which engines act: phase ends, limits and windows (R103, R105, R109, R110). -/

namespace Sys2Proof.Proofs

open Sys2Proof.Machine Sys2Proof.Safety Sys2Proof.Laws

/-! ### Happenings of one engine -/

/-- A happening of one engine without a record. -/
def Quietly (s u : State) (e : EngineNo) : Prop := EngineHappening s u e ∧ NoRecord s u

section Quietly

variable {s u v : State} {e : EngineNo}

theorem Quietly.refl (s : State) (e : EngineNo) : Quietly s s e := ⟨happening_refl s e, rfl, rfl⟩

theorem Quietly.trans (h : Quietly s u e) (k : Quietly u v e) : Quietly s v e :=
  ⟨happening_trans h.1 k.1, k.2.1.trans h.2.1, k.2.2.trans h.2.2⟩

theorem withEngine_quietly (s : State) (e : EngineNo) (f : Engine → Engine) : Quietly s (s.withEngine e f) e :=
  ⟨withEngine_happening s e f, by simp [NoRecord]⟩

theorem setEngineState_quietly (s : State) (e : EngineNo) (st : EngineState) : Quietly s (s.setEngineState e st) e :=
  ⟨setEngineState_happening s e st, by simp [NoRecord]⟩

theorem holderSet_get (s : State) (e : EngineNo) : (s.holderSet (engineResource e)).get = holderIs s e := by
  funext q
  rw [State.holderSet, holderIs, State.holds]
  cases s.holderOf (engineResource e) with
  | none => cases q <;> rfl
  | some p => simp [onlyPort, eq_comm]

theorem EngineHappening.holderIs (h : EngineHappening s u e) (k : EngineNo) : holderIs u k = holderIs s k := by
  obtain ⟨-, -, ⟨leases, -⟩, -⟩ := h
  funext q
  have holder : u.holderOf (engineResource k) = s.holderOf (engineResource k) := by
    rw [State.holderOf, State.entry, leases, State.holderOf, State.entry]
  rw [Safety.holderIs, State.holds, holder]
  rfl

/-- A result recorded after steps without a record is the happening's one record. -/
theorem Quietly.resultMade (h : Quietly s u e) (mode : Mode) (outcome : EngineOutcome) (value aux : Nat) (time : Count) :
    ResultMade s (u.appendResult e mode outcome value aux time) e mode outcome value aux time := by
  obtain ⟨happens, journal, nextSeq⟩ := h
  have isOpen : u.isOpen = s.isOpen := funext (isOpen_of_frame happens.2.1)
  have appended := appended_append u (u.holderSet (engineResource e)) time (.engineResult e mode outcome value aux)
  rw [holderSet_get, EngineHappening.holderIs happens] at appended
  unfold Appended at appended
  rwa [isOpen, journal, nextSeq] at appended

/-- The engine goes on in another state, without a record. -/
theorem Quietly.moves (h : Quietly s u e) {g : Engine} (engine : u.engine e = g) (st : EngineState) :
    EngineHappening s (u.setEngineState e st) e ∧ NoRecord s (u.setEngineState e st) ∧
      (u.setEngineState e st).engine e = { g with state := st, out := (u.setEngineState e st).engineDrive e } := by
  obtain ⟨happens, quiet⟩ := h.trans (setEngineState_quietly u e st)
  refine ⟨happens, quiet, ?_⟩
  rw [← engine]
  exact setEngineState_engine_engineDrive u e st

/-- The engine goes on in another state, with a result. -/
theorem Quietly.results (h : Quietly s u e) {g : Engine} (engine : u.engine e = g) (st : EngineState) (mode : Mode)
    (outcome : EngineOutcome) (value aux : Nat) (time : Count) :
    let t := (u.setEngineState e st).appendResult e mode outcome value aux time
    EngineHappening s t e ∧ t.engine e = { g with state := st, out := t.engineDrive e } ∧
      ResultMade s t e mode outcome value aux time := by
  have quiet := h.trans (setEngineState_quietly u e st)
  refine ⟨happening_trans quiet.1 (appendResult_happening _ e mode outcome value aux time), ?_,
    Quietly.resultMade quiet mode outcome value aux time⟩
  rw [State.appendResult, append_engine, engineDrive_append, ← engine]
  exact setEngineState_engine_engineDrive u e st

/-- The run ends with a result. -/
theorem Quietly.finishes (h : Quietly s u e) {g : Engine} (engine : u.engine e = g) (mode : Mode) (outcome : EngineOutcome)
    (value aux : Nat) (time : Count) :
    let t := u.finishRun e mode outcome value aux time
    EngineHappening s t e ∧ t.engine e = { g with state := .idle, out := t.engineDrive e } ∧
      ResultMade s t e mode outcome value aux time :=
  Quietly.results h engine .idle mode outcome value aux time

end Quietly

theorem withEngine_congr {s : State} {e : EngineNo} {f g : Engine → Engine} (same : f (s.engine e) = g (s.engine e)) :
    s.withEngine e f = s.withEngine e g := by
  have fields : (fun (k : EngineNo) => if k = e then f s.engines[k] else s.engines[k]) =
      fun (k : EngineNo) => if k = e then g s.engines[k] else s.engines[k] := by
    funext k
    split
    next here =>
      rw [here]
      exact same
    next => rfl
  simp only [State.withEngine, State.withEngines, fields]

/-! ### The tick that reaches an engine's end (R99) -/

/-- The engine has taken the tick of the present count, and has not yet acted on it. -/
def tickTaken (s : State) (e : EngineNo) : State := s.withEngine e fun g => Safety.ticked g s.timeCount

section EndNow

variable {s : State} {e : EngineNo}

theorem tickTaken_quietly (s : State) (e : EngineNo) : Quietly s (tickTaken s e) e := withEngine_quietly s e _

theorem tickTaken_engine (s : State) (e : EngineNo) : (tickTaken s e).engine e = Safety.ticked (s.engine e) s.timeCount := by
  rw [tickTaken, State.engine_withEngine, if_pos rfl]

theorem countsTicks_of_end {st : EngineState} {t : Count} (h : engineEnd st = some t) : countsTicks st = true := by
  cases st with
  | idle => exact absurd h nofun
  | gated ph n => exact absurd h nofun
  | armed limit => rfl
  | timed ph x => rfl
  | measuring a b => rfl

theorem takeTick_of_endNow (h : EndNow s e) : s.takeTick e = (tickTaken s e).engineAct e s.timeCount := by
  obtain ⟨-, next, reached⟩ := h
  have counted : (s.withEngine e fun g =>
      { g with
        taken := (s.engine e).taken + 1, elapsed := if countsTicks g.state then satInc max32 g.elapsed else g.elapsed }) =
      tickTaken s e := by
    refine withEngine_congr ?_
    rw [Safety.ticked, countsTicks_of_end reached, if_pos rfl, next]
    rfl
  simp only [State.takeTick, counted]
  rw [next, if_pos reached]

theorem endDue_of_endNow (h : EndNow s e) : s.endDue e = true := by
  obtain ⟨-, next, reached⟩ := h
  rw [State.endDue, reached]
  refine decide_eq_true ?_
  rw [← next]
  bv_omega

theorem endTick_of_endNow {c : EngineConfig} {mode : Mode} (h : EndNow s e) (config : (s.engine e).config = some c)
    (runs : c.mode = mode) : s.endTick e mode = (tickTaken s e).engineAct e s.timeCount := by
  have due := endDue_of_endNow h
  have inMode : s.runsIn e mode = true := by simp only [State.runsIn, config, runs, decide_true]
  rw [← takeTick_of_endNow h]
  obtain ⟨-, next, reached⟩ := h
  have one : (s.timeCount - (s.engine e).taken).toNat = 1 := by
    rw [← next]
    bv_omega
  rw [State.endTick, inMode, due, Bool.and_self, if_pos rfl, one, State.takeToEnd, if_pos (by rw [next]; exact reached)]

theorem exec_engineTick_of_endNow (h : EndNow s e) :
    exec (.engineTick e) s = .next ((tickTaken s e).engineAct e s.timeCount) := by
  have left := left_of_endDue (endDue_of_endNow h)
  simp only [exec, execEngineTick, awake_of_awake h.1, if_neg left, takeTick_of_endNow h]

end EndNow

/-! ### What an engine does at its end -/

section Act

variable {u : State} {e : EngineNo} {c : EngineConfig} (config : (u.engine e).config = some c) (time : Count)

include config

theorem engineAct_high {x : Count} (state : (u.engine e).state = .timed .high x) :
    u.engineAct e time = u.setEngineState e (.timed .low (ticksAfter time c.b)) := by
  simp only [State.engineAct, config, state]

theorem engineAct_low {x : Count} (state : (u.engine e).state = .timed .low x) :
    u.engineAct e time = u.trainPulseEnd e c time := by
  simp only [State.engineAct, config, state]

theorem engineAct_delay {x : Count} (state : (u.engine e).state = .timed .delay x) :
    u.engineAct e time = u.setEngineState e (.timed .pulse (ticksAfter time c.b)) := by
  simp only [State.engineAct, config, state]

theorem engineAct_pulse {x : Count} (state : (u.engine e).state = .timed .pulse x) :
    u.engineAct e time = u.delayedPulseEnd e c time := by
  simp only [State.engineAct, config, state]

theorem engineAct_counting {x : Count} (state : (u.engine e).state = .timed .counting x) :
    u.engineAct e time = u.windowEnd e c time := by
  simp only [State.engineAct, config, state]

theorem engineAct_armed {limit : Option Count} (state : (u.engine e).state = .armed limit) :
    u.engineAct e time = u.finishRun e c.mode .timeout 0 0 time := by
  simp only [State.engineAct, config, state]

theorem engineAct_measuring {opening limit : Count} (state : (u.engine e).state = .measuring opening limit) :
    u.engineAct e time = u.finishRun e c.mode .timeout (time - opening).toNat 0 time := by
  simp only [State.engineAct, config, state]

end Act

/-- One more pulse of the engine is done. -/
def pulseDone (u : State) (e : EngineNo) : State := u.withEngine e fun g => { g with pulses := g.pulses + 1 }

theorem pulseDone_engine {u : State} {e : EngineNo} {g : Engine} (engine : u.engine e = g) :
    (pulseDone u e).engine e = { g with pulses := g.pulses + 1 } := by
  rw [pulseDone, State.engine_withEngine, if_pos rfl, engine]

section Ends

variable {s u : State} {e : EngineNo} {g : Engine} (c : EngineConfig) (time : Count)

theorem trainPulseEnd_overflow (engine : u.engine e = g) (most : g.pulses = 4294967295) :
    u.trainPulseEnd e c time = u.finishRun e c.mode .overflow 4294967295 0 time := by
  rw [State.trainPulseEnd, engine]
  exact if_pos most

theorem trainPulseEnd_last (engine : u.engine e = g) (room : g.pulses ≠ 4294967295)
    (last : c.repeatCount ≠ 0 ∧ g.pulses + 1 = c.repeatCount) :
    u.trainPulseEnd e c time = (pulseDone u e).finishRun e c.mode .done c.repeatCount 0 time := by
  rw [State.trainPulseEnd, engine]
  have counts : c.repeatCount ≠ 0 ∧ True := ⟨last.1, trivial⟩
  simp only [if_neg (show ¬g.pulses = max32 from room), last.2, if_pos counts, pulseDone]

theorem trainPulseEnd_more (engine : u.engine e = g) (room : g.pulses ≠ 4294967295)
    (more : c.repeatCount = 0 ∨ g.pulses + 1 ≠ c.repeatCount) :
    u.trainPulseEnd e c time = (pulseDone u e).setEngineState e (.timed .high (ticksAfter time c.a)) := by
  have goes : ¬(c.repeatCount ≠ 0 ∧ g.pulses + 1 = c.repeatCount) := fun last => more.elim last.1 fun other => other last.2
  rw [State.trainPulseEnd, engine]
  simp only [if_neg (show ¬g.pulses = max32 from room), if_neg goes, pulseDone]

theorem delayedPulseEnd_overflow (engine : u.engine e = g) (most : g.pulses = 4294967295) :
    u.delayedPulseEnd e c time = u.finishRun e c.mode .overflow 4294967295 g.ignored time := by
  rw [State.delayedPulseEnd, engine]
  exact if_pos most

theorem delayedPulseEnd_done (engine : u.engine e = g) (room : g.pulses ≠ 4294967295) :
    u.delayedPulseEnd e c time =
      ((pulseDone u e).setEngineState e (if c.rearm then .armed none else .idle)).appendResult e c.mode .done (g.pulses + 1)
        g.ignored time := by
  rw [State.delayedPulseEnd, engine]
  simp only [if_neg (show ¬g.pulses = max32 from room), pulseDone]

end Ends

/-! ### The ends of the modes -/

/-- Settles O39. -/
theorem pulseTrainPhaseEnds : Obligations.PulseTrainPhaseEnds := by
  intro s e c cmd now config mode command g
  have run : exec cmd s = .next ((tickTaken s e).engineAct e s.timeCount) := by
    rcases command with rfl | rfl
    · simp only [exec, execPulseTrainPhaseEnd, awake_of_awake now.1, endTick_of_endNow now config mode]
    · exact exec_engineTick_of_endNow now
  have quiet := tickTaken_quietly s e
  have engine : (tickTaken s e).engine e = g := tickTaken_engine s e
  have config' : ((tickTaken s e).engine e).config = some c := by rw [engine]; exact config
  have counted := Quietly.trans quiet (withEngine_quietly (tickTaken s e) e fun g => { g with pulses := g.pulses + 1 })
  refine ⟨fun x state => ⟨_, run, ?_⟩, fun x state most => ⟨_, run, ?_⟩, fun x state room counts last => ⟨_, run, ?_⟩,
    fun x state room more => ⟨_, run, ?_⟩⟩ <;> rw [← engine] at state
  · rw [engineAct_high config' _ state]
    exact Quietly.moves quiet engine _
  · rw [engineAct_low config' _ state, trainPulseEnd_overflow c _ engine most, mode]
    exact Quietly.finishes quiet engine _ _ _ _ _
  · rw [engineAct_low config' _ state, trainPulseEnd_last c _ engine room ⟨counts, last⟩, mode]
    exact Quietly.finishes counted (pulseDone_engine engine) _ _ _ _ _
  · rw [engineAct_low config' _ state, trainPulseEnd_more c _ engine room more]
    exact Quietly.moves counted (pulseDone_engine engine) _

/-- Settles O40. -/
theorem delayedPulsePhaseEnds : Obligations.DelayedPulsePhaseEnds := by
  intro s e c cmd now config mode command g
  have run : exec cmd s = .next ((tickTaken s e).engineAct e s.timeCount) := by
    rcases command with rfl | rfl
    · simp only [exec, execDelayedPulsePhaseEnd, awake_of_awake now.1, endTick_of_endNow now config mode]
    · exact exec_engineTick_of_endNow now
  have quiet := tickTaken_quietly s e
  have engine : (tickTaken s e).engine e = g := tickTaken_engine s e
  have config' : ((tickTaken s e).engine e).config = some c := by rw [engine]; exact config
  have counted := Quietly.trans quiet (withEngine_quietly (tickTaken s e) e fun g => { g with pulses := g.pulses + 1 })
  refine ⟨fun x state => ⟨_, run, ?_⟩, fun x state most => ⟨_, run, ?_⟩, fun x state room => ⟨_, run, ?_⟩⟩ <;>
    rw [← engine] at state
  · rw [engineAct_delay config' _ state]
    exact Quietly.moves quiet engine _
  · rw [engineAct_pulse config' _ state, delayedPulseEnd_overflow c _ engine most, mode]
    exact Quietly.finishes quiet engine _ _ _ _ _
  · rw [engineAct_pulse config' _ state, delayedPulseEnd_done c _ engine room, mode]
    exact Quietly.results counted (pulseDone_engine engine) _ _ _ _ _ _

/-- Settles O41. -/
theorem limitAndWindowEnd : Obligations.LimitAndWindowEnd := by
  intro s e c cmd now config g
  have quiet := tickTaken_quietly s e
  have engine : (tickTaken s e).engine e = g := tickTaken_engine s e
  have config' : ((tickTaken s e).engine e).config = some c := by rw [engine]; exact config
  refine ⟨fun mode command => ?_, fun mode command x state => ?_⟩
  · have run : exec cmd s = .next ((tickTaken s e).engineAct e s.timeCount) := by
      rcases command with rfl | rfl
      · simp only [exec, execMeasureLimitEnd, awake_of_awake now.1]
        rcases mode with width | period
        · simp only [State.runsIn, config, width, decide_true, if_true, endTick_of_endNow now config width]
        · simp only [State.runsIn, config, period, reduceCtorEq, decide_false, Bool.false_eq_true, if_false,
            endTick_of_endNow now config period]
      · exact exec_engineTick_of_endNow now
    refine ⟨fun limit state => ⟨_, run, ?_⟩, fun opening limit state => ⟨_, run, ?_⟩⟩ <;> rw [← engine] at state
    · rw [engineAct_armed config' _ state]
      exact Quietly.finishes quiet engine _ _ _ _ _
    · rw [engineAct_measuring config' _ state]
      exact Quietly.finishes quiet engine _ _ _ _ _
  · have run : exec cmd s = .next ((tickTaken s e).engineAct e s.timeCount) := by
      rcases command with rfl | rfl
      · simp only [exec, execCountWindowEnd, awake_of_awake now.1, endTick_of_endNow now config mode]
      · exact exec_engineTick_of_endNow now
    refine ⟨_, run, ?_⟩
    rw [← engine] at state
    rw [engineAct_counting config' _ state, State.windowEnd, engine, mode]
    split
    · have zeroed := Quietly.trans quiet (withEngine_quietly (tickTaken s e) e fun g => { g with edges := 0 })
      have zero : ((tickTaken s e).withEngine e fun g => { g with edges := 0 }).engine e = { g with edges := 0 } := by
        rw [State.engine_withEngine, if_pos rfl, engine]
      exact Quietly.results zeroed zero _ _ _ _ _ _
    · exact Quietly.finishes quiet engine _ _ _ _ _

end Sys2Proof.Proofs
end


section
/-! PROOFS. The ticks that engines count (R99, R145), and the edges that reach them (R104 to R110). -/

namespace Sys2Proof.Proofs

open Sys2Proof.Machine Sys2Proof.Safety Sys2Proof.Laws

/-! ### Ticks -/

section Ticks

variable {s : State} {e : EngineNo}

theorem exec_engineTick_taken (taken : (s.engine e).taken = s.timeCount) : exec (.engineTick e) s = .next s := by
  simp only [exec, execEngineTick, State.awake, if_pos taken, ite_self]

theorem exec_engineTick_left (awake : s.inReset = none) (left : (s.engine e).taken ≠ s.timeCount) :
    exec (.engineTick e) s = .next (s.takeTick e) := by
  simp only [exec, execEngineTick, awake_of_awake awake, if_neg left]

/-- An engine that lags by one tick at most has taken all of them after its next. -/
theorem exec_engineTick_near (awake : s.inReset = none)
    (near : (s.engine e).taken = s.timeCount ∨ (s.engine e).taken + 1 = s.timeCount) :
    exec (.engineTick e) s = .next (s.settleTicks e) := by
  rcases near with taken | next
  · rw [exec_engineTick_taken taken, settleTicks_of_taken taken]
  · have left : (s.engine e).taken ≠ s.timeCount := fun same => by simp [same] at next
    rw [exec_engineTick_left awake left, settleTicks_of_near next]

theorem ticksNear_settleTicks (near : TicksNear s) (e : EngineNo) : TicksNear (s.settleTicks e) := fun k => by
  rw [(settleTicks_outside s e).timeCount]
  by_cases own : k = e
  · exact .inl (by rw [own, taken_settleTicks])
  · rw [settleTicks_others s own]
    exact near k

theorem settleTicks_awake (s : State) (e : EngineNo) : (s.settleTicks e).inReset = s.inReset := (settleTicks_outside s e).inReset

/-- A tick that is not the engine's end is counted while it is ARMED or RUNNING. -/
theorem takeTick_of_not_end (before : engineEnd (s.engine e).state ≠ some ((s.engine e).taken + 1)) :
    s.takeTick e = s.withEngine e fun g =>
      { g with
        taken := (s.engine e).taken + 1, elapsed := if countsTicks g.state then satInc max32 g.elapsed else g.elapsed } :=
  if_neg before

end Ticks

/-- Settles O38. -/
theorem ticksCounted : Obligations.TicksCounted := by
  refine ⟨fun s awake taken => ?_, fun s awake near => ?_, fun s e awake left before => ?_,
    fun s e taken => exec_engineTick_taken taken⟩
  · have settled (l : List EngineNo) : l.foldl State.settleTicks s = s := by
      induction l with
      | nil => rfl
      | cons e l ih => rw [List.foldl_cons, settleTicks_of_taken (taken e), ih]
    simp only [exec, execTick, awake_of_awake awake, settled]
  · have next {u : State} (awake : u.inReset = none) (near : TicksNear u) (e : EngineNo) :
        exec (.engineTick e) u = .next (u.settleTicks e) ∧ (u.settleTicks e).inReset = none ∧ TicksNear (u.settleTicks e) :=
      ⟨exec_engineTick_near awake (near e), (settleTicks_awake u e).trans awake, ticksNear_settleTicks near e⟩
    obtain ⟨run0, awake0, near0⟩ := next awake near 0
    obtain ⟨run1, awake1, near1⟩ := next awake0 near0 1
    obtain ⟨run2, awake2, near2⟩ := next awake1 near1 2
    obtain ⟨run3, awake3, near3⟩ := next awake2 near2 3
    have all : (List.finRange 4).foldl State.settleTicks s =
        (((s.settleTicks 0).settleTicks 1).settleTicks 2).settleTicks 3 := rfl
    have time : ((List.finRange 4).foldl State.settleTicks s).timeCount = s.timeCount :=
      (SameOutside.foldl State.settleTicks settleTicks_outside (List.finRange 4) s).timeCount
    refine ⟨_, run0, _, run1, _, run2, _, run3, ?_, fun e => ?_⟩
    · simp only [exec, execTick, awake_of_awake awake, time]
      rw [all]
    · rw [← all]
      exact taken_settleAll s (.inl (List.mem_finRange e))
  · have counted := takeTick_of_not_end before
    refine ⟨_, exec_engineTick_left awake left, ?_, takeTick_happening s e, by rw [counted]; simp [SameJournal]⟩
    rw [counted, State.engine_withEngine, if_pos rfl]
    generalize s.engine e = g
    obtain ⟨st, _, _, _, _, _, _, _⟩ := g
    cases st <;> rfl

/-! ### Edges -/

section Edges

variable {s : State} {e : EngineNo}

theorem countEdge_quietly (s : State) (e : EngineNo) : Quietly s (s.countEdge e) e := withEngine_quietly s e _

theorem countEdge_engine (s : State) (e : EngineNo) : (s.countEdge e).engine e = edgeCounted (s.engine e) := by
  rw [State.countEdge, State.engine_withEngine, if_pos rfl]
  rfl

theorem closeMeasurement_happening (c : EngineConfig) (opening : Count) (after : EngineState) :
    EngineHappening s (s.closeMeasurement e c opening after) e :=
  (Quietly.results (countEdge_quietly s e) rfl after c.mode .done (s.timeCount - opening).toNat 0 s.timeCount).1

/-- An edge counted, with a new state of the engine. -/
theorem countEdge_moves (s : State) (e : EngineNo) (st : EngineState) :
    let t := (s.countEdge e).setEngineState e st
    EngineHappening s t e ∧ NoRecord s t ∧ t.engine e = { edgeCounted (s.engine e) with state := st, out := t.engineDrive e } :=
  Quietly.moves (countEdge_quietly s e) (countEdge_engine s e) st

/-- An edge counted that closes a measurement, with its result. -/
theorem countEdge_closes (s : State) (e : EngineNo) (c : EngineConfig) (opening : Count) (after : EngineState) :
    let t := s.closeMeasurement e c opening after
    t.engine e = { edgeCounted (s.engine e) with state := after, out := t.engineDrive e } ∧
      ResultMade s t e c.mode .done (s.timeCount - opening).toNat 0 s.timeCount :=
  (Quietly.results (countEdge_quietly s e) (countEdge_engine s e) after c.mode .done (s.timeCount - opening).toNat 0
    s.timeCount).2

theorem gateEdge_happening (c : EngineConfig) (level : Level) : EngineHappening s (s.gateEdge e c level) e := by
  unfold State.gateEdge
  split
  · split
    · exact happening_refl s e
    · exact setEngineState_happening s e _
  · split
    · exact setEngineState_happening s e _
    · exact happening_refl s e
  all_goals exact happening_refl s e

theorem triggerEdge_happening (c : EngineConfig) : EngineHappening s (s.triggerEdge e c) e := by
  unfold State.triggerEdge
  split
  · exact (countEdge_moves s e _).1
  · exact withEngine_happening s e _
  all_goals exact happening_refl s e

theorem widthEdge_happening (c : EngineConfig) (level : Level) : EngineHappening s (s.widthEdge e c level) e := by
  unfold State.widthEdge
  split
  · split
    · exact (countEdge_moves s e _).1
    · exact happening_refl s e
  · exact closeMeasurement_happening c _ _
  all_goals exact happening_refl s e

theorem periodEdge_happening (c : EngineConfig) : EngineHappening s (s.periodEdge e c) e := by
  unfold State.periodEdge
  split
  · exact (countEdge_moves s e _).1
  · exact closeMeasurement_happening c _ _
  all_goals exact happening_refl s e

theorem counterEdge_happening : EngineHappening s (s.counterEdge e) e := by
  unfold State.counterEdge
  split
  · exact (countEdge_quietly s e).1
  all_goals exact happening_refl s e

theorem edgeAtEngine_happening (l : Line) (level : Level) : EngineHappening s (s.edgeAtEngine l level e) e := by
  unfold State.edgeAtEngine
  split
  · exact happening_refl s e
  · split <;> split
    next => exact gateEdge_happening _ level
    next => exact happening_refl s e
    next => exact triggerEdge_happening _
    next => exact happening_refl s e
    next => exact widthEdge_happening _ level
    next => exact happening_refl s e
    next => exact periodEdge_happening _
    next => exact happening_refl s e
    next => exact counterEdge_happening
    next => exact happening_refl s e

theorem edgeToEngine_happening (s : State) (l : Line) (level : Level) (e : EngineNo) :
    EngineHappening s (State.edgeToEngine l level s e) e := by
  unfold State.edgeToEngine
  split
  · exact happening_trans (catchUp_happening s e) (edgeAtEngine_happening l level)
  · exact happening_refl s e

end Edges

/-- An edge to a level is the active edge of a configuration (R105 to R110). -/
theorem isActive_iff (c : EngineConfig) (level : Level) :
    isActive c level = true ↔ c.edge = .rising ∧ level = .high ∨ c.edge = .falling ∧ level = .low := by
  rw [isActive, decide_eq_true_iff]
  cases c.edge <;> cases level <;> simp [activeLevel]

section EdgeCases

variable {s : State} {e : EngineNo} {l : Line} {level : Level} {c : EngineConfig} (config : (s.engine e).config = some c)
  (calm : NoEndDue s e)

include config

theorem edgeToEngine_unnamed (input : c.input ≠ some l) (gate : c.gate ≠ some l) :
    State.edgeToEngine l level s e = s := by
  rw [State.edgeToEngine, if_neg]
  simp [namesLine, config, input, gate]

theorem edgeAtEngine_idle (idle : (s.engine e).state = .idle) : s.edgeAtEngine l level e = s := by
  unfold State.edgeAtEngine
  rw [config]
  simp only [State.gateEdge, State.triggerEdge, State.widthEdge, State.periodEdge, State.counterEdge, idle, ite_self]
  split <;> rfl

theorem edgeAtEngine_inactive (mode : c.mode = .delayedPulse ∨ c.mode = .measurePeriod ∨ c.mode = .countEdges)
    (inactive : isActive c level ≠ true) : s.edgeAtEngine l level e = s := by
  have none : ¬(c.input = some l ∧ isActive c level = true) := fun both => inactive both.2
  rcases mode with mode | mode | mode <;> simp only [State.edgeAtEngine, config, mode, if_neg none]

include calm

/-- An edge at an engine whose configuration names the line, and whose end is not due. -/
theorem edgeToEngine_named (names : c.input = some l ∨ c.gate = some l) :
    State.edgeToEngine l level s e = s.edgeAtEngine l level e := by
  rw [State.edgeToEngine, if_pos (by simp only [namesLine, config, names, decide_true]), catchUp_of_not_due calm]

/-- What leaves the state as it is at the engine leaves it so for the edge. -/
theorem edgeToEngine_unmoved (same : s.edgeAtEngine l level e = s) : State.edgeToEngine l level s e = s := by
  rw [State.edgeToEngine, catchUp_of_not_due calm, same, ite_self]

theorem edgeToEngine_gate (mode : c.mode = .pulseTrain) (gate : c.gate = some l) :
    State.edgeToEngine l level s e = s.gateEdge e c level := by
  rw [edgeToEngine_named config calm (.inr gate)]
  simp only [State.edgeAtEngine, config, mode, if_pos gate]

variable (input : c.input = some l)

include input

theorem edgeToEngine_trigger (mode : c.mode = .delayedPulse) (active : isActive c level = true) :
    State.edgeToEngine l level s e = s.triggerEdge e c := by
  rw [edgeToEngine_named config calm (.inl input)]
  simp only [State.edgeAtEngine, config, mode, input, active, and_self, if_true]

theorem edgeToEngine_width (mode : c.mode = .measureWidth) : State.edgeToEngine l level s e = s.widthEdge e c level := by
  rw [edgeToEngine_named config calm (.inl input)]
  simp only [State.edgeAtEngine, config, mode, input, if_true]

theorem edgeToEngine_period (mode : c.mode = .measurePeriod) (active : isActive c level = true) :
    State.edgeToEngine l level s e = s.periodEdge e c := by
  rw [edgeToEngine_named config calm (.inl input)]
  simp only [State.edgeAtEngine, config, mode, input, active, and_self, if_true]

theorem edgeToEngine_counter (mode : c.mode = .countEdges) (active : isActive c level = true) :
    State.edgeToEngine l level s e = s.counterEdge e := by
  rw [edgeToEngine_named config calm (.inl input)]
  simp only [State.edgeAtEngine, config, mode, input, active, and_self, if_true]

end EdgeCases

/-- Settles O42. -/
theorem edgesAtEngines : Obligations.EdgesAtEngines := by
  intro s l level e c config calm t g active
  have isActive : isActive c level = true ↔ active := isActive_iff c level
  refine ⟨edgeToEngine_happening s l level e, edgeToEngine_unnamed config,
    fun idle => edgeToEngine_unmoved config calm (edgeAtEngine_idle config idle), fun mode gate ph x state closes => ?_,
    fun mode gate ph n state opens => ?_, fun mode input act limit state => ?_, fun mode input act ph x state => ?_,
    fun mode inactive => edgeToEngine_unmoved config calm (edgeAtEngine_inactive config mode (inactive ∘ isActive.1)),
    fun mode input limit state => ⟨fun inactive => ?_, fun act => ?_⟩, fun mode input opening limit state => ?_,
    fun mode input act limit state => ?_, fun mode input act opening limit state => ?_, fun mode input act ph x state => ?_⟩
  · have moved : t = s.setEngineState e (.gated ph (x - s.timeCount).toNat) := by
      simp only [t, edgeToEngine_gate config calm mode gate, State.gateEdge, show (s.engine e).state = _ from state, if_neg closes.symm]
    rw [moved]
    exact (Quietly.moves (Quietly.refl s e) rfl _).2
  · have moved : t = s.setEngineState e (.timed ph (ticksAfter s.timeCount n)) := by
      simp only [t, edgeToEngine_gate config calm mode gate, State.gateEdge, show (s.engine e).state = _ from state, if_pos opens.symm]
    rw [moved]
    exact (Quietly.moves (Quietly.refl s e) rfl _).2
  · have moved : t = (s.countEdge e).setEngineState e (.timed .delay (ticksAfter s.timeCount c.a)) := by
      simp only [t, edgeToEngine_trigger config calm input mode (isActive.2 act), State.triggerEdge,
        show (s.engine e).state = _ from state]
    rw [moved]
    exact (countEdge_moves s e _).2
  · have moved : t = s.withEngine e fun g => { g with ignored := satInc max32 g.ignored } := by
      simp only [t, edgeToEngine_trigger config calm input mode (isActive.2 act), State.triggerEdge,
        show (s.engine e).state = _ from state]
    rw [moved]
    refine ⟨(withEngine_quietly s e _).2, ?_⟩
    rw [State.engine_withEngine, if_pos rfl]
    rfl
  · have still : s.widthEdge e c level = s := by
      simp only [State.widthEdge, show (s.engine e).state = _ from state, if_neg (inactive ∘ isActive.1)]
    exact (edgeToEngine_width config calm input mode).trans still
  · have moved : t = (s.countEdge e).setEngineState e (.measuring s.timeCount limit) := by
      simp only [t, edgeToEngine_width config calm input mode, State.widthEdge, show (s.engine e).state = _ from state,
        if_pos (isActive.2 act)]
    rw [moved]
    exact (countEdge_moves s e _).2
  · have moved : t = s.closeMeasurement e c opening (if c.rearm then .armed (some (ticksAfter s.timeCount c.a)) else .idle) := by
      simp only [t, edgeToEngine_width config calm input mode, State.widthEdge, show (s.engine e).state = _ from state]
    rw [moved, ← mode]
    exact (countEdge_closes s e c opening _).symm
  · have moved : t = (s.countEdge e).setEngineState e (.measuring s.timeCount limit) := by
      simp only [t, edgeToEngine_period config calm input mode (isActive.2 act), State.periodEdge,
        show (s.engine e).state = _ from state]
    rw [moved]
    exact (countEdge_moves s e _).2
  · have moved : t = s.closeMeasurement e c opening
        (if c.rearm then .measuring s.timeCount (ticksAfter s.timeCount c.a) else .idle) := by
      simp only [t, edgeToEngine_period config calm input mode (isActive.2 act), State.periodEdge,
        show (s.engine e).state = _ from state]
    rw [moved, ← mode]
    exact (countEdge_closes s e c opening _).symm
  · have moved : t = s.countEdge e := by
      simp only [t, edgeToEngine_counter config calm input mode (isActive.2 act), State.counterEdge,
        show (s.engine e).state = _ from state]
    rw [moved]
    exact ⟨(countEdge_quietly s e).2, countEdge_engine s e⟩

end Sys2Proof.Proofs
end


section
/-! PROOFS. START ENGINE (R102). -/

namespace Sys2Proof.Proofs

open Sys2Proof.Machine Sys2Proof.Safety Sys2Proof.Laws

/-! ### The body -/

theorem startState_eq_begun (s : State) (c : EngineConfig) : s.startState c = begun s c := by
  unfold State.startState begun State.gateOpen
  cases c.mode with
  | pulseTrain =>
    cases c.gate with
    | none => rfl
    | some l => simp only [decide_eq_true_eq]; rfl
  | delayedPulse => cases c.trigger <;> rfl
  | measureWidth => rfl
  | measurePeriod => rfl
  | countEdges => rfl

theorem awaitsStart_iff {g : Engine} {c : EngineConfig} (config : g.config = some c) :
    awaitsStart g = true ↔ Fires g c := by
  unfold awaitsStart Fires
  cases state : g.state <;> simp [config]

section Bodies

variable {s : State} {p : Port} {pl : List Byte} {e : EngineNo} {c : EngineConfig}

theorem startBody_badArgument (h : 4 ≤ fieldAt pl 0 1) : startBody s p pl = (s, bare .badArgument) := by
  simp [startBody, engineOperand_eq_none h]

theorem startBody_notHolder (number : fieldAt pl 0 1 = e.val) (notHeld : s.holds p (engineResource e) = false) :
    startBody s p pl = (s, bare .notHolder) := by
  simp [startBody, engineOperand_eq_some_iff.2 number, notHeld]

theorem startBody_forced (number : fieldAt pl 0 1 = e.val) (held : s.holds p (engineResource e) = true)
    (forced : s.force.asserted = true) : startBody s p pl = (s, bare .forced) := by
  simp [startBody, engineOperand_eq_some_iff.2 number, held, forced]

theorem startBody_ready (number : fieldAt pl 0 1 = e.val) (held : s.holds p (engineResource e) = true)
    (free : s.force.asserted = false) (noEnd : NoEndDue s e) : startBody s p pl = startReady s e := by
  simp [startBody, engineOperand_eq_some_iff.2 number, held, free, catchUp_of_not_due noEnd]

theorem startReady_busy (runs : (s.engine e).state ≠ .idle)
    (still : ∀ c, (s.engine e).config = some c → ¬Fires (s.engine e) c) : startReady s e = (s, bare .busy) := by
  unfold startReady
  split
  next => rw [if_pos runs]
  next c config => rw [if_neg runs, if_neg (still c config ∘ (awaitsStart_iff config).1)]

theorem startReady_unconfigured (idle : (s.engine e).state = .idle) (config : (s.engine e).config = none) :
    startReady s e = (s, bare .badArgument) := by
  simp [startReady, config, idle]

theorem startReady_begins (idle : (s.engine e).state = .idle) (config : (s.engine e).config = some c) :
    startReady s e = (s.startRun e c, bare .ok) := by
  simp [startReady, config, idle]

theorem startReady_fires (config : (s.engine e).config = some c) (fires : Fires (s.engine e) c) :
    startReady s e = (s.setEngineState e (.timed .delay (ticksAfter s.timeCount c.a)), bare .ok) := by
  have runs : (s.engine e).state ≠ .idle := by
    obtain ⟨-, -, limit, armed⟩ := fires
    rw [armed]
    exact nofun
  simp only [startReady, config, if_neg runs, (awaitsStart_iff config).2 fires, if_true]

end Bodies

/-! ### The request -/

/-- A request that gives one engine a new state without a record. -/
theorem take_of_quiet {s v : State} {rq : Request} {p : Port} {f : Frame} {e : EngineNo}
    {body : State → Port → List Byte → State × Reply} (check : hasSessionCheck rq = true) (ready : Ready s rq p f)
    (passes : Passes s p f) (run : body (taken s p) p f.payload = (v, bare .ok)) (happens : EngineHappening (taken s p) v e)
    (journal : SameJournal (taken s p) v) (sessions : v.sessions = (taken s p).sessions) {g : Engine}
    (engine : v.engine e = { g with out := v.engineDrive e }) :
    ∃ t, (s.awake fun s => s.take rq p body) = .next t ∧ Answered s t p f .ok [] ∧
      t.engine e = { g with out := t.engineDrive e } ∧ OnlyEngine s t e ∧ OnlyRestarted s t p ∧ SameTables s t ∧
      SameJournal s t ∧ SameRest s t := by
  have outside := outside_of_happening happens
  obtain ⟨records, next, attn⟩ := taken_journal s p
  obtain ⟨records', next', attn'⟩ := journal
  refine ⟨_, take_of_body check ready passes run, answered_of_outside f (bare .ok) outside, ?_,
    onlyEngine_answer _ _ (onlyEngine_of_happening happens), onlyRestarted_of_sessions (by simpa using sessions),
    sameTables_of_happening _ _ happens, ?_, sameRest_answer _ _ outside⟩
  · rw [State.engine_answer, engineDrive_answer, engine]
  · simpa [SameJournal] using And.intro (records'.trans records) (And.intro (next'.trans next) (attn'.trans attn))

theorem taken_force (s : State) (p : Port) : (taken s p).force = s.force := (restart_outside s p).force

theorem taken_startState (s : State) (p : Port) (c : EngineConfig) : (taken s p).startState c = begun s c := by
  rw [startState_eq_begun, begun, begun]
  simp only [taken_timeCount, taken_line]

/-- Settles O34: the checks are replies of START ENGINE's body, and a run that begins or fires is a happening of the engine
that makes no record. -/
theorem engineStarted : Obligations.EngineStarted := by
  intro s p f ready passes
  refine ⟨fun big => take_of_reply rfl ready passes (startBody_badArgument big), fun e number => ?_⟩
  refine ⟨fun notHeld => ?notHeld, fun held forced => ?forced, fun held free noEnd runs still => ?busy,
    fun held free idle config => ?unconfigured, fun c config held free => ⟨fun idle => ?begun, fun noEnd fires => ?fires⟩⟩
  case notHeld => exact take_of_reply rfl ready passes (startBody_notHolder number (by simpa using notHeld))
  case forced =>
    exact take_of_reply rfl ready passes (startBody_forced number (by simpa using held) (by rwa [taken_force]))
  all_goals have ready' (noEnd : NoEndDue s e) : startBody (taken s p) p f.payload = startReady (taken s p) e :=
    startBody_ready number (by simpa using held) (by rwa [taken_force]) (noEndDue_taken p noEnd)
  case busy =>
    exact take_of_reply rfl ready passes ((ready' noEnd).trans (startReady_busy (by simpa using runs) (by simpa using still)))
  case unconfigured =>
    exact take_of_reply rfl ready passes ((ready' (noEndDue_of_idle idle)).trans
      (startReady_unconfigured (by simpa using idle) (by simpa using config)))
  case begun =>
    have engine := (Quietly.moves (withEngine_quietly (taken s p) e zeroCounters) rfl ((taken s p).startState c)).2.2
    rw [State.engine_withEngine, if_pos rfl, taken_engine] at engine
    rw [← taken_startState s p c]
    exact take_of_quiet
      (g := { s.engine e with
        state := (taken s p).startState c, elapsed := 0, pulses := 0, edges := 0, ignored := 0 }) rfl ready passes
      ((ready' (noEndDue_of_idle idle)).trans (startReady_begins (by simpa using idle) (by simpa using config)))
      (happening_trans (withEngine_happening _ e _) (setEngineState_happening _ e _)) (by simp [SameJournal, State.startRun])
      (startRun_tables _ e c).2.1 engine
  case fires =>
    have engine := (Quietly.moves (Quietly.refl (taken s p) e) (taken_engine s p e)
      (.timed .delay (ticksAfter (taken s p).timeCount c.a))).2.2
    rw [taken_timeCount] at engine
    refine take_of_quiet (g := { s.engine e with state := .timed .delay (ticksAfter s.timeCount c.a) }) rfl ready passes
      ((ready' noEnd).trans (startReady_fires (by simpa using config) (by simpa using fires)))
      (setEngineState_happening _ e _) (by simp [SameJournal]) (by simp) ?_
    rw [taken_timeCount]
    exact engine

end Sys2Proof.Proofs
end


section
/-! PROOFS. How queued claims end (R69, R70), and how ACCEPT, DECLINE and WITHDRAW find their offer (R51). -/

namespace Sys2Proof.Proofs

open Sys2Proof.Machine Sys2Proof.Safety Sys2Proof.Laws

theorem idOperand_eq_none {pl : List Byte} (h : byteAt pl 0 = 0) : idOperand pl = none := if_pos h

theorem idOperand_eq_some {pl : List Byte} (h : byteAt pl 0 ≠ 0) : idOperand pl = some (byteAt pl 0) := if_neg h

/-! ### Queued claims -/

section Claims

variable {s : State} {p : Port} {pl : List Byte} {w : WaitEntry} {ticket : Byte}

theorem ticketEntry_ticket (found : s.ticketEntry ticket = some w) : w.ticket = ticket :=
  of_decide_eq_true (List.find?_some found :)

theorem ticketEntry_mem (found : s.ticketEntry ticket = some w) : w ∈ s.waitList := List.mem_of_find?_eq_some found

theorem ticketEntry_of_mem (tickets : (s.waitList.map WaitEntry.ticket).Nodup) (hw : w ∈ s.waitList) :
    s.ticketEntry w.ticket = some w := by
  have isFound : (s.ticketEntry w.ticket).isSome = true := List.find?_isSome.2 ⟨w, hw, decide_eq_true rfl⟩
  obtain ⟨v, found⟩ := Option.isSome_iff_exists.1 isFound
  rw [found, List.inj_on_of_nodup_map tickets (ticketEntry_mem found) hw (ticketEntry_ticket found)]

theorem cancelBody_badArgument (h : byteAt pl 0 = 0) : cancelBody s p pl = (s, bare .badArgument) := by
  rw [cancelBody, idOperand_eq_none h]

theorem cancelBody_gone (h : byteAt pl 0 ≠ 0) (others : ∀ w ∈ s.waitList, w.ticket = byteAt pl 0 → w.port ≠ p) :
    cancelBody s p pl = (s, bare .offerGone) := by
  simp only [cancelBody, idOperand_eq_some h]
  cases found : s.ticketEntry (byteAt pl 0) with
  | none => rfl
  | some w => exact if_neg (others w (ticketEntry_mem found) (ticketEntry_ticket found))

theorem cancelBody_ok (h : byteAt pl 0 ≠ 0) (found : s.ticketEntry (byteAt pl 0) = some w) (own : w.port = p) :
    cancelBody s p pl = (s.removeTicket (byteAt pl 0), bare .ok) := by
  simp only [cancelBody, idOperand_eq_some h, found]
  exact if_pos own

theorem exec_claimExpiry (awake : s.inReset = none) (found : s.ticketEntry ticket = some w) :
    exec (.claimExpiry ticket) s = .next (s.expireClaim w) := by
  simp only [exec, execClaimExpiry, awake_of awake, found]

/-- Everything beside the wait list and the sessions is as before the request, once its port is answered. -/
theorem removeTicket_answered (s : State) (p : Port) (ticket tag : Byte) (rep : Reply) :
    let t := ((taken s p).removeTicket ticket).answer p tag rep
    t.waitList = s.waitList.filter (fun x => decide (x.ticket ≠ ticket)) ∧ OnlyRestarted s t p ∧ t.leases = s.leases ∧
      t.offers = s.offers ∧ t.offerCounter = s.offerCounter ∧ t.ticketCounter = s.ticketCounter ∧ SameField s t ∧
      SameJournal s t ∧ SameRest s t := by
  obtain ⟨lines, engines⟩ := taken_field s p
  refine ⟨by simp [State.removeTicket], onlyRestarted_of_sessions (by simp [State.removeTicket]),
    by simp [State.removeTicket], by simp [State.removeTicket], by simp [State.removeTicket],
    by simp [State.removeTicket], ⟨lines, engines⟩, taken_journal s p,
    sameRest_answer tag rep ((restart_outside s p).trans (removeTicket_outside _ ticket))⟩

/-- Settles O18: an expiry is a removal and a record, CANCEL CLAIM the removal alone. -/
theorem queuedClaimEnds : Obligations.QueuedClaimEnds := by
  refine ⟨fun s ticket awake w found => ?expiry, fun s p f ready passes => ⟨fun zero => ?zero, fun named others => ?gone,
    fun named tickets own => ?cancelled⟩⟩
  case expiry =>
    obtain rfl := ticketEntry_ticket found
    have record := appended_append (s.removeTicket w.ticket) (onlyPort w.port) s.timeCount
      (.claimSettled w.port w.ticket .expired w.set)
    obtain ⟨leases, offers, offerCounter, waitList, ticketCounter⟩ := append_tables (s.removeTicket w.ticket)
      (onlyPort w.port) s.timeCount (.claimSettled w.port w.ticket .expired w.set)
    rw [get_onlyPort] at record
    exact ⟨_, exec_claimExpiry awake found, waitList, record, append_moved _ _ _ _, leases, offers, offerCounter,
      ticketCounter, append_field _ _ _ _, (expireClaim_outside s w).1, (expireClaim_outside s w).2⟩
  case zero => exact take_of_reply rfl ready passes (cancelBody_badArgument zero)
  case gone => exact take_of_reply rfl ready passes (cancelBody_gone named (by simpa using others))
  case cancelled =>
    obtain ⟨w, hw, ticket, own⟩ := own
    have found : (taken s p).ticketEntry (byteAt f.payload 0) = some w := by
      rw [State.ticketEntry, taken_waitList, ← State.ticketEntry, ← ticket]
      exact ticketEntry_of_mem tickets hw
    exact ⟨_, take_of_body rfl ready passes (cancelBody_ok named found own),
      answered_of_outside f (bare .ok) ((restart_outside s p).trans (removeTicket_outside _ _)),
      removeTicket_answered s p (byteAt f.payload 0) f.tag (bare .ok)⟩

end Claims

/-! ### Offers -/

section Offers

variable {s : State} {p : Port} {pl : List Byte} {o : Offer} {role : Offer → Port} {settle : State → Offer → State × Reply}

theorem settleBody_badArgument (h : byteAt pl 0 = 0) : settleBody role settle s p pl = (s, bare .badArgument) := by
  rw [settleBody, idOperand_eq_none h]

theorem settleBody_gone (h : byteAt pl 0 ≠ 0) (others : ∀ o ∈ s.offers, o.id = byteAt pl 0 → role o ≠ p) :
    settleBody role settle s p pl = (s, bare .offerGone) := by
  simp only [settleBody, idOperand_eq_some h]
  cases found : s.offer (byteAt pl 0) with
  | none => rfl
  | some o => exact if_neg (others o (offer_mem found) (offer_id found))

theorem settleBody_found (h : byteAt pl 0 ≠ 0) (found : s.offer (byteAt pl 0) = some o) (party : role o = p) :
    settleBody role settle s p pl = settle s o := by
  simp only [settleBody, idOperand_eq_some h, found]
  exact if_pos party

theorem offer_taken (s : State) (p : Port) (id : Byte) : (taken s p).offer id = s.offer id := by
  rw [State.offer, taken_offers, State.offer]

/-- ACCEPT, DECLINE and WITHDRAW are settling requests, which answer OK and leave the outside alone. -/
theorem bodyOf_settling {rq : Request} (h : rq = .accept ∨ rq = .decline ∨ rq = .withdraw) :
    hasSessionCheck rq = true ∧ ∃ settle, bodyOf rq = settleBody (fun o => if rq = .withdraw then o.offerer else o.target) settle ∧
      ∀ s o, (settle s o).2.status = .ok ∧ SameOutside s (settle s o).1 := by
  rcases h with rfl | rfl | rfl
  · exact ⟨rfl, acceptFound, rfl, fun s o => ⟨rfl, (acceptOffer_outside s o).trans (examine_outside _)⟩⟩
  · exact ⟨rfl, declineFound, rfl, fun s o => ⟨rfl, endOffer_outside s o _ _⟩⟩
  · exact ⟨rfl, withdrawFound, rfl, fun s o => ⟨rfl, endOffer_outside s o _ _⟩⟩

/-- Settles O24: the lookup comes first, and what passes it is settled. -/
theorem offerLookedUp : Obligations.OfferLookedUp := by
  intro s p f rq settling ready passes
  obtain ⟨check, settle, body, settles⟩ := bodyOf_settling settling
  rw [exec_commandOf, body]
  refine ⟨fun zero => ?zero, fun named others => ?gone, fun named o found party => ?found⟩
  case zero => exact take_of_reply check ready passes (settleBody_badArgument zero)
  case gone => exact take_of_reply check ready passes (settleBody_gone named (by simpa using others))
  case found =>
    have run : settleBody (fun o => if rq = .withdraw then o.offerer else o.target) settle (taken s p) p f.payload =
        settle (taken s p) o := settleBody_found named ((offer_taken s p _).trans found) party
    obtain ⟨status, outside⟩ := settles (taken s p) o
    refine ⟨_, take_of_body check ready passes run, (settle (taken s p) o).2.payload, ?_⟩
    rw [← status]
    exact answered_of_outside f _ ((restart_outside s p).trans outside)

end Offers

end Sys2Proof.Proofs
end


section
/-! PROOFS. How offers are made and how they return (R49, R53 to R55): neither makes anything available, so that the
examination after them grants nothing. -/

namespace Sys2Proof.Proofs

open Sys2Proof.Machine Sys2Proof.Safety Sys2Proof.Laws

section Blocked

variable {s t : State}

/-- No end of these engines is due: nothing is caught up. -/
theorem catchUpAll_of_noEndDue {es : List EngineNo} (h : ∀ e ∈ es, NoEndDue s e) : s.catchUpAll es = s := by
  unfold State.catchUpAll
  induction es with
  | nil => rfl
  | cons e es ih =>
    rw [List.foldl_cons, catchUp_of_not_due (h e List.mem_cons_self)]
    exact ih fun k hk => h k (List.mem_cons_of_mem e hk)

theorem noEndDue_all_taken {es : List EngineNo} (p : Port) (h : ∀ e ∈ es, NoEndDue s e) :
    ∀ e ∈ es, NoEndDue (taken s p) e := fun e he => noEndDue_taken p (h e he)

theorem taken_sameLedger (s : State) (p : Port) : SameLedger s (taken s p) :=
  (served_sameLedger s p).trans (withOpen_sameLedger (s.served p) p _)

/-- Resources that stay with their holder become available to nobody. -/
theorem Move.available_of_holder {set : ResourceSet} {p q : Port} {after : LeaseState} {adopt : Bool} {r : Resource}
    (h : Move s t set (some p) after) (same : after.holder = some p) (available : Available t q adopt r) :
    Available s q adopt r := by
  cases inside : inSet set r with
  | false =>
    unfold Available State.holds State.holderOf at available ⊢
    rwa [h.states, inside] at available
  | true =>
    have state : (t.entry r).state = after := by rw [h.states, if_pos inside]
    rcases available with free | held | ⟨-, q', orphaned⟩
    · rw [← state, free] at same
      cases same
    · refine .inr (.inl ?_)
      rw [holds_iff_holder, state, same] at held
      rw [holds_iff_holder, h.source r inside, held]
    · rw [← state, orphaned] at same
      cases same

theorem Move.blocked_of_holder {set : ResourceSet} {p : Port} {after : LeaseState} (h : Move s t set (some p) after)
    (same : after.holder = some p) (waitList : t.waitList = s.waitList) (blocked : Blocked s) : Blocked t := by
  intro w hw
  obtain ⟨r, inside, unavailable⟩ := blocked w (waitList ▸ hw)
  exact ⟨r, inside, fun available => unavailable (h.available_of_holder same available)⟩

end Blocked

/-! ### Offers that return (R53 to R55) -/

section Return

variable {s : State} {o : Offer}

theorem givenBack_field (s : State) (o : Offer) : SameField s (givenBack s o) := by
  simp [SameField, givenBack, State.removeOffer]

theorem givenBack_counters (s : State) (o : Offer) :
    (givenBack s o).offerCounter = s.offerCounter ∧ (givenBack s o).ticketCounter = s.ticketCounter ∧
      (givenBack s o).journal = s.journal ∧ (givenBack s o).nextSeq = s.nextSeq := by
  simp [givenBack, State.removeOffer]

theorem givenBack_outside (s : State) (o : Offer) : SameOutside s (givenBack s o) :=
  (removeOffer_outside s o.id).trans (withEntries_outside _ _ _)

/-- The end of an offer is its return and a record: nothing becomes available by it. -/
theorem endOffer_eq (marked : ∀ r, inSet o.set r = true → (s.entry r).state = .offered o.offerer o.id)
    (blocked : Blocked s) (ready : ∀ e ∈ enginesOf o.set, NoEndDue s e) (outcome : OfferOutcome) (ps : PortSet) :
    s.endOffer o outcome ps = (givenBack s o).append ps s.timeCount (.offerSettled o.offerer o.id outcome) := by
  have still : Blocked (givenBack s o) :=
    (givenBack_move marked).blocked_of_holder rfl (givenBack_rest s o).2.2.2.1 blocked
  rw [State.endOffer, returnOffer_eq, catchUpAll_of_noEndDue ready, State.appendSettled,
    (givenBack_outside s o).timeCount]
  exact examine_of_blocked ((append_sameLedger _ _ _ _).blocked still)

theorem append_returned (s : State) (o : Offer) (outcome : OfferOutcome) (ps : PortSet) :
    let t := (givenBack s o).append ps s.timeCount (.offerSettled o.offerer o.id outcome)
    Returned s t o outcome ps.get ∧ OnlyJournalMoved s t ∧ SameOutside s t := by
  obtain ⟨sessions, -, -, waitList, offers⟩ := givenBack_rest s o
  obtain ⟨offerCounter, ticketCounter, journal, nextSeq⟩ := givenBack_counters s o
  obtain ⟨lines, engines⟩ := givenBack_field s o
  have record := appended_append (givenBack s o) ps s.timeCount (.offerSettled o.offerer o.id outcome)
  rw [Appended, isOpen_of_sameSessions sessions, journal, nextSeq] at record
  obtain ⟨-, offers', offerCounter', waitList', ticketCounter'⟩ := append_tables (givenBack s o) ps s.timeCount
    (.offerSettled o.offerer o.id outcome)
  obtain ⟨lines', engines'⟩ := append_field (givenBack s o) ps s.timeCount (.offerSettled o.offerer o.id outcome)
  have outside := (givenBack_outside s o).trans
    (append_outside (givenBack s o) ps s.timeCount (.offerSettled o.offerer o.id outcome))
  refine ⟨⟨offers'.trans offers, fun r => ?_, record, waitList'.trans waitList, offerCounter'.trans offerCounter,
    ticketCounter'.trans ticketCounter, ⟨lines'.trans lines, engines'.trans engines⟩, outside.1⟩, fun q => ?_, outside⟩
  · rw [append_entry, givenBack_entry]
  · rw [append_moved, State.session, sessions, State.session]

theorem returned_answer {v : State} {p : Port} {outcome : OfferOutcome} {ps : Port → Bool} (tag : Byte) (rep : Reply)
    (h : Returned (taken s p) v o outcome ps) (outside : SameOutside (taken s p) v) :
    Returned s (v.answer p tag rep) o outcome ps := by
  obtain ⟨offers, entries, record, waitList, offerCounter, ticketCounter, ⟨lines, engines⟩, -⟩ := h
  obtain ⟨lines', engines'⟩ := taken_field s p
  rw [taken_timeCount] at record
  rw [taken_offers] at offers
  simp only [taken_entry] at entries
  exact ⟨offers, entries, appended_of_taken record, waitList.trans (taken_waitList s p),
    offerCounter.trans (taken_offerCounter s p), ticketCounter.trans (taken_ticketCounter s p),
    ⟨lines.trans lines', engines.trans engines'⟩, sameRest_answer tag rep ((restart_outside s p).trans outside)⟩

theorem marked_of_offersWf {id : Byte} (wf : OffersWf s) (found : s.offer id = some o) :
    ∀ r, inSet o.set r = true → (s.entry r).state = .offered o.offerer o.id :=
  ((offersWf_iff s).1 wf).marked o (offer_mem found) not_false

/-- DECLINE and WITHDRAW return their offer and tell the other party. -/
theorem take_of_return {rq : Request} {p : Port} {f : Frame} {role : Offer → Port} {settle : State → Offer → State × Reply}
    {outcome : OfferOutcome} {q : Port} (check : hasSessionCheck rq = true) (request : Ready s rq p f) (passes : Passes s p f)
    (wf : OffersWf s) (blocked : Blocked s) (named : byteAt f.payload 0 ≠ 0) (found : s.offer (byteAt f.payload 0) = some o)
    (party : role o = p) (ready : ∀ e ∈ enginesOf o.set, NoEndDue s e)
    (settles : ∀ s, settle s o = (s.endOffer o outcome (onlyPort q), bare .ok)) :
    ∃ t, (s.awake fun s => s.take rq p (settleBody role settle)) = .next t ∧ Answered s t p f .ok [] ∧
      Returned s t o outcome (fun k => decide (k = q)) ∧ RestartedAside s t p := by
  have marked (r : Resource) (inside : inSet o.set r = true) : ((taken s p).entry r).state = .offered o.offerer o.id := by
    rw [taken_entry]
    exact marked_of_offersWf wf found r inside
  have body : settleBody role settle (taken s p) p f.payload =
      ((givenBack (taken s p) o).append (onlyPort q) (taken s p).timeCount (.offerSettled o.offerer o.id outcome),
        bare .ok) := by
    rw [settleBody_found named ((offer_taken s p _).trans found) party, settles,
      endOffer_eq marked ((taken_sameLedger s p).blocked blocked) (noEndDue_all_taken p ready)]
  obtain ⟨returned, moved, outside⟩ := append_returned (taken s p) o outcome (onlyPort q)
  rw [get_onlyPort] at returned
  exact ⟨_, take_of_body check request passes body, answered_of_outside f (bare .ok) ((restart_outside s p).trans outside),
    returned_answer f.tag (bare .ok) returned outside, restartedAside_of_moved moved⟩

theorem exec_offerExpiry {id : Byte} (awake : s.inReset = none) (found : s.offer id = some o) :
    exec (.offerExpiry id) s = .next (s.endOffer o .expired (eitherPort (onlyPort o.offerer) (onlyPort o.target))) := by
  simp only [exec, execOfferExpiry, awake_of awake, found]

theorem get_bothParties (o : Offer) :
    (eitherPort (onlyPort o.offerer) (onlyPort o.target)).get = fun q => decide (q = o.offerer ∨ q = o.target) := by
  funext q
  rw [eitherPort, PerPort.get_of, get_onlyPort, get_onlyPort, Bool.decide_or]

/-- Settles O23: each of the three is a return, a record, and an examination that finds nothing. -/
theorem offerReturned : Obligations.OfferReturned := by
  intro s wf blocked
  refine ⟨fun p f request passes named o found party ready => ?_, fun p f request passes named o found party ready => ?_,
    fun awake id o found ready => ?_⟩
  · exact take_of_return (rq := .decline) (role := Offer.target) (settle := declineFound) rfl request passes wf blocked
      named found party ready fun _ => rfl
  · exact take_of_return (rq := .withdraw) (role := Offer.offerer) (settle := withdrawFound) rfl request passes wf blocked
      named found party ready fun _ => rfl
  · obtain ⟨returned, moved, outside⟩ := append_returned s o .expired (eitherPort (onlyPort o.offerer) (onlyPort o.target))
    rw [get_bothParties] at returned
    refine ⟨_, ?_, returned, moved, outside.2⟩
    rw [exec_offerExpiry awake found, endOffer_eq (marked_of_offersWf wf found) blocked ready]

end Return

/-! ### Offers that are made (R49) -/

section Made

variable {s : State} {p : Port} {o : OfferOperands}

theorem nextOfferId_taken (s : State) (p : Port) : (taken s p).nextOfferId = s.nextOfferId := by
  rw [State.nextOfferId, taken_offers, taken_offerCounter, State.nextOfferId]

theorem offerEntered_offerCounter (s : State) (p : Port) (o : OfferOperands) (id : Byte) :
    (offerEntered s p o id).offerCounter = id := by simp [offerEntered]

theorem offerEntered_counters (s : State) (p : Port) (o : OfferOperands) (id : Byte) :
    (offerEntered s p o id).ticketCounter = s.ticketCounter ∧ (offerEntered s p o id).journal = s.journal ∧ (offerEntered s p o id).nextSeq = s.nextSeq := by
  simp [offerEntered]

theorem offerEntered_field (s : State) (p : Port) (o : OfferOperands) (id : Byte) : SameField s (offerEntered s p o id) := by
  simp [offerEntered, SameField]

theorem offerEntered_outside (s : State) (p : Port) (o : OfferOperands) (id : Byte) : SameOutside s (offerEntered s p o id) := by
  simp [SameOutside, SameRest, SameControl, SamePorts, offerEntered]

theorem makeOffer_of_blocked (held : ∀ r, inSet o.set r = true → (s.entry r).state = .held p) (blocked : Blocked s)
    (ready : ∀ e ∈ enginesOf o.set, NoEndDue s e) :
    s.makeOffer p o =
      (offerEntered s p o s.nextOfferId).append (onlyPort o.target) s.timeCount
        (.offerMade p s.nextOfferId o.set o.window) := by
  have still : Blocked (offerEntered s p o s.nextOfferId) :=
    (offerEntered_move s.nextOfferId held).blocked_of_holder rfl (offerEntered_rest s p o _).2.2.2 blocked
  rw [makeOffer_eq, catchUpAll_of_noEndDue ready]
  exact examine_of_blocked ((append_sameLedger _ _ _ _).blocked still)

theorem offerBody_made {pl : List Byte} (operands : offerOperands p pl = some o) (targetOpen : s.isOpen o.target = true)
    (held : ∀ r, inSet o.set r = true → (s.entry r).state = .held p) (room : s.offers.length < 4) :
    offerBody s p pl = (s.makeOffer p o, { status := .ok, payload := [s.nextOfferId] }) := by
  have holds : s.lowestNotHeld p o.set = none := lowestNotHeld_eq_none fun r hr => holds_of_held (held r hr)
  have unoffered : (members o.set).find? s.isOffered = none := find_isOffered_eq_none held
  have few : ¬Config.offerCapacity ≤ s.offers.length := Nat.not_le.2 room
  simp only [offerBody, operands, targetOpen, Bool.not_true, Bool.false_eq_true, if_false, holds, unoffered, few]

/-- What an OFFER leaves once its record is appended. -/
theorem append_offerEntered (s : State) (p : Port) (o : OfferOperands) (id : Byte) :
    let t := (offerEntered s p o id).append (onlyPort o.target) s.timeCount (.offerMade p id o.set o.window)
    t.offerCounter = id ∧
      t.offers = insertOffer { id := id, offerer := p, target := o.target, set := o.set, remaining := o.window } s.offers ∧
      (∀ r, t.entry r = if inSet o.set r then { s.entry r with state := .offered p id } else s.entry r) ∧
      Appended s t (fun q => decide (q = o.target)) s.timeCount (.offerMade p id o.set o.window) ∧
      OnlyJournalMoved s t ∧ t.waitList = s.waitList ∧ t.ticketCounter = s.ticketCounter ∧ SameField s t ∧
      SameOutside s t := by
  obtain ⟨sessions, -, -, waitList⟩ := offerEntered_rest s p o id
  have counter := offerEntered_offerCounter s p o id
  obtain ⟨ticketCounter, journal, nextSeq⟩ := offerEntered_counters s p o id
  have field := offerEntered_field s p o id
  have entry := offerEntered_entry s p o id
  have offers := offerEntered_offers s p o id
  have outside := offerEntered_outside s p o id
  generalize offerEntered s p o id = u at *
  obtain ⟨lines, engines⟩ := field
  have record := appended_append u (onlyPort o.target) s.timeCount (.offerMade p id o.set o.window)
  rw [Appended, isOpen_of_sameSessions sessions, journal, nextSeq, get_onlyPort] at record
  obtain ⟨-, offers', offerCounter', waitList', ticketCounter'⟩ := append_tables u (onlyPort o.target) s.timeCount
    (.offerMade p id o.set o.window)
  obtain ⟨lines', engines'⟩ := append_field u (onlyPort o.target) s.timeCount (.offerMade p id o.set o.window)
  refine ⟨offerCounter'.trans counter, offers'.trans offers, fun r => ?_, record, fun q => ?_, waitList'.trans waitList,
    ticketCounter'.trans ticketCounter, ⟨lines'.trans lines, engines'.trans engines⟩, outside.trans (append_outside _ _ _ _)⟩
  · rw [append_entry, entry]
  · rw [append_moved, State.session, sessions, State.session]

theorem offerBody_entered {pl : List Byte} (operands : offerOperands p pl = some o) (targetOpen : s.isOpen o.target = true)
    (held : ∀ r, inSet o.set r = true → (s.entry r).state = .held p) (room : s.offers.length < 4) (blocked : Blocked s)
    (ready : ∀ e ∈ enginesOf o.set, NoEndDue s e) :
    offerBody s p pl =
      ((offerEntered s p o s.nextOfferId).append (onlyPort o.target) s.timeCount
        (.offerMade p s.nextOfferId o.set o.window), { status := .ok, payload := [s.nextOfferId] }) := by
  rw [offerBody_made operands targetOpen held room, makeOffer_of_blocked held blocked ready]

/-- OFFER with operands that its checks accept. -/
theorem take_of_offer {f : Frame} (request : Ready s .offer p f) (passes : Passes s p f)
    (operands : offerOperands p f.payload = some o) (targetOpen : s.isOpen o.target = true)
    (held : ∀ r, inSet o.set r = true → (s.entry r).state = .held p) (room : s.offers.length < 4) (blocked : Blocked s)
    (ready : ∀ e ∈ enginesOf o.set, NoEndDue s e) :
    ∃ t, exec (.offer p) s = .next t ∧ Answered s t p f .ok [t.offerCounter] ∧
      Allocated s.offerCounter (s.offers.map Offer.id) t.offerCounter ∧
      t.offers =
        insertOffer { id := t.offerCounter, offerer := p, target := o.target, set := o.set, remaining := o.window } s.offers ∧
      (∀ r, t.entry r = if inSet o.set r then { s.entry r with state := .offered p t.offerCounter } else s.entry r) ∧
      Appended s t (fun q => decide (q = o.target)) s.timeCount (.offerMade p t.offerCounter o.set o.window) ∧
      RestartedAside s t p ∧ t.waitList = s.waitList ∧ t.ticketCounter = s.ticketCounter ∧ SameField s t ∧ SameRest s t := by
  have body := offerBody_entered (s := taken s p) operands ((taken_isOpen s p _).trans targetOpen)
    (by simpa only [taken_entry] using held) (by simpa only [taken_offers] using room)
    ((taken_sameLedger s p).blocked blocked) (noEndDue_all_taken p ready)
  have run := take_of_body (rq := .offer) rfl request passes body
  rw [nextOfferId_taken] at run
  obtain ⟨counter, offers, entries, record, moved, waitList, ticketCounter, ⟨lines, engines⟩, outside⟩ :=
    append_offerEntered (taken s p) p o s.nextOfferId
  generalize (offerEntered (taken s p) p o s.nextOfferId).append (onlyPort o.target) (taken s p).timeCount
    (.offerMade p s.nextOfferId o.set o.window) = v at *
  obtain ⟨lines', engines'⟩ := taken_field s p
  have answered := answered_of_outside f { status := .ok, payload := [s.nextOfferId] } ((restart_outside s p).trans outside)
  rw [← counter] at answered offers entries record run
  rw [taken_timeCount] at record
  rw [taken_offers] at offers
  simp only [taken_entry] at entries
  refine ⟨_, run, answered, ?_, offers, entries, appended_of_taken record, restartedAside_of_moved moved,
    waitList.trans (taken_waitList s p), ticketCounter.trans (taken_ticketCounter s p),
    ⟨lines.trans lines', engines.trans engines'⟩, sameRest_answer f.tag _ ((restart_outside s p).trans outside)⟩
  have allocated := allocated_nextOfferId room
  rw [← counter] at allocated
  exact allocated

/-- Settles O20: an entry, its marks and its record; what is offered stays with its holder, so nothing becomes
available. -/
theorem offerMade : Obligations.OfferMade := by
  intro s p f target request passes set hset some_set code other least most targetOpen held room blocked ready
  obtain ⟨t, run, answered, allocated, offers, rest⟩ := take_of_offer request passes
    (offerOperands_eq_some hset some_set code other least most) targetOpen held room blocked ready
  obtain ⟨before, after, split, inserted, -⟩ := insertOffer_split
    { id := t.offerCounter, offerer := p, target := target, set := set, remaining := fieldAt f.payload 6 2 } s.offers
  exact ⟨t, run, answered, allocated, ⟨before, after, split, offers.trans inserted⟩, rest⟩

end Made

end Sys2Proof.Proofs
end


section
/-! PROOFS. What a happening leaves that examines the wait list last (R66), and a CLAIM that is granted at once (R14). -/

namespace Sys2Proof.Proofs

open Sys2Proof.Machine Sys2Proof.Safety Sys2Proof.Laws

/-! ### After the examination -/

/-- The wait list was examined, or nothing called for it. -/
def Examined (u v : State) : Prop := v = u ∨ v = u.examine

/-- An examination that leaves the wait list as it was did nothing. -/
theorem examineAll_of_waitList {s : State} {l : List WaitEntry} (sub : l ⊆ s.waitList)
    (same : (l.foldl State.examineEntry s).waitList = s.waitList) : l.foldl State.examineEntry s = s := by
  induction l with
  | nil => rfl
  | cons w l ih =>
    have hw := sub List.mem_cons_self
    rw [List.foldl_cons] at same ⊢
    cases available : s.setAvailable w.port w.adopt w.set with
    | false =>
      rw [examineEntry_blocked available] at same ⊢
      exact ih (fun v hv => sub (List.mem_cons_of_mem w hv)) same
    | true =>
      rw [State.examineEntry, if_pos available] at same
      have stays := (examineAll_grants l (s.grantQueued w)).waiting.subset (same ▸ hw)
      rw [grantQueued_waitList] at stays
      exact absurd rfl (of_decide_eq_true (List.mem_filter.1 stays).2)

theorem examine_of_waitList {s : State} (same : s.examine.waitList = s.waitList) : s.examine = s :=
  examineAll_of_waitList (List.Subset.refl _) same

section Examined

variable {s u v : State}

theorem Examined.grants (h : Examined u v) : GrantsOnly u v := by
  rcases h with rfl | rfl
  · exact .refl _
  · exact examine_grants u

theorem Examined.entry (h : Examined u v) (r : Resource) : EntryIsOrGranted u v r (u.entry r) := by
  rcases h with rfl | rfl
  · exact .inl rfl
  · exact examine_entry u r

theorem Examined.countsMoved (h : Examined u v) : OnlyCountsMoved u v := by
  rcases h with rfl | rfl
  · exact .refl _
  · exact examine_countsMoved u

theorem Examined.eq_of_waitList (h : Examined u v) (same : v.waitList = u.waitList) : v = u := by
  rcases h with rfl | rfl
  · rfl
  · exact examine_of_waitList same

/-- Entries judged by the wait list of before the request. -/
theorem Examined.entry_of_before (h : Examined u v) (waitList : u.waitList = s.waitList) (r : Resource) :
    EntryIsOrGranted s v r (u.entry r) := by
  have entry := h.entry r
  unfold EntryIsOrGranted at entry ⊢
  rwa [waitList] at entry

theorem examinedTo_answer (u : State) (p : Port) (tag : Byte) (rep : Reply) : ExaminedTo u (u.examine.answer p tag rep) :=
  answer_portsOnly u.examine p tag rep

theorem answer_sameLedger (s : State) (p : Port) (tag : Byte) (rep : Reply) : SameLedger s (s.answer p tag rep) :=
  portsOnly_sameLedger (answer_portsOnly s p tag rep)

theorem SameLedger.waitWf (h : SameLedger s u) (wf : WaitWf s) : WaitWf u := by
  obtain ⟨ports, tickets, entries, blocked⟩ := wf
  refine ⟨by rwa [h.waitList], by rwa [h.waitList], fun w hw => ?_, h.blocked blocked⟩
  rw [h.isOpen]
  exact entries w (h.waitList ▸ hw)

theorem distinctEntries_of_waitWf (wf : WaitWf s) (waitList : u.waitList = s.waitList) : DistinctEntries u := by
  obtain ⟨ports, tickets, -⟩ := wf
  rw [DistinctEntries, waitList]
  exact ⟨ports, tickets⟩

end Examined

/-! ### What is compared with the state of before the request -/

section Taken

variable {s v : State} {p : Port}

theorem onlyGrantsInField_of_taken (tag : Byte) (rep : Reply) (h : OnlyGrantsInField (taken s p) v) :
    OnlyGrantsInField s (v.answer p tag rep) := by
  obtain ⟨lines, engines⟩ := h
  simp only [taken_entry, taken_line, taken_engine] at lines engines
  exact ⟨lines, engines⟩

theorem restartedBesideCounts_of_taken (h : OnlyCountsMoved (taken s p) v) : RestartedBesideCounts s v p := by
  obtain ⟨own, others⟩ := restart_only s p
  exact ⟨(h p).trans (congrArg besideCounts own), fun q hq => (h q).trans (congrArg besideCounts (others q hq))⟩

theorem sameJournal_of_taken (h : SameJournal (taken s p) v) : SameJournal s v := by
  obtain ⟨journal, nextSeq, attn⟩ := taken_journal s p
  obtain ⟨journal', nextSeq', attn'⟩ := h
  exact ⟨journal'.trans journal, nextSeq'.trans nextSeq, attn'.trans attn⟩

end Taken

/-! ### A claim granted at once -/

section Claim

variable {s v : State} {p : Port} {set : ResourceSet} {adopt : Bool}

/-- A grant, and the examination when something was newly granted. -/
def grantExamined (s : State) (p : Port) (set : ResourceSet) : State :=
  if s.newlyGranted p set = 0 then s.grant p set else (s.grant p set).examine

theorem grantExamined_examined (s : State) (p : Port) (set : ResourceSet) : Examined (s.grant p set) (grantExamined s p set) := by
  unfold grantExamined
  split
  · exact .inl rfl
  · exact .inr rfl

theorem newlyGranted_eq_zero_iff : s.newlyGranted p set = 0 ↔ ∀ r, inSet set r = true → s.holds p r = true := by
  simp only [eq_zero_iff_inSet, inSet_newlyGranted, Bool.and_eq_false_imp, Bool.not_eq_eq_eq_not, Bool.not_false]

theorem claimBody_granted {pl : List Byte} {o : ClaimOperands} (operands : claimOperands pl = some o)
    (available : ∀ r, inSet o.set r = true → Available s p o.adopt r) :
    claimBody s p pl =
      (grantExamined s p o.set, { status := .ok, payload := (s.grant p o.set).generations o.set }) := by
  have passes : s.lowestUnavailable p o.adopt o.set = none :=
    List.find?_eq_none.2 fun r hr => by simp [available_iff.2 (available r (mem_members.1 hr))]
  simp only [claimBody, operands, passes]
  rfl

/-- A grant of available resources takes only what has no holder. -/
theorem grant_grantsOnly (available : ∀ r, inSet set r = true → Available s p adopt r) : GrantsOnly s (s.grant p set) where
  entries r := by
    rw [grant_entry_grantedTo]
    split
    next new =>
      obtain ⟨inside, notHeld⟩ : inSet set r = true ∧ s.holds p r = false := by simpa using new
      exact .inr ⟨(holder_of_available (available r inside) notHeld).1, p, rfl⟩
    next => exact .inl rfl
  field := grant_field s p set
  outside := grant_outside s p set
  offers := ⟨(grant_rest s p set).1, (grant_counters s p set).1, (grant_counters s p set).2⟩
  waiting := by rw [(grant_rest s p set).2.1]

/-- What was claimed is held by its port after the grant, and stays so. -/
theorem Examined.entry_granted (h : Examined (s.grant p set) v) {r : Resource} (inside : inSet set r = true) :
    v.entry r = if s.holds p r then s.entry r else grantedTo p (s.entry r) := by
  have entry : (s.grant p set).entry r = if s.holds p r then s.entry r else grantedTo p (s.entry r) := by
    rw [grant_entry_grantedTo, inside]
    cases s.holds p r <;> rfl
  have held : ((s.grant p set).entry r).state.holder = some p := by
    rw [entry]
    split
    next own => exact holds_iff_holder.1 own
    next => rfl
  rw [h.grants.entry_of_holder (by rw [held]; exact Option.some_ne_none p), entry]

theorem generations_congr {t : State} (h : ∀ r, inSet set r = true → t.entry r = s.entry r) :
    t.generations set = s.generations set :=
  List.flatMap_congr fun r hr => by rw [h r (mem_members.1 hr)]

theorem grantExamined_blocked (wf : WaitWf s) : Blocked (grantExamined s p set) := by
  obtain ⟨-, -, -, blocked⟩ := id wf
  unfold grantExamined
  split
  next nothingNew => exact (grant_sameLedger nothingNew).blocked blocked
  next => exact examine_blocked (distinctEntries_of_waitWf wf (grant_rest s p set).2.1)

/-- The session of the claimant counts what it gained. -/
theorem grant_taken_session (s : State) (p : Port) (set : ResourceSet) :
    ((taken s p).grant p set).session p =
      { restarted (s.session p) with
        heldCount := (s.session p).heldCount + ((List.finRange 36).filter fun r => inSet set r && !s.holds p r).length } ∧
    ∀ q, q ≠ p → ((taken s p).grant p set).session q = s.session q := by
  obtain ⟨own, others⟩ := restart_only s p
  have own : (taken s p).session p = restarted (s.session p) := own
  obtain ⟨-, -, -, granted, kept⟩ := grant_rest (taken s p) p set
  refine ⟨?_, fun q hq => (kept q hq).trans (others q hq)⟩
  rw [granted, setSize_newlyGranted, own]
  simp only [taken_holds]
  congr 2
  cases state : (s.session p).state <;> simp [restarted, state]

theorem claimLeaves_grant (s : State) (p : Port) (set : ResourceSet) : ClaimLeaves s ((taken s p).grant p set) p set := by
  obtain ⟨offers, waitList, journal, -⟩ := grant_rest (taken s p) p set
  obtain ⟨offerCounter, ticketCounter⟩ := grant_counters (taken s p) p set
  obtain ⟨own, others⟩ := grant_taken_session s p set
  obtain ⟨lines, engines⟩ := grant_field (taken s p) p set
  simp only [taken_entry, taken_line, taken_engine] at lines engines
  refine ⟨fun r => ?_, ⟨lines, engines⟩, sameJournal_of_taken journal, own, others, waitList.trans (taken_waitList s p),
    ticketCounter.trans (taken_ticketCounter s p), offers.trans (taken_offers s p),
    offerCounter.trans (taken_offerCounter s p), ((restart_outside s p).trans (grant_outside _ p set)).1⟩
  rw [grant_entry_grantedTo, taken_holds, taken_entry]
  rfl

/-- Settles O13: what the claim does not hold is granted, and the examination takes nothing of it again. -/
theorem claimGranted : Obligations.ClaimGranted := by
  intro s p f request passes set hset some_set flags legal available
  have operands := claimOperands_eq_some hset some_set flags legal
  have still (r : Resource) (inside : inSet set r = true) : Available (taken s p) p ((byteAt f.payload 5).getLsbD 0) r :=
    (available_taken s p _ r).2 (available r inside)
  have run := take_of_body (rq := .claim) rfl request passes (claimBody_granted operands still)
  have examined := grantExamined_examined (taken s p) p set
  have entries (r : Resource) (inside : inSet set r = true) := examined.entry_granted (s := taken s p) inside
  have payload := generations_congr fun r inside =>
    (examined.entry_granted inside).trans (Examined.entry_granted (.inl rfl) inside).symm
  have blocked (wf : WaitWf s) : Blocked (grantExamined (taken s p) p set) :=
    grantExamined_blocked ((taken_sameLedger s p).waitWf wf)
  have grants := (grant_grantsOnly still).trans examined.grants
  have moved := (grant_countsMoved (taken s p) p set).trans examined.countsMoved
  have new : (∃ r, inSet set r = true ∧ s.holds p r = false) →
      grantExamined (taken s p) p set = ((taken s p).grant p set).examine := fun ⟨r, inside, notHeld⟩ =>
    if_neg fun nothingNew => by simp [← taken_holds s p, newlyGranted_eq_zero_iff.1 nothingNew r inside] at notHeld
  have old (held : ∀ r, inSet set r = true → s.holds p r = true) :
      grantExamined (taken s p) p set = (taken s p).grant p set :=
    if_pos (newlyGranted_eq_zero_iff.2 (by simpa only [taken_holds] using held))
  have leaves_ := claimLeaves_grant s p set
  obtain ⟨uEntries, -, uJournal, uOwn, uOthers, uWaitList, -⟩ := id leaves_
  generalize grantExamined (taken s p) p set = v at *
  generalize hu : (taken s p).grant p set = u at *
  simp only [taken_holds, taken_entry] at entries
  refine ⟨_, run, ?_, entries, fun r outside => ?_, onlyGrantsInField_of_taken f.tag _ grants.field,
    grants.offers.1.trans (taken_offers s p), grants.offers.2.1.trans (taken_offerCounter s p),
    grants.offers.2.2.trans (taken_ticketCounter s p), restartedBesideCounts_of_taken moved,
    sameRest_answer f.tag _ ((restart_outside s p).trans grants.outside), uWaitList ▸ examined.grants.waiting,
    fun wf => (answer_sameLedger v p f.tag _).blocked (blocked wf), fun same => ?_, u, leaves_, fun some_new => ?_,
    fun held => ?_⟩
  · have answered := answered_of_outside f { status := .ok, payload := u.generations set }
      ((restart_outside s p).trans grants.outside)
    rwa [← payload] at answered ⊢
  · have entry := examined.entry_of_before uWaitList r
    rwa [uEntries, outside] at entry
  · obtain rfl := examined.eq_of_waitList ((same : v.waitList = s.waitList).trans uWaitList.symm)
    exact ⟨uJournal, uOwn, uOthers⟩
  · rw [new some_new]
    exact examinedTo_answer u p f.tag _
  · rw [old held]
    exact answer_portsOnly u p f.tag _

end Claim

end Sys2Proof.Proofs
end


section
/-! PROOFS. Resources that are let go (R22, R35, R37): their engines' runs end, each with its record or without one, their
entries change, and their drives are decided again. -/

namespace Sys2Proof.Proofs

open Sys2Proof.Machine Sys2Proof.Safety Sys2Proof.Laws

/-! ### The runs of several engines end -/

/-- The runs of engines ended with records: beside their states and pins, the journal and what records move, nothing
changed. -/
structure RunsOver (s t : State) (es : List EngineNo) (records : List ((Port → Bool) × RecordBody)) : Prop where
  ended : ∀ e ∈ es, ∃ out, t.engine e = { s.engine e with state := .idle, out := out }
  others : ∀ e, e ∉ es → t.engine e = s.engine e
  lines : t.lines = s.lines
  journal : (t.journal, t.nextSeq) = withRecords s.isOpen (s.journal, s.nextSeq) s.timeCount records
  moved : OnlyJournalMoved s t
  tables : SameTables s t
  outside : SameOutside s t

section RunsOver

variable {s t u : State} {e : EngineNo} {es : List EngineNo} {outcome : EngineOutcome}
  {records more : List ((Port → Bool) × RecordBody)}

theorem withRecords_append (isOpen : Port → Bool) (journal : List Record × Seq) (time : Count)
    (records more : List ((Port → Bool) × RecordBody)) :
    withRecords isOpen journal time (records ++ more) = withRecords isOpen (withRecords isOpen journal time records) time more :=
  List.foldl_append

theorem RunsOver.refl (s : State) : RunsOver s s [] [] where
  ended := nofun
  others _ _ := rfl
  lines := rfl
  journal := rfl
  moved _ := rfl
  tables := ⟨rfl, rfl, rfl, rfl, rfl⟩
  outside := .refl s

theorem RunsOver.cons (h : RunsOver s t [e] records) (k : RunsOver t u es more) (fresh : e ∉ es) :
    RunsOver s u (e :: es) (records ++ more) where
  ended x hx := by
    rcases List.mem_cons.1 hx with rfl | later
    · rw [k.others x fresh]
      exact h.ended x List.mem_cons_self
    · have earlier : x ∉ [e] := fun own => fresh (List.mem_singleton.1 own ▸ later)
      rw [← h.others x earlier]
      exact k.ended x later
  others x hx := by
    rw [k.others x fun later => hx (List.mem_cons_of_mem e later),
      h.others x fun own => hx (List.mem_singleton.1 own ▸ List.mem_cons_self)]
  lines := k.lines.trans h.lines
  journal := by
    rw [withRecords_append, ← h.journal, k.journal, funext (isOpen_of_frame h.moved), h.outside.timeCount]
  moved q := (k.moved q).trans (h.moved q)
  tables := by
    obtain ⟨a, b, c, d, e⟩ := h.tables
    obtain ⟨a', b', c', d', e'⟩ := k.tables
    exact ⟨a'.trans a, b'.trans b, c'.trans c, d'.trans d, e'.trans e⟩
  outside := h.outside.trans k.outside

/-- A happening of one engine that leaves it IDLE and makes some records. -/
theorem EngineHappening.runsOver (h : EngineHappening s t e)
    (idle : ∃ out, t.engine e = { s.engine e with state := .idle, out := out })
    (journal : (t.journal, t.nextSeq) = withRecords s.isOpen (s.journal, s.nextSeq) s.timeCount records) :
    RunsOver s t [e] records := by
  obtain ⟨⟨lines, others⟩, moved, tables, outside⟩ := h
  exact ⟨fun x hx => by rwa [List.mem_singleton.1 hx], fun x hx => others x fun own => hx (List.mem_singleton.2 own), lines,
    journal, moved, tables, outside⟩

theorem idle_engine (h : (s.engine e).state = .idle) : ∃ out, s.engine e = { s.engine e with state := .idle, out := out } :=
  ⟨(s.engine e).out, by rw [← h]⟩

theorem setEngineState_idle_runsOver (s : State) (e : EngineNo) : RunsOver s (s.setEngineState e .idle) [e] [] :=
  EngineHappening.runsOver (setEngineState_happening s e .idle) ⟨_, setEngineState_engine_engineDrive s e .idle⟩ (by simp [withRecords])

theorem silenceEngine_runsOver (s : State) (e : EngineNo) : RunsOver s (s.silenceEngine e) [e] [] := by
  unfold State.silenceEngine
  split
  next idle => exact EngineHappening.runsOver (happening_refl s e) (idle_engine idle) rfl
  next => exact setEngineState_idle_runsOver s e

theorem stopEngine_runsOver (s : State) (outcome : EngineOutcome) (e : EngineNo) :
    RunsOver s (s.stopEngine outcome e) [e] (runsEnded s outcome (holderIs s) [e]) := by
  by_cases idle : (s.engine e).state = .idle
  · have none_made : runsEnded s outcome (holderIs s) [e] = [] := by simp [runsEnded, idle]
    rw [none_made, stopEngine_idle outcome idle]
    exact EngineHappening.runsOver (happening_refl s e) (idle_engine idle) rfl
  · cases config : (s.engine e).config with
    | none =>
      have none_made : runsEnded s outcome (holderIs s) [e] = [] := by simp [runsEnded, config]
      rw [none_made, State.stopEngine, if_neg idle, config]
      exact setEngineState_idle_runsOver s e
    | some c =>
      have made : runsEnded s outcome (holderIs s) [e] =
          [(holderIs s e, .engineResult e c.mode outcome (partialResult (s.engine e) c.mode s.timeCount).1
            (partialResult (s.engine e) c.mode s.timeCount).2)] := by simp [runsEnded, idle, config]
      rw [made, stopEngine_run outcome config idle, ← holderSet_get]
      exact EngineHappening.runsOver (finishRun_happening _ _ _ _ _ _ _) ⟨_, finishRun_engine _ _ _ _ _ _ _⟩
        (finishRun_appended _ _ _ _ _ _ _)

/-- The records of the runs that are still to end are those of before. -/
theorem RunsOver.runsEnded_eq (h : RunsOver s t [e] records) (fresh : e ∉ es) :
    runsEnded t outcome (holderIs t) es = runsEnded s outcome (holderIs s) es := by
  unfold runsEnded
  refine List.filterMap_congr fun x hx => ?_
  have same : holderIs t x = holderIs s x := by
    obtain ⟨leases, -⟩ := h.tables
    funext q
    rw [holderIs, State.holds, State.holderOf, State.entry, leases, holderIs, State.holds, State.holderOf, State.entry]
  rw [h.others x fun own => fresh (List.mem_singleton.1 own ▸ hx), same, h.outside.timeCount]

theorem stopAll_runsOver (s : State) (outcome : EngineOutcome) (nodup : es.Nodup) :
    RunsOver s (es.foldl (fun s e => State.stopEngine s outcome e) s) es (runsEnded s outcome (holderIs s) es) := by
  induction es generalizing s with
  | nil => exact .refl s
  | cons e es ih =>
    obtain ⟨fresh, nodup⟩ := List.nodup_cons.1 nodup
    have first := stopEngine_runsOver s outcome e
    have rest := ih (s.stopEngine outcome e) nodup
    rw [first.runsEnded_eq fresh] at rest
    have split : runsEnded s outcome (holderIs s) (e :: es) =
        runsEnded s outcome (holderIs s) [e] ++ runsEnded s outcome (holderIs s) es :=
      List.filterMap_append (l := [e])
    rw [split]
    exact first.cons rest fresh

theorem silenceAll_runsOver (s : State) (nodup : es.Nodup) : RunsOver s (es.foldl State.silenceEngine s) es [] := by
  induction es generalizing s with
  | nil => exact .refl s
  | cons e es ih =>
    obtain ⟨fresh, nodup⟩ := List.nodup_cons.1 nodup
    exact (silenceEngine_runsOver s e).cons (ih _ nodup) fresh

theorem nodup_enginesOf (set : ResourceSet) : (enginesOf set).Nodup := (List.nodup_finRange 4).filter _

/-- The STOPPED records of engines that one port holds. -/
theorem stopResults_eq {p : Port} {set : ResourceSet} (held : ∀ r, inSet set r = true → s.holds p r = true) :
    runsEnded s .stopped (holderIs s) (enginesOf set) = stopResults s p set := by
  unfold stopResults runsEnded
  refine List.filterMap_congr fun e he => ?_
  rw [← holderSet_get, holderSet_of_holds (held _ (mem_enginesOf.1 he))]

end RunsOver

/-! ### A set is let go -/

/-- A set of resources was let go, with the records of its engines' runs. -/
structure SetFreed (s u : State) (set : ResourceSet) (after : LeaseState) (records : List ((Port → Bool) × RecordBody)) :
    Prop where
  journal : (u.journal, u.nextSeq) = withRecords s.isOpen (s.journal, s.nextSeq) s.timeCount records
  entries : ∀ r, u.entry r = if inSet set r then { s.entry r with state := after } else s.entry r
  lines : ∀ l, u.line l = if inSet set (lineResource l) then decidedAgain u l (s.line l) else s.line l
  engines : ∀ e, u.engine e =
    if inSet set (engineResource e) then { s.engine e with state := .idle, out := u.engineDrive e } else s.engine e
  offers : u.offers = s.offers ∧ u.offerCounter = s.offerCounter
  waiting : u.waitList = s.waitList ∧ u.ticketCounter = s.ticketCounter
  outside : SameOutside s u

theorem letGo_field (s : State) (set : ResourceSet) (after : LeaseState) :
    (∀ l, (s.letGo set after).line l =
        if inSet set (lineResource l) then decidedAgain (s.letGo set after) l (s.line l) else s.line l) ∧
      ∀ e, (s.letGo set after).engine e =
        if inSet set (engineResource e) then { s.engine e with out := (s.letGo set after).engineDrive e } else s.engine e := by
  refine ⟨fun l => ?_, fun e => ?_⟩
  · rw [State.letGo, line_redrive_decidedAgain]
    simp [State.line]
  · rw [State.letGo, engine_redrive_engineDrive]
    simp [State.engine]

theorem letGo_counters (s : State) (set : ResourceSet) (after : LeaseState) :
    (s.letGo set after).offerCounter = s.offerCounter ∧ (s.letGo set after).ticketCounter = s.ticketCounter := by
  simp [State.letGo]

/-- Once the runs of its engines are over, a set is let go. -/
theorem RunsOver.setFreed {s t : State} {set : ResourceSet} {records : List ((Port → Bool) × RecordBody)}
    (h : RunsOver s t (enginesOf set) records) (after : LeaseState) : SetFreed s (t.letGo set after) set after records := by
  obtain ⟨leases, offers, offerCounter, waitList, ticketCounter⟩ := h.tables
  obtain ⟨offers', waitList', -, journal', nextSeq', -⟩ := letGo_rest t set after
  obtain ⟨offerCounter', ticketCounter'⟩ := letGo_counters t set after
  obtain ⟨lines, engines⟩ := letGo_field t set after
  refine ⟨?_, fun r => ?_, fun l => ?_, fun e => ?_, ⟨offers'.trans offers, offerCounter'.trans offerCounter⟩,
    ⟨waitList'.trans waitList, ticketCounter'.trans ticketCounter⟩, h.outside.trans (letGo_outside t set after)⟩
  · rw [journal', nextSeq', h.journal]
  · rw [letGo_entry, State.entry, leases, State.entry]
  · rw [lines l, State.line, h.lines, State.line]
  · rw [engines e]
    cases inside : inSet set (engineResource e) with
    | false => exact h.others e fun mem => by simp [mem_enginesOf.1 mem] at inside
    | true =>
      obtain ⟨out, ended⟩ := h.ended e (mem_enginesOf.2 inside)
      rw [ended]
      rfl

end Sys2Proof.Proofs
end


section
/-! PROOFS. RELEASE: its set is let go, and the wait list examined (R22). -/

namespace Sys2Proof.Proofs

open Sys2Proof.Machine Sys2Proof.Safety Sys2Proof.Laws

/-! ### Pins after grants -/

section Driven

variable {s u v : State}

theorem GrantsOnly.engine_driven (h : GrantsOnly u v) {e : EngineNo} (driven : (u.engine e).out = u.engineDrive e) :
    v.engine e = { u.engine e with out := v.engineDrive e } := by
  by_cases same : v.entry (engineResource e) = u.entry (engineResource e)
  · rw [h.engineDrive same, ← driven, h.engine same]
  · rw [h.field.2 e, if_neg (by rwa [h.generation_iff])]

theorem GrantsOnly.line_driven (h : GrantsOnly u v) {l : Line} (driven : (u.line l).drive = u.effectiveDrive l) :
    (v.line l).drive = v.effectiveDrive l := by
  by_cases same : v.entry (lineResource l) = u.entry (lineResource l)
  · rw [h.line same, h.effectiveDrive same, driven]
  · rw [h.field.1 l, if_neg (by rwa [h.generation_iff]), decidedAgain_drive]

theorem GrantsOnly.decidedAgain (h : GrantsOnly u v) {l : Line} (same : v.entry (lineResource l) = u.entry (lineResource l))
    (c : LineCell) : decidedAgain v l c = decidedAgain u l c := by
  unfold Safety.decidedAgain
  rw [h.effectiveDrive same, h.outside.profile]

/-- What has no holder was not granted. -/
theorem GrantsOnly.entry_of_no_holder (h : GrantsOnly u v) {r : Resource} (free : (v.entry r).state.holder = none) :
    v.entry r = u.entry r := by
  rcases h.entries r with kept | ⟨-, p, granted⟩
  · exact kept
  · rw [granted] at free
    exact absurd free (holder_grantedTo p _)

end Driven

section Freed

variable {s u v : State} {p : Port} {set : ResourceSet} {after : LeaseState} {records : List ((Port → Bool) × RecordBody)}

theorem SetFreed.withSession (h : SetFreed s u set after records) (p : Port) (f : Session → Session) :
    SetFreed s (u.withSession p f) set after records :=
  ⟨h.journal, h.entries, h.lines, h.engines, h.offers, h.waiting, h.outside.trans (withSession_outside u p f)⟩

theorem SetFreed.line_driven (h : SetFreed s u set after records) {l : Line} (inside : inSet set (lineResource l) = true) :
    (u.line l).drive = u.effectiveDrive l := by rw [h.lines l, if_pos inside, decidedAgain_drive]

theorem SetFreed.engine_driven (h : SetFreed s u set after records) {e : EngineNo}
    (inside : inSet set (engineResource e) = true) : (u.engine e).out = u.engineDrive e := by
  rw [h.engines e, if_pos inside]

theorem SetFreed.entry_outside (h : SetFreed s u set after records) {r : Resource} (outside : inSet set r = false) :
    u.entry r = s.entry r := by rw [h.entries, outside, if_neg Bool.false_ne_true]

/-- The engines of the set stay IDLE through the examination, at the pins that are called for. -/
theorem SetFreed.engine_inside (h : SetFreed s u set after records) (grants : GrantsOnly u v) {e : EngineNo}
    (inside : inSet set (engineResource e) = true) :
    v.engine e = { s.engine e with state := .idle, out := v.engineDrive e } := by
  rw [grants.engine_driven (h.engine_driven inside), h.engines e, if_pos inside]

theorem SetFreed.engine_outside (h : SetFreed s u set after records) (grants : GrantsOnly u v) {e : EngineNo}
    (outside : inSet set (engineResource e) = false)
    (same : (v.entry (engineResource e)).generation = (s.entry (engineResource e)).generation) : v.engine e = s.engine e := by
  rw [← h.entry_outside outside, grants.generation_iff] at same
  rw [grants.engine same, h.engines e, outside, if_neg Bool.false_ne_true]

theorem SetFreed.line_outside (h : SetFreed s u set after records) (grants : GrantsOnly u v) {l : Line}
    (outside : inSet set (lineResource l) = false)
    (same : (v.entry (lineResource l)).generation = (s.entry (lineResource l)).generation) : v.line l = s.line l := by
  rw [← h.entry_outside outside, grants.generation_iff] at same
  rw [grants.line same, h.lines l, outside, if_neg Bool.false_ne_true]

/-- A line of the set that no queued claim took has its drive decided again. -/
theorem SetFreed.line_inside (h : SetFreed s u set after records) (grants : GrantsOnly u v) {l : Line}
    (inside : inSet set (lineResource l) = true) (same : v.entry (lineResource l) = u.entry (lineResource l)) :
    v.line l = decidedAgain v l (s.line l) := by
  rw [grants.line same, h.lines l, if_pos inside, grants.decidedAgain same]

/-- What is let go of a state in which a request is taken is let go of the state before. -/
theorem SetFreed.of_taken (h : SetFreed (taken s p) u set after records) :
    (u.journal, u.nextSeq) = withRecords s.isOpen (s.journal, s.nextSeq) s.timeCount records ∧
      (∀ r, u.entry r = if inSet set r then { s.entry r with state := after } else s.entry r) ∧
      (∀ l, u.line l = if inSet set (lineResource l) then decidedAgain u l (s.line l) else s.line l) ∧
      (∀ e, u.engine e =
        if inSet set (engineResource e) then { s.engine e with state := .idle, out := u.engineDrive e } else s.engine e) ∧
      u.offers = s.offers ∧ u.offerCounter = s.offerCounter ∧ u.waitList = s.waitList ∧
      u.ticketCounter = s.ticketCounter ∧ SameOutside (s.served p) u := by
  obtain ⟨journal, nextSeq, -⟩ := taken_journal s p
  obtain ⟨records_, entries, lines, engines, offers, waiting, outside⟩ := h
  rw [funext (taken_isOpen s p), journal, nextSeq, taken_timeCount] at records_
  rw [taken_offers, taken_offerCounter] at offers
  rw [taken_waitList, taken_ticketCounter] at waiting
  simp only [taken_entry] at entries
  simp only [taken_line] at lines
  simp only [taken_engine] at engines
  exact ⟨records_, entries, lines, engines, offers.1, offers.2, waiting.1, waiting.2, (restart_outside s p).trans outside⟩

end Freed

/-! ### RELEASE -/

section Release

variable {s : State} {p : Port} {set : ResourceSet}

/-- A RELEASE before the examination. -/
def releasedSet (s : State) (p : Port) (set : ResourceSet) : State :=
  ((stoppedFor s set).letGo set .free).lose p (setSize set)

theorem releaseBody_ok {pl : List Byte} (hset : set.toNat = fieldAt pl 0 5) (some_set : set ≠ 0)
    (held : ∀ r, inSet set r = true → (s.entry r).state = .held p) :
    releaseBody s p pl = ((releasedSet s p set).examine, bare .ok) := by
  have passes : (members set).find? (fun r => !s.heldBy p r) = none :=
    List.find?_eq_none.2 fun r hr => by simp [State.heldBy, held r (mem_members.1 hr)]
  simp only [releaseBody, releaseOperands_eq_some hset some_set, passes, releaseSet_eq]
  rfl

theorem stoppedFor_of_noEndDue (ready : ∀ e ∈ enginesOf set, NoEndDue s e) :
    stoppedFor s set = (enginesOf set).foldl (fun s e => State.stopEngine s .stopped e) s := by
  rw [stoppedFor, catchUpAll_of_noEndDue ready]

theorem stoppedFor_runsOver (ready : ∀ e ∈ enginesOf set, NoEndDue s e) (held : ∀ r, inSet set r = true → s.holds p r = true) :
    RunsOver s (stoppedFor s set) (enginesOf set) (stopResults s p set) := by
  rw [stoppedFor_of_noEndDue ready, ← stopResults_eq held]
  exact stopAll_runsOver s .stopped (nodup_enginesOf set)

theorem releasedSet_setFreed (ready : ∀ e ∈ enginesOf set, NoEndDue s e) (held : ∀ r, inSet set r = true → s.holds p r = true) :
    SetFreed s (releasedSet s p set) set .free (stopResults s p set) :=
  ((stoppedFor_runsOver ready held).setFreed .free).withSession p fun x => { x with heldCount := x.heldCount - setSize set }

/-- Engines that are IDLE stay as they are. -/
theorem stoppedFor_of_idle (ready : ∀ e ∈ enginesOf set, NoEndDue s e)
    (idle : ∀ e, inSet set (engineResource e) = true → (s.engine e).state = .idle) : stoppedFor s set = s := by
  have all (l : List EngineNo) (sub : ∀ e ∈ l, (s.engine e).state = .idle) :
      l.foldl (fun s e => State.stopEngine s .stopped e) s = s := by
    induction l with
    | nil => rfl
    | cons e l ih =>
      rw [List.foldl_cons, stopEngine_idle _ (sub e List.mem_cons_self)]
      exact ih fun k hk => sub k (List.mem_cons_of_mem e hk)
  rw [stoppedFor_of_noEndDue ready]
  exact all _ fun e he => idle e (mem_enginesOf.1 he)

theorem stopResults_taken (s : State) (p q : Port) (set : ResourceSet) : stopResults (taken s p) q set = stopResults s q set := by
  simp only [stopResults, runsEnded, taken_engine, taken_timeCount]

theorem session_lose (s : State) (p q : Port) (n : Nat) :
    (s.lose p n).session q = if q = p then { s.session p with heldCount := (s.session p).heldCount - n } else s.session q := by
  rw [State.lose, State.session_withSession]

theorem lose_journal (s : State) (p : Port) (n : Nat) : SameJournal s (s.lose p n) := by simp [SameJournal, State.lose]

theorem session_letGo (s : State) (set : ResourceSet) (after : LeaseState) (q : Port) :
    (s.letGo set after).session q = s.session q := by
  obtain ⟨-, -, sessions, -⟩ := letGo_rest s set after
  rw [State.session, sessions, State.session]

theorem sessionFrame_heldCount {x y : Session} (h : sessionFrame x = sessionFrame y) (n : Nat) :
    sessionFrame { x with heldCount := n } = { sessionFrame y with heldCount := n } := by
  rw [← h]
  rfl

theorem restarted_heldCount (x : Session) : (restarted x).heldCount = x.heldCount := by
  cases state : x.state <;> simp [restarted, state]

/-- The releasing port's held count falls by the members of the set; of other sessions only journal fields moved. -/
theorem releasedSet_sessions (ready : ∀ e ∈ enginesOf set, NoEndDue s e) (held : ∀ r, inSet set r = true → s.holds p r = true) :
    sessionFrame ((releasedSet (taken s p) p set).session p) =
        { sessionFrame (restarted (s.session p)) with heldCount := (s.session p).heldCount - (members set).length } ∧
      ∀ q, q ≠ p → sessionFrame ((releasedSet (taken s p) p set).session q) = sessionFrame (s.session q) := by
  obtain ⟨own, others⟩ := restart_only s p
  have moved := (stoppedFor_runsOver (noEndDue_all_taken p ready) (by simpa only [taken_holds] using held)).moved
  refine ⟨?_, fun q hq => ?_⟩
  · have frame := (moved p).trans (congrArg sessionFrame own)
    rw [releasedSet, session_lose, if_pos rfl, session_letGo, sessionFrame_heldCount frame, heldCount_of_frame frame,
      restarted_heldCount]
    rfl
  · rw [releasedSet, session_lose, if_neg hq, session_letGo]
    exact (moved q).trans (congrArg sessionFrame (others q hq))

/-- With its engines IDLE, a RELEASE makes no record and moves no journal field. -/
theorem releasedSet_of_idle (ready : ∀ e ∈ enginesOf set, NoEndDue s e)
    (idle : ∀ e, inSet set (engineResource e) = true → (s.engine e).state = .idle) :
    SameJournal s (releasedSet (taken s p) p set) ∧
      (releasedSet (taken s p) p set).session p =
        { restarted (s.session p) with heldCount := (s.session p).heldCount - (members set).length } ∧
      ∀ q, q ≠ p → (releasedSet (taken s p) p set).session q = s.session q := by
  obtain ⟨own, others⟩ := restart_only s p
  have own : (taken s p).session p = restarted (s.session p) := own
  have others (q : Port) (hq : q ≠ p) : (taken s p).session q = s.session q := others q hq
  have stopped := stoppedFor_of_idle (noEndDue_all_taken p ready) (by simpa only [taken_engine] using idle)
  obtain ⟨-, -, -, journal⟩ := letGo_rest (taken s p) set .free
  refine ⟨?_, ?_, fun q hq => ?_⟩
  · rw [releasedSet, stopped]
    obtain ⟨a, b, c⟩ := journal
    obtain ⟨a', b', c'⟩ := lose_journal ((taken s p).letGo set .free) p (setSize set)
    exact sameJournal_of_taken ⟨a'.trans a, b'.trans b, c'.trans c⟩
  · rw [releasedSet, stopped, session_lose, if_pos rfl, session_letGo, own, restarted_heldCount]
    rfl
  · rw [releasedSet, stopped, session_lose, if_neg hq, session_letGo, others q hq]

/-- What a RELEASE leaves before the examination. -/
theorem releaseLeaves_releasedSet (ready : ∀ e ∈ enginesOf set, NoEndDue s e)
    (held : ∀ r, inSet set r = true → s.holds p r = true) : ReleaseLeaves s (releasedSet (taken s p) p set) p set := by
  have freed := releasedSet_setFreed (noEndDue_all_taken p ready) (by simpa only [taken_holds] using held)
  rw [stopResults_taken] at freed
  obtain ⟨journal, entries, lines, engines, offers, offerCounter, waitList, ticketCounter, outside⟩ := freed.of_taken
  obtain ⟨own, others⟩ := releasedSet_sessions ready held
  exact ⟨journal, entries, lines, engines, own, others, waitList, ticketCounter, offers, offerCounter, outside.1⟩

/-- Settles O15: the set is let go, and the examination that follows gives it on or leaves it free. -/
theorem released : Obligations.Released := by
  intro s p f request passes set hset some_set held ready
  have holds (r : Resource) (inside : inSet set r = true) : s.holds p r = true := holds_of_held (held r inside)
  have run := take_of_body (rq := .release) rfl request passes
    (releaseBody_ok (s := taken s p) hset some_set (by simpa only [taken_entry] using held))
  have freed := releasedSet_setFreed (noEndDue_all_taken p ready) (by simpa only [taken_holds] using holds)
  have leaves_ := releaseLeaves_releasedSet ready holds
  have quiet := releasedSet_of_idle (p := p) ready
  have moved := releaseSet_countsMoved (taken s p) p set
  rw [releaseSet_eq, ← releasedSet] at moved
  generalize releasedSet (taken s p) p set = u at *
  have grants := examine_grants u
  have examined : Examined u u.examine := .inr rfl
  obtain ⟨journal, entries, -, -, own, others, waitList, ticketCounter, offers, offerCounter, -⟩ := id leaves_
  generalize hv : u.examine = v at *
  have outside := freed.outside.trans grants.outside
  refine ⟨_, run, answered_of_outside f (bare .ok) ((restart_outside s p).trans outside), fun r => ?_, fun e inside => ?_,
    fun e out same => ?_, fun l inside => ⟨grants.line_driven (freed.line_driven inside), fun free => ?_⟩,
    fun l out same => ?_, grants.offers.1.trans offers, grants.offers.2.1.trans offerCounter,
    grants.offers.2.2.trans ticketCounter, restartedBesideCounts_of_taken moved,
    sameRest_answer f.tag _ ((restart_outside s p).trans outside), waitList ▸ grants.waiting, fun wf => ?_,
    fun same idle => ?_, fun same => ?_, u, leaves_, ?_⟩
  · have entry := examined.entry_of_before waitList r
    rwa [entries] at entry
  · have engine := freed.engine_inside grants inside
    rwa [taken_engine] at engine
  · have engine := freed.engine_outside grants out
    rw [taken_engine, taken_entry] at engine
    exact engine same
  · have kept := grants.entry_of_no_holder (r := lineResource l) (congrArg LeaseState.holder free)
    have line := freed.line_inside grants inside kept
    rwa [taken_line] at line
  · have line := freed.line_outside grants out
    rw [taken_line, taken_entry] at line
    exact line same
  · rw [← hv]
    exact (answer_sameLedger _ p f.tag _).blocked (examine_blocked (distinctEntries_of_waitWf wf waitList))
  · obtain rfl := examined.eq_of_waitList ((same : v.waitList = s.waitList).trans waitList.symm)
    exact quiet idle
  · obtain rfl := examined.eq_of_waitList ((same : v.waitList = s.waitList).trans waitList.symm)
    refine ⟨journal, ?_, fun q hq => heldCount_of_frame (others q hq)⟩
    simpa [sessionFrame] using congrArg Session.heldCount own
  · rw [← hv]
    exact examinedTo_answer u p f.tag _

end Release

end Sys2Proof.Proofs
end


section
/-! PROOFS. ACCEPT: the resources of an offer move to its target (R52). -/

namespace Sys2Proof.Proofs

open Sys2Proof.Machine Sys2Proof.Safety Sys2Proof.Laws

section Accept

variable {s u : State} {o : Offer}

/-! ### Drives decided again that were right -/

/-- A drive that is right stays as it is when it is decided again. -/
theorem redrive_of_right (set : ResourceSet) (right : PinsRight s) : SameField s (s.redrive set) := by
  refine ⟨Vector.ext fun i hi => ?_, Vector.ext fun i hi => ?_⟩
  · have line : (s.redrive set).line ⟨i, hi⟩ = s.line ⟨i, hi⟩ := by
      rw [State.line_redrive, State.decidedCell, ← right.lines, if_pos rfl, ite_self]
    exact line
  · have engine : (s.redrive set).engine ⟨i, hi⟩ = s.engine ⟨i, hi⟩ := by
      rw [State.engine_redrive, State.decidedEngine, ← right.engines, ite_self]
    exact engine

theorem offerMoved_field (s : State) (o : Offer) : SameField s (offerMoved s o) := by
  simp [SameField, offerMoved, State.gain, State.lose, State.removeOffer]

theorem offerMoved_outside (s : State) (o : Offer) : SameOutside s (offerMoved s o) := by
  simp [offerMoved, State.gain, State.lose, State.removeOffer, SameOutside, SameRest, SameControl, SamePorts]

/-- What was offered was under control, and stays so. -/
theorem offerMoved_samePins (marked : ∀ r, inSet o.set r = true → (s.entry r).state = .offered o.offerer o.id) :
    SamePins s (offerMoved s o) := by
  refine samePins_of_leases (offerMoved_field s o) (offerMoved_outside s o) (fun r => ?_) fun r => ?_
  · rw [offerMoved_entry]
    split
    next inside => rw [marked r inside]; rfl
    next => rfl
  · rw [offerMoved_entry]
    split <;> rfl

/-! ### The steps of an ACCEPT before the examination -/

/-- An offer is accepted, but for its record. -/
def offerDriven (s : State) (o : Offer) : State := (offerMoved s o).redrive o.set

theorem acceptOffer_of_noEndDue (ready : ∀ e ∈ enginesOf o.set, NoEndDue s e) :
    s.acceptOffer o =
      (offerDriven s o).append (onlyPort o.offerer) s.timeCount (.offerSettled o.offerer o.id .accepted) := by
  have time : (offerDriven s o).timeCount = s.timeCount :=
    ((offerMoved_outside s o).trans (redrive_outside _ _)).timeCount
  rw [acceptOffer_eq, catchUpAll_of_noEndDue ready, ← offerDriven, State.appendSettled, time]

theorem offerDriven_entry (s : State) (o : Offer) (r : Resource) :
    (offerDriven s o).entry r = if inSet o.set r then grantedTo o.target (s.entry r) else s.entry r := by
  rw [offerDriven, State.entry, State.redrive_leases, ← State.entry, offerMoved_entry]

theorem offerDriven_field (s : State) (o : Offer) :
    (∀ l, (offerDriven s o).line l =
        if inSet o.set (lineResource l) then decidedAgain (offerDriven s o) l (s.line l) else s.line l) ∧
      ∀ e, (offerDriven s o).engine e =
        if inSet o.set (engineResource e) then { s.engine e with out := (offerDriven s o).engineDrive e } else s.engine e := by
  obtain ⟨lines, engines⟩ := offerMoved_field s o
  refine ⟨fun l => ?_, fun e => ?_⟩
  · rw [offerDriven, line_redrive_decidedAgain, State.line, lines, State.line]
  · rw [offerDriven, engine_redrive_engineDrive, State.engine, engines, State.engine]

theorem offerDriven_session (s : State) (o : Offer) (q : Port) : (offerDriven s o).session q = (offerMoved s o).session q := by
  rw [offerDriven, State.session, State.redrive_sessions, State.session]

theorem offerDriven_rest (s : State) (o : Offer) :
    (offerDriven s o).journal = s.journal ∧ (offerDriven s o).nextSeq = s.nextSeq ∧
      (offerDriven s o).offers = s.offers.filter (fun x => decide (x.id ≠ o.id)) ∧
      (offerDriven s o).offerCounter = s.offerCounter ∧ (offerDriven s o).waitList = s.waitList ∧
      (offerDriven s o).ticketCounter = s.ticketCounter := by
  simp [offerDriven, offerMoved, State.gain, State.lose, State.removeOffer]

theorem offerDriven_isOpen (different : o.target ≠ o.offerer) : (offerDriven s o).isOpen = s.isOpen := by
  funext q
  have state : ((offerDriven s o).session q).state = (s.session q).state := by
    rw [offerDriven_session, offerMoved_session different]
    split
    next => rfl
    next => split <;> rfl
  simp only [State.isOpen, State.openFields, state]

theorem offerDriven_appended (different : o.target ≠ o.offerer) (time : Count) (body : RecordBody) :
    Appended s ((offerDriven s o).append (onlyPort o.offerer) time body) (fun q => decide (q = o.offerer)) time body := by
  obtain ⟨journal, nextSeq, -⟩ := offerDriven_rest s o
  have record := appended_append (offerDriven s o) (onlyPort o.offerer) time body
  rwa [Appended, offerDriven_isOpen different, journal, nextSeq, get_onlyPort] at record

theorem decidedAgain_append (s : State) (ps : PortSet) (time : Count) (body : RecordBody) (l : Line) (c : LineCell) :
    decidedAgain (s.append ps time body) l c = decidedAgain s l c := by
  unfold decidedAgain
  rw [effectiveDrive_append, (append_outside s ps time body).profile]

/-- The held counts follow; of other sessions only journal fields moved. -/
theorem acceptOffer_sessions {p : Port} (different : o.target ≠ o.offerer) (target : o.target = p)
    (ready : ∀ e ∈ enginesOf o.set, NoEndDue s e) :
    sessionFrame (((taken s p).acceptOffer o).session p) =
        { sessionFrame (restarted (s.session p)) with heldCount := (s.session p).heldCount + (members o.set).length } ∧
      sessionFrame (((taken s p).acceptOffer o).session o.offerer) =
        { sessionFrame (s.session o.offerer) with
          heldCount := (s.session o.offerer).heldCount - (members o.set).length } ∧
      ∀ q, q ≠ p → q ≠ o.offerer → sessionFrame (((taken s p).acceptOffer o).session q) = sessionFrame (s.session q) := by
  obtain ⟨own, others⟩ := restart_only s p
  have own : (taken s p).session p = restarted (s.session p) := own
  have others (q : Port) (hq : q ≠ p) : (taken s p).session q = s.session q := others q hq
  have offererNot : o.offerer ≠ p := fun same => different (target.trans same.symm)
  rw [acceptOffer_of_noEndDue (noEndDue_all_taken p ready)]
  refine ⟨?_, ?_, fun q notTarget notOfferer => ?_⟩
  · rw [append_moved, offerDriven_session, offerMoved_session different, if_pos target.symm, own, restarted_heldCount,
      sessionFrame_heldCount rfl]
    rfl
  · rw [append_moved, offerDriven_session, offerMoved_session different, if_neg (target ▸ offererNot), if_pos rfl,
      others _ offererNot, sessionFrame_heldCount rfl]
    rfl
  · rw [append_moved, offerDriven_session, offerMoved_session different, if_neg (target ▸ notTarget), if_neg notOfferer,
      others q notTarget]

/-- What an ACCEPT leaves before the examination. -/
theorem acceptLeaves_acceptOffer {p : Port} (different : o.target ≠ o.offerer) (target : o.target = p)
    (ready : ∀ e ∈ enginesOf o.set, NoEndDue s e) : AcceptLeaves s ((taken s p).acceptOffer o) p o := by
  obtain ⟨own, offerer, others⟩ := acceptOffer_sessions different target ready
  have outside := (restart_outside s p).trans (acceptOffer_outside (taken s p) o)
  rw [acceptOffer_of_noEndDue (noEndDue_all_taken p ready)] at *
  have record := offerDriven_appended (s := taken s p) different (taken s p).timeCount
    (.offerSettled o.offerer o.id .accepted)
  obtain ⟨-, -, offers, offerCounter, waitList, ticketCounter⟩ := offerDriven_rest (taken s p) o
  obtain ⟨lines, engines⟩ := offerDriven_field (taken s p) o
  obtain ⟨-, offers', offerCounter', waitList', ticketCounter'⟩ := append_tables (offerDriven (taken s p) o)
    (onlyPort o.offerer) (taken s p).timeCount (.offerSettled o.offerer o.id .accepted)
  refine ⟨?_, fun r => ?_, fun l => ?_, fun e => ?_, own, offerer, others, ?_, ?_, ?_, ?_, outside.1⟩
  · rw [taken_timeCount] at record ⊢
    exact appended_of_taken record
  · rw [append_entry, offerDriven_entry, taken_entry, ← target]
    rfl
  · have decided (c : LineCell) := decidedAgain_append (offerDriven (taken s p) o) (onlyPort o.offerer)
      (taken s p).timeCount (.offerSettled o.offerer o.id .accepted) l c
    rw [append_line, lines l, taken_line, decided]
  · rw [append_engine, engines e, taken_engine, engineDrive_append]
  · rw [offers', offers, taken_offers]
  · rw [offerCounter', offerCounter, taken_offerCounter]
  · rw [waitList', waitList, taken_waitList]
  · rw [ticketCounter', ticketCounter, taken_ticketCounter]

/-- No cell or engine moves when its drive was right. -/
theorem acceptOffer_field {p : Port} (marked : ∀ r, inSet o.set r = true → (s.entry r).state = .offered o.offerer o.id)
    (ready : ∀ e ∈ enginesOf o.set, NoEndDue s e) (right : PinsRight s) : SameField s ((taken s p).acceptOffer o) := by
  have taken_right : PinsRight (taken s p) := ((served_samePins s p).trans (withOpen_samePins (s.served p) p _)).right right
  have moved := (offerMoved_samePins (s := taken s p) (by simpa only [taken_entry] using marked)).right taken_right
  obtain ⟨lines, engines⟩ := taken_field s p
  obtain ⟨lines', engines'⟩ := offerMoved_field (taken s p) o
  obtain ⟨lines'', engines''⟩ := redrive_of_right o.set moved
  rw [acceptOffer_of_noEndDue (noEndDue_all_taken p ready), offerDriven]
  obtain ⟨lines3, engines3⟩ := append_field ((offerMoved (taken s p) o).redrive o.set) (onlyPort o.offerer)
    (taken s p).timeCount (.offerSettled o.offerer o.id .accepted)
  exact ⟨lines3.trans (lines''.trans (lines'.trans lines)), engines3.trans (engines''.trans (engines'.trans engines))⟩

/-- Settles O22: the offer's resources move as a whole, and the examination takes nothing that has a holder. -/
theorem offerAccepted : Obligations.OfferAccepted := by
  intro s p f request passes wf named o found target ready
  obtain ⟨-, different, -⟩ := ((offersWf_iff s).1 wf).parties o (offer_mem found)
  have marked := marked_of_offersWf wf found
  have body : settleBody Offer.target acceptFound (taken s p) p f.payload =
      (((taken s p).acceptOffer o).examine,
        { status := .ok, payload := ((taken s p).acceptOffer o).acceptPayload o.set }) :=
    settleBody_found named ((offer_taken s p _).trans found) target
  have run := take_of_body (rq := .accept) rfl request passes body
  have leaves_ := acceptLeaves_acceptOffer different target ready
  have field (right : PinsExact s) := acceptOffer_field (p := p) marked ready ((pinsExact_of_awake (taking_awake request.1)).1 right)
  have moved := (acceptOffer_countsMoved (taken s p) o).trans (examine_countsMoved _)
  have outside := (restart_outside s p).trans (acceptOffer_outside (taken s p) o)
  clear body
  generalize (taken s p).acceptOffer o = u at *
  have grants := examine_grants u
  have examined : Examined u u.examine := .inr rfl
  obtain ⟨record, entries, -, -, own, offerer, -, offers, offerCounter, waitList, ticketCounter, -⟩ := id leaves_
  have kept (r : Resource) (inside : inSet o.set r = true) : u.examine.entry r = u.entry r :=
    grants.entry_of_holder (by rw [entries, if_pos inside]; exact Option.some_ne_none p)
  have payload := generations_congr (set := o.set) kept
  have answered := answered_of_outside f { status := .ok, payload := u.acceptPayload o.set } (outside.trans grants.outside)
  generalize hv : u.examine = v at *
  refine ⟨_, run, ?_, fun r inside => ?_, fun r out => ?_, grants.offers.1.trans offers,
    grants.offers.2.1.trans offerCounter, grants.offers.2.2.trans ticketCounter, fun right l inside => ?_,
    fun right e inside => ?_, restartedBesideCounts_of_taken moved, sameRest_answer f.tag _ (outside.trans grants.outside),
    waitList ▸ grants.waiting, fun wf => ?_, fun same => ?_, u, leaves_, ?_⟩
  · rw [State.acceptPayload, ← payload] at answered ⊢
    exact answered
  · rw [State.entry_answer, kept r inside, entries, if_pos inside]
  · have entry := examined.entry_of_before waitList r
    rwa [entries, out, if_neg Bool.false_ne_true] at entry
  · obtain ⟨lines, -⟩ := field right
    rw [State.line_answer, grants.line (kept _ inside), State.line, lines, State.line]
  · obtain ⟨-, engines⟩ := field right
    rw [State.engine_answer, grants.engine (kept _ inside), State.engine, engines, State.engine]
  · rw [← hv]
    exact (answer_sameLedger _ p f.tag _).blocked (examine_blocked (distinctEntries_of_waitWf wf waitList))
  · obtain rfl := examined.eq_of_waitList ((same : v.waitList = s.waitList).trans waitList.symm)
    refine ⟨record, ?_, ?_, fun right => field right⟩
    · simpa [sessionFrame] using congrArg Session.heldCount own
    · simpa [sessionFrame] using congrArg Session.heldCount offerer
  · rw [← hv]
    exact examinedTo_answer u p f.tag _

end Accept

end Sys2Proof.Proofs
end


section
/-! PROOFS. The force input: its assertion and its release (R93 to R95). -/

namespace Sys2Proof.Proofs

open Sys2Proof.Machine Sys2Proof.Safety Sys2Proof.Laws

/-! ### Pins, record and monitors under a changed flag -/

section Changed

variable (s : State) (asserted : Bool)

theorem everyPort_get : everyPort.get = fun _ => true := funext fun q => PerPort.get_of _ q

theorem forceChanged_eq :
    s.forceChanged asserted =
      ((s.redrive everyResource).append everyPort s.timeCount (.forceChange asserted)).enterMonitors := rfl

theorem forceChanged_line (l : Line) : (s.forceChanged asserted).line l = enteredAnew (s.forceChanged asserted) l (s.line l) := by
  have drive : (s.forceChanged asserted).effectiveDrive l = s.effectiveDrive l := by
    rw [forceChanged_eq, effectiveDrive_enterMonitors, effectiveDrive_append, effectiveDrive_redrive]
  rw [enteredAnew_congr drive (forceChanged_outside s asserted).profile, ← enteredAnew_of_decidedAgain, forceChanged_eq,
    State.enterMonitors, State.line_withLines, append_line, State.line_redrive, if_pos (inSet_everyResource _),
    decidedCell_eq_decidedAgain, ((redrive_outside s everyResource).trans (append_outside _ _ _ _)).profile]

theorem forceChanged_engine (e : EngineNo) :
    (s.forceChanged asserted).engine e = { s.engine e with out := (s.forceChanged asserted).engineDrive e } := by
  rw [forceChanged_eq, engineDrive_enterMonitors, engineDrive_append, engineDrive_redrive, State.enterMonitors,
    State.engine_withLines, append_engine, State.engine_redrive, if_pos (inSet_everyResource _), State.decidedEngine]

theorem enterMonitors_journal : s.enterMonitors.journal = s.journal ∧ s.enterMonitors.nextSeq = s.nextSeq := by
  simp [State.enterMonitors]

theorem forceChanged_appended : Appended s (s.forceChanged asserted) (fun _ => true) s.timeCount (.forceChange asserted) := by
  have record := appended_append (s.redrive everyResource) everyPort s.timeCount (.forceChange asserted)
  have isOpen : (s.redrive everyResource).isOpen = s.isOpen := isOpen_of_sameSessions (State.redrive_sessions s _)
  rw [Appended, isOpen, State.redrive_journal, State.redrive_nextSeq, everyPort_get] at record
  obtain ⟨journal, nextSeq⟩ :=
    enterMonitors_journal ((s.redrive everyResource).append everyPort s.timeCount (.forceChange asserted))
  rw [Appended, forceChanged_eq, journal, nextSeq, record]

theorem forceChanged_moved : OnlyJournalMoved s (s.forceChanged asserted) := fun q => by
  rw [forceChanged_eq, State.session, State.enterMonitors, State.withLines_sessions, ← State.session, append_moved,
    State.session, State.redrive_sessions, State.session]

theorem forceChanged_tables : SameTables s (s.forceChanged asserted) := by
  obtain ⟨a, b, c, d, e⟩ := append_tables (s.redrive everyResource) everyPort s.timeCount (.forceChange asserted)
  simp only [State.redrive_leases, State.redrive_offers, State.redrive_offerCounter, State.redrive_waitList,
    State.redrive_ticketCounter] at a b c d e
  rw [forceChanged_eq, State.enterMonitors]
  simp only [SameTables, State.withLines_leases, State.withLines_offers, State.withLines_offerCounter,
    State.withLines_waitList, State.withLines_ticketCounter]
  exact ⟨a, b, c, d, e⟩

end Changed

section Force

variable {s u : State} {asserted : Bool}

/-- The flag changed, and beside engines and records nothing else did. -/
theorem forceMoved_forceChanged (moved : OnlyJournalMoved s u) (tables : SameTables s u) (lines : u.lines = s.lines)
    (outside : SameOutside (s.setForce asserted) u) : ForceMoved s (u.forceChanged asserted) asserted := by
  obtain ⟨⟨force, time, profile, control⟩, ports⟩ := outside.trans (forceChanged_outside u asserted)
  obtain ⟨a, b, c, d, e⟩ := tables
  obtain ⟨a', b', c', d', e'⟩ := forceChanged_tables u asserted
  refine ⟨force, fun l => ?_, fun q => (forceChanged_moved u asserted q).trans (moved q),
    ⟨a'.trans a, b'.trans b, c'.trans c, d'.trans d, e'.trans e⟩, time, profile, control, ports⟩
  rw [forceChanged_line, State.line, lines, State.line]

theorem setForce_same (s : State) (asserted : Bool) :
    OnlyJournalMoved s (s.setForce asserted) ∧ SameTables s (s.setForce asserted) ∧ (s.setForce asserted).lines = s.lines ∧
      (s.setForce asserted).engines = s.engines ∧ (s.setForce asserted).journal = s.journal ∧
      (s.setForce asserted).nextSeq = s.nextSeq ∧ (s.setForce asserted).timeCount = s.timeCount :=
  ⟨fun _ => rfl, ⟨rfl, rfl, rfl, rfl, rfl⟩, rfl, rfl, rfl, rfl, rfl⟩

/-! ### The assertion -/

/-- The runs of all engines are over under the flag. -/
def forcedIdle (s : State) : State := (List.finRange 4).foldl (fun s e => State.stopEngine s .forced e) (s.setForce true)

theorem assertForce_of_noEndDue (ready : ∀ e, NoEndDue s e) : s.assertForce = (forcedIdle s).forceChanged true := by
  rw [State.assertForce, catchUpAll_of_not_due ready]
  rfl

theorem forcedResults_setForce (s : State) :
    runsEnded (s.setForce true) .forced (holderIs (s.setForce true)) (List.finRange 4) = forcedResults s := rfl

theorem forcedIdle_runsOver (s : State) : RunsOver (s.setForce true) (forcedIdle s) (List.finRange 4) (forcedResults s) := by
  rw [← forcedResults_setForce]
  exact stopAll_runsOver (s.setForce true) .forced (List.nodup_finRange 4)

theorem exec_assertion {c : Instr} (awake : s.inReset = none) (released : s.force.asserted = false)
    (asserts : c = .fsafeAssertion ∨ c = .nfsafeMonitorSample .low ∧ s.force.run = 2) :
    exec c s = .next s.assertForce := by
  rcases asserts with rfl | ⟨rfl, run⟩
  · simp only [exec, execFsafeAssertion, awake_of_awake awake, released, Bool.false_eq_true, if_false]
  · simp [exec, execNfsafeMonitorSample, awake_of_awake awake, State.sampleForce, forceAgrees, released, run]

/-- Settles O31: the engines are forced under the flag, and then pins, record and monitors follow. -/
theorem forceAsserted : Obligations.ForceAsserted := by
  intro s c awake released ready asserts
  have forced := forcedIdle_runsOver s
  have run := exec_assertion awake released asserts
  rw [assertForce_of_noEndDue ready] at run
  generalize forcedIdle s = u at *
  have record := forceChanged_appended u true
  have isOpen : u.isOpen = s.isOpen := funext (isOpen_of_frame forced.moved)
  have time : u.timeCount = s.timeCount := forced.outside.timeCount
  rw [Appended, isOpen, time, forced.journal] at record
  refine ⟨_, run, forceMoved_forceChanged forced.moved forced.tables forced.lines forced.outside, fun e => ?_, ?_⟩
  · obtain ⟨out, ended⟩ := forced.ended e (List.mem_finRange e)
    rw [forceChanged_engine, ended]
    rfl
  · rw [withRecords_append]
    exact record

/-! ### The release and the samples -/

theorem forceAgrees_iff (asserted : Bool) (level : Level) :
    forceAgrees asserted level = true ↔ (asserted = true ↔ level = .low) := by
  cases asserted <;> cases level <;> decide

theorem exec_release {c : Instr} (awake : s.inReset = none) (asserted : s.force.asserted = true)
    (releases : c = .fsafeRelease ∨ c = .nfsafeMonitorSample .high ∧ s.force.run = 2) :
    exec c s = .next s.releaseForce := by
  rcases releases with rfl | ⟨rfl, run⟩
  · simp only [exec, execFsafeRelease, awake_of_awake awake, asserted, if_true]
  · simp [exec, execNfsafeMonitorSample, awake_of_awake awake, State.sampleForce, forceAgrees, asserted, run]

theorem exec_agrees {level : Level} (awake : s.inReset = none) (agrees : forceAgrees s.force.asserted level = true) :
    exec (.nfsafeMonitorSample level) s = .next (s.withForce { s.force with run := 0 }) := by
  simp only [exec, execNfsafeMonitorSample, awake_of_awake awake, State.sampleForce, agrees, if_true]

theorem exec_disagrees {level : Level} (awake : s.inReset = none) (disagrees : forceAgrees s.force.asserted level = false)
    (early : s.force.run < 2) :
    exec (.nfsafeMonitorSample level) s = .next (s.withForce { s.force with run := s.force.run + 1 }) := by
  have before : s.force.run + 1 < 3 := Nat.succ_lt_succ early
  simp only [exec, execNfsafeMonitorSample, awake_of_awake awake, State.sampleForce, disagrees, Bool.false_eq_true,
    if_false, before, if_true]

/-- Settles O32. -/
theorem forceReleasedAndSampled : Obligations.ForceReleasedAndSampled := by
  refine ⟨fun s c awake asserted releases => ?_, fun s level awake _ => ⟨fun agrees => ?_, fun disagrees early => ?_⟩,
    fun s => ⟨fun asserted => ?_, fun released => ?_⟩⟩
  · obtain ⟨moved, tables, lines, -⟩ := setForce_same s false
    refine ⟨_, exec_release awake asserted releases, forceMoved_forceChanged moved tables lines (.refl _), fun e => ?_, ?_⟩
    · exact forceChanged_engine (s.setForce false) false e
    · exact forceChanged_appended (s.setForce false) false
  · exact exec_agrees awake ((forceAgrees_iff _ _).2 agrees)
  · exact exec_disagrees awake (Bool.eq_false_iff.2 fun agrees => disagrees ((forceAgrees_iff _ _).1 agrees)) early
  · simp only [exec, execFsafeAssertion, State.awake, asserted, if_true, ite_self]
  · simp only [exec, execFsafeRelease, State.awake, released, Bool.false_eq_true, if_false, ite_self]

end Force

end Sys2Proof.Proofs
end


section
/-! PROOFS. Line cells and their records: the contention monitor (R89 to R91), the filter (R78) and a whole sample (R77). -/

namespace Sys2Proof.Proofs

open Sys2Proof.Machine Sys2Proof.Safety Sys2Proof.Laws

/-! ### Steps with records -/

/-- Records were offered in their order, and moved what records move of the sessions; the tables and the outside are as they
were. -/
structure Logged (s t : State) (records : List ((Port → Bool) × RecordBody)) : Prop where
  journal : (t.journal, t.nextSeq) = withRecords s.isOpen (s.journal, s.nextSeq) s.timeCount records
  moved : OnlyJournalMoved s t
  tables : SameTables s t
  outside : SameOutside s t

/-- The cell of a line is `c`, and the others are as they were. -/
def CellIs (s t : State) (l : Line) (c : LineCell) : Prop := t.line l = c ∧ ∀ k, k ≠ l → t.line k = s.line k

section Logged

variable {s t u : State} {l : Line} {c d : LineCell} {records more : List ((Port → Bool) × RecordBody)}

theorem Logged.refl (s : State) : Logged s s [] := ⟨rfl, fun _ => rfl, ⟨rfl, rfl, rfl, rfl, rfl⟩, .refl s⟩

theorem Logged.trans (h : Logged s t records) (k : Logged t u more) : Logged s u (records ++ more) where
  journal := by
    rw [withRecords_append, ← h.journal, k.journal, funext (isOpen_of_frame h.moved), h.outside.timeCount]
  moved q := (k.moved q).trans (h.moved q)
  tables := by
    obtain ⟨a, b, c, d, e⟩ := h.tables
    obtain ⟨a', b', c', d', e'⟩ := k.tables
    exact ⟨a'.trans a, b'.trans b, c'.trans c, d'.trans d, e'.trans e⟩
  outside := h.outside.trans k.outside

theorem append_logged (s : State) (ps : PortSet) (body : RecordBody) :
    Logged s (s.append ps s.timeCount body) [(ps.get, body)] :=
  ⟨appended_append s ps s.timeCount body, append_moved _ _ _ _, append_tables _ _ _ _, append_outside _ _ _ _⟩

theorem withLine_logged (s : State) (l : Line) (f : LineCell → LineCell) : Logged s (s.withLine l f) [] :=
  ⟨by simp [withRecords], fun q => by rw [State.session, State.withLine_sessions, State.session],
    by simp [SameTables], withLine_outside s l f⟩

theorem CellIs.refl (s : State) (l : Line) : CellIs s s l (s.line l) := ⟨rfl, fun _ _ => rfl⟩

theorem CellIs.trans (h : CellIs s t l c) (k : CellIs t u l d) : CellIs s u l d :=
  ⟨k.1, fun m hm => (k.2 m hm).trans (h.2 m hm)⟩

theorem cellIs_of_lines (h : t.lines = s.lines) (l : Line) : CellIs s t l (s.line l) := by
  constructor
  · rw [State.line, h, State.line]
  · intro k _
    rw [State.line, h, State.line]

theorem append_cell (s : State) (ps : PortSet) (time : Count) (body : RecordBody) (l : Line) :
    CellIs s (s.append ps time body) l (s.line l) := cellIs_of_lines (append_field s ps time body).1 l

theorem withLine_cell (s : State) (l : Line) (f : LineCell → LineCell) : CellIs s (s.withLine l f) l (f (s.line l)) :=
  ⟨by rw [State.line_withLine, if_pos rfl], fun k hk => by rw [State.line_withLine, if_neg hk]⟩

theorem withLine_engines (s : State) (l : Line) (f : LineCell → LineCell) : (s.withLine l f).engines = s.engines := by simp

end Logged

/-! ### The monitor -/

/-- The monitor after an accepted edge (R90). -/
def edgeMonitor (c : LineCell) : Monitor :=
  match c.monitor, driveLevel c.drive with
  | .watching, some d => if c.filtered = d then .watching else .faulted
  | .faulted, some d => if c.filtered = d then .watching else .faulted
  | .watching, none => .watching
  | .faulted, none => .faulted
  | .idle, _ => .idle
  | .settling n, _ => .settling n

/-- The monitor after the settle step of a sample (R89). -/
def settledMonitor (c : LineCell) : Monitor :=
  match c.monitor, driveLevel c.drive with
  | .settling n, some d => if n ≤ 1 then (if c.filtered = d then .watching else .faulted) else .settling (n - 1)
  | .settling n, none => if n ≤ 1 then .idle else .settling (n - 1)
  | .idle, _ => .idle
  | .watching, _ => .watching
  | .faulted, _ => .faulted

section Monitor

variable {s : State} {l : Line} {d : Level}

theorem faultRecipients_get (s : State) (l : Line) :
    (s.faultRecipients l).get = fun p => s.holds p (lineResource l) || !controlled (s.entry (lineResource l)).state := by
  funext p
  rw [State.faultRecipients, State.holds, State.holderOf, controlled]
  cases (s.entry (lineResource l)).state.holder with
  | none => rw [everyPort_get]; rfl
  | some q => simp [get_onlyPort, eq_comm]

/-- The record of a line that differs from its drive. -/
theorem faultRecord_eq (drive : driveLevel (s.line l).drive = some d) (differs : (s.line l).filtered ≠ d) :
    faultRecord s l (s.line l).filtered = [((s.faultRecipients l).get, .lineFault l d (s.line l).filtered)] := by
  simp only [faultRecord, drive, if_neg differs, faultRecipients_get]

theorem faultRecord_agrees (drive : driveLevel (s.line l).drive = some d) (agrees : (s.line l).filtered = d) :
    faultRecord s l (s.line l).filtered = [] := by
  simp only [faultRecord, drive, if_pos agrees]

theorem faultRecord_floats (drive : driveLevel (s.line l).drive = none) : faultRecord s l (s.line l).filtered = [] := by
  simp only [faultRecord, drive]

/-- A step of the monitor of one line: its cell, its records, and no engine. -/
structure MonitorStep (s t : State) (l : Line) (m : Monitor) (records : List ((Port → Bool) × RecordBody)) : Prop where
  cell : CellIs s t l { s.line l with monitor := m }
  logged : Logged s t records
  engines : t.engines = s.engines

theorem withLine_monitorStep (s : State) (l : Line) (m : Monitor) :
    MonitorStep s (s.withLine l fun c => { c with monitor := m }) l m [] :=
  ⟨withLine_cell s l _, withLine_logged s l _, withLine_engines s l _⟩

theorem MonitorStep.refl {m : Monitor} (same : (s.line l).monitor = m) : MonitorStep s s l m [] := by
  refine ⟨?_, .refl s, rfl⟩
  rw [← same]
  exact .refl s l

theorem enterFault_monitorStep (drive : driveLevel (s.line l).drive = some d) (differs : (s.line l).filtered ≠ d) :
    MonitorStep s (s.enterFault l d) l .faulted (faultRecord s l (s.line l).filtered) := by
  obtain ⟨cell, logged, engines⟩ := withLine_monitorStep s l .faulted
  have time : (s.withLine l fun c => { c with monitor := .faulted }).timeCount = s.timeCount := logged.outside.timeCount
  have record := append_logged (s.withLine l fun c => { c with monitor := .faulted }) (s.faultRecipients l)
    (.lineFault l d (s.line l).filtered)
  have kept := append_cell (s.withLine l fun c => { c with monitor := .faulted }) (s.faultRecipients l) s.timeCount
    (.lineFault l d (s.line l).filtered) l
  have field := append_field (s.withLine l fun c => { c with monitor := .faulted }) (s.faultRecipients l) s.timeCount
    (.lineFault l d (s.line l).filtered)
  rw [cell.1] at kept
  rw [time] at record
  rw [faultRecord_eq drive differs]
  exact ⟨cell.trans kept, logged.trans record, field.2.trans engines⟩

/-- Settling ends: the filtered level is compared with the drive. -/
theorem settleEnd_monitorStep {n : Nat} (settling : (s.line l).monitor = .settling n) (ends : n ≤ 1) :
    MonitorStep s (s.settleEnd l) l (settledMonitor (s.line l)) (faultRecord s l (s.line l).filtered) := by
  unfold State.settleEnd
  split
  next drive =>
    have monitor : settledMonitor (s.line l) = .idle := by simp only [settledMonitor, settling, drive, if_pos ends]
    rw [faultRecord_floats drive, monitor]
    exact withLine_monitorStep s l .idle
  next d drive =>
    split
    next agrees =>
      have monitor : settledMonitor (s.line l) = .watching := by
        simp only [settledMonitor, settling, drive, if_pos ends, if_pos agrees]
      rw [faultRecord_agrees drive agrees, monitor]
      exact withLine_monitorStep s l .watching
    next differs =>
      have monitor : settledMonitor (s.line l) = .faulted := by
        simp only [settledMonitor, settling, drive, if_pos ends, if_neg differs]
      rw [monitor]
      exact enterFault_monitorStep drive differs

/-- The records of the settle step of a sample. -/
def settleRecords (s : State) (l : Line) : List ((Port → Bool) × RecordBody) :=
  match (s.line l).monitor with
  | .settling n => if n ≤ 1 then faultRecord s l (s.line l).filtered else []
  | .idle => []
  | .watching => []
  | .faulted => []

theorem settleStep_monitorStep (s : State) (l : Line) :
    MonitorStep s (s.settleStep l) l (settledMonitor (s.line l)) (settleRecords s l) := by
  unfold State.settleStep settleRecords
  cases monitor : (s.line l).monitor with
  | settling n =>
    simp only
    split
    next ends => exact settleEnd_monitorStep monitor ends
    next goesOn =>
      have settled : settledMonitor (s.line l) = .settling (n - 1) := by
        unfold settledMonitor
        rw [monitor]
        cases driveLevel (s.line l).drive <;> exact if_neg goesOn
      rw [settled]
      exact withLine_monitorStep s l (.settling (n - 1))
  | idle | watching | faulted =>
    refine MonitorStep.refl ?_
    simp only [settledMonitor, monitor]

/-- The records of the monitor at an accepted edge. -/
def watchRecords (s : State) (l : Line) : List ((Port → Bool) × RecordBody) :=
  if (s.line l).monitor = .watching then faultRecord s l (s.line l).filtered else []

theorem monitorEdge_monitorStep (s : State) (l : Line) :
    MonitorStep s (s.monitorEdge l) l (edgeMonitor (s.line l)) (watchRecords s l) := by
  unfold State.monitorEdge watchRecords
  cases monitor : (s.line l).monitor with
  | idle | settling n =>
    refine MonitorStep.refl ?_
    simp only [edgeMonitor, monitor]
  | watching =>
    cases drive : driveLevel (s.line l).drive with
    | none =>
      have kept : edgeMonitor (s.line l) = .watching := by simp only [edgeMonitor, monitor, drive]
      rw [if_pos rfl, faultRecord_floats drive, kept]
      exact .refl monitor
    | some d =>
      simp only [if_pos]
      split
      next agrees =>
        have kept : edgeMonitor (s.line l) = .watching := by simp only [edgeMonitor, monitor, drive, if_pos agrees]
        rw [faultRecord_agrees drive agrees, kept]
        exact .refl monitor
      next differs =>
        have faulted : edgeMonitor (s.line l) = .faulted := by simp only [edgeMonitor, monitor, drive, if_neg differs]
        rw [faulted]
        exact enterFault_monitorStep drive differs
  | faulted =>
    have none_made : ¬(Monitor.faulted = .watching) := nofun
    rw [if_neg none_made]
    cases drive : driveLevel (s.line l).drive with
    | none => exact .refl (by simp only [edgeMonitor, monitor, drive])
    | some d =>
      simp only
      split
      next agrees =>
        have watching : edgeMonitor (s.line l) = .watching := by simp only [edgeMonitor, monitor, drive, if_pos agrees]
        rw [watching]
        exact withLine_monitorStep s l .watching
      next differs => exact .refl (by simp only [edgeMonitor, monitor, drive, if_neg differs])

theorem exec_monitorSettleEnd {n : Nat} (awake : s.inReset = none) (settling : (s.line l).monitor = .settling n)
    (ends : n ≤ 1) : exec (.monitorSettleEnd l) s = .next (s.settleEnd l) := by
  simp only [exec, execMonitorSettleEnd, awake_of_awake awake, settling, if_pos ends]

/-- Settles O30. -/
theorem monitorSettles : Obligations.MonitorSettles := by
  intro s l d n awake settling ends drive
  obtain ⟨cell, logged, engines⟩ := settleEnd_monitorStep settling ends
  have monitor : settledMonitor (s.line l) = if (s.line l).filtered = d then .watching else .faulted := by
    simp only [settledMonitor, settling, drive, if_pos ends]
  rw [monitor] at cell
  refine ⟨_, exec_monitorSettleEnd awake settling ends, cell.1, cell.2, fun agrees => ?_, fun differs => ?_, engines,
    logged.moved, logged.tables, logged.outside⟩
  · have journal := logged.journal
    rw [faultRecord_agrees drive agrees] at journal
    exact ⟨congrArg Prod.fst journal, congrArg Prod.snd journal⟩
  · have journal := logged.journal
    rw [faultRecord_eq drive differs, faultRecipients_get] at journal
    exact journal

end Monitor

end Sys2Proof.Proofs
end


section
/-! PROOFS. The cells of the lines through a sample (R77, R78, R89, R90). -/

namespace Sys2Proof.Proofs

open Sys2Proof.Machine Sys2Proof.Safety Sys2Proof.Laws

/-! ### One cell -/

/-- The run of samples that a change of a line must last (R78). -/
def changeRun (count : BitVec 4) : Nat := if count = 0 then 1 else count.toNat

theorem filterResult_eq (count : BitVec 4) (c : LineCell) (pin : Level) :
    filterResult count c pin =
      if pin = c.filtered then (c.filtered, 0)
      else if c.run + 1 = changeRun count then (pin, 0) else (c.filtered, c.run + 1) := rfl

/-- A cell with its change accepted. -/
def acceptedCell (c : LineCell) : LineCell := { c with filtered := c.raw, run := 0 }

/-- A cell after the filter, and the monitor's part in an accepted edge (R78, R90). -/
def filteredCell (count : BitVec 4) (c : LineCell) : LineCell :=
  if c.raw = c.filtered then { c with run := 0 }
  else if changeRun count = c.run + 1 then { acceptedCell c with monitor := edgeMonitor (acceptedCell c) }
  else { c with run := c.run + 1 }

/-- A cell after its part in a sample. -/
def sampledCell (count : BitVec 4) (c : LineCell) : LineCell :=
  { filteredCell count c with monitor := settledMonitor (filteredCell count c) }

theorem runLength_eq (s : State) (l : Line) : s.runLength l = changeRun s.profile.filterCount[l] := by
  unfold State.runLength changeRun
  generalize s.profile.filterCount[l] = count
  split
  next zero => rw [zero]; rfl
  next nonzero =>
    have positive : count.toNat ≠ 0 := fun zero => nonzero (BitVec.eq_of_toNat_eq zero)
    omega

/-- The monitor of a cell whose level did not change. -/
theorem settledMonitor_kept (c : LineCell) : settledMonitor c = monitorResult c c.filtered := by
  unfold settledMonitor monitorResult
  cases c.monitor <;> cases driveLevel c.drive <;> simp

/-- The monitor of a cell whose level changed. -/
theorem settledMonitor_accepted {c : LineCell} (changes : c.raw ≠ c.filtered) :
    settledMonitor { acceptedCell c with monitor := edgeMonitor (acceptedCell c) } = monitorResult c c.raw := by
  simp only [settledMonitor, monitorResult, edgeMonitor, acceptedCell]
  cases c.monitor with
  | idle => rfl
  | settling n => cases driveLevel c.drive <;> rfl
  | watching =>
    cases driveLevel c.drive with
    | none => rfl
    | some d =>
      by_cases same : c.raw = d
      · simp [same]
      · simp [same, changes]
  | faulted =>
    cases driveLevel c.drive with
    | none => rfl
    | some d =>
      by_cases same : c.raw = d
      · simp [← same, changes]
      · simp [same]

/-- The filter's part and the monitor's part of a sample, for the cell that has read its pin. -/
theorem sampledCell_eq (count : BitVec 4) (c : LineCell) (pin : Level) :
    sampledCell count { c with raw := pin } =
      { c with
        raw := pin
        filtered := (filterResult count c pin).1
        run := (filterResult count c pin).2
        monitor := monitorResult c (filterResult count c pin).1 } := by
  have monitor (level : Level) : monitorResult { c with raw := pin } level = monitorResult c level := rfl
  rw [← monitor]
  simp only [sampledCell, filteredCell, filterResult_eq]
  by_cases same : pin = c.filtered
  · simp only [if_pos same, settledMonitor_kept]
    rfl
  · by_cases lasts : c.run + 1 = changeRun count
    · simp only [if_neg same, if_pos lasts, if_pos lasts.symm]
      rw [settledMonitor_accepted (c := { c with raw := pin }) same]
      rfl
    · simp only [if_neg same, if_neg lasts, if_neg fun eq => lasts (Eq.symm eq), settledMonitor_kept]
      rfl

/-! ### One line -/

section Line

variable {s : State} {l : Line}

theorem edgesToEngines_lines (s : State) (l : Line) (level : Level) (es : List EngineNo) :
    (es.foldl (State.edgeToEngine l level) s).lines = s.lines := by
  induction es generalizing s with
  | nil => rfl
  | cons e es ih =>
    obtain ⟨⟨lines, -⟩, -⟩ := edgeToEngine_happening s l level e
    exact (ih _).trans lines

theorem edgeSteps_cell (s : State) (l : Line) (level : Level) :
    CellIs s (s.edgeSteps l level) l { s.line l with monitor := edgeMonitor (s.line l) } := by
  have recorded := append_cell s (s.edgeRecipients l level) s.timeCount (.lineEdge l level) l
  have watched := (monitorEdge_monitorStep (s.append (s.edgeRecipients l level) s.timeCount (.lineEdge l level)) l).cell
  rw [recorded.1] at watched
  have kept := cellIs_of_lines (edgesToEngines_lines
    ((s.append (s.edgeRecipients l level) s.timeCount (.lineEdge l level)).monitorEdge l) l level (List.finRange 4)) l
  rw [watched.1] at kept
  exact (recorded.trans watched).trans kept

theorem filterStep_cell (s : State) (l : Line) :
    CellIs s (s.filterStep l) l (filteredCell s.profile.filterCount[l] (s.line l)) := by
  unfold State.filterStep filteredCell
  simp only [runLength_eq]
  split
  next => exact withLine_cell s l _
  next =>
    split
    next =>
      have accepted := withLine_cell s l acceptedCell
      have edge := edgeSteps_cell (s.withLine l acceptedCell) l (s.line l).raw
      rw [accepted.1] at edge
      exact accepted.trans edge
    next => exact withLine_cell s l _

theorem sampleLine_cell (s : State) (l : Line) :
    CellIs s (s.sampleLine l) l (sampledCell s.profile.filterCount[l] (s.line l)) := by
  have filtered := filterStep_cell s l
  have settled := (settleStep_monitorStep (s.filterStep l) l).cell
  rw [filtered.1] at settled
  exact filtered.trans settled

theorem sampleLine_outside (s : State) (l : Line) : SameOutside s (s.sampleLine l) :=
  FieldRun.outside (sampleLine_fieldRun l (tickTimes_any s))

/-- Each line of a list is taken through the sample once. -/
theorem sampleAll_line {ls : List Line} (nodup : ls.Nodup) (k : Line) :
    (ls.foldl State.sampleLine s).line k =
      if k ∈ ls then sampledCell s.profile.filterCount[k] (s.line k) else s.line k := by
  induction ls generalizing s with
  | nil => rfl
  | cons l ls ih =>
    obtain ⟨fresh, nodup⟩ := List.nodup_cons.1 nodup
    obtain ⟨own, others⟩ := sampleLine_cell s l
    rw [List.foldl_cons, ih nodup, (sampleLine_outside s l).profile]
    by_cases here : k = l
    · subst here
      rw [if_neg fresh, own, if_pos List.mem_cons_self]
    · rw [others k here]
      simp [here]

end Line

/-- The state in which every line has read its pin. -/
def pinsRead (s : State) (levels : LineSet) : State := s.withLines fun l c => { c with raw := levelOf (levels.getLsbD l) }

theorem sample_eq (s : State) (levels : LineSet) :
    s.sample levels = (List.finRange 32).foldl State.sampleLine (pinsRead s levels) := rfl

theorem pinsRead_line (s : State) (levels : LineSet) (l : Line) :
    (pinsRead s levels).line l = { s.line l with raw := pinLevel levels l } := by
  rw [pinsRead, State.line_withLines]
  rfl

theorem exec_lineSample {s : State} (awake : s.inReset = none) (levels : LineSet) :
    exec (.lineSample levels) s = .next (s.sample levels) := by
  simp only [exec, execLineSample, awake_of_awake awake]

/-- Settles O28: each line goes through the sample once, and no step of it moves another's cell. -/
theorem linesSampled : Obligations.LinesSampled := by
  intro s levels awake
  have ran := sample_fieldRun levels (tickTimes_any s)
  refine ⟨_, exec_lineSample awake levels, fun l => ?_, FieldRun.config ran, FieldRun.moved ran, FieldRun.tables ran,
    (FieldRun.outside ran).1, (FieldRun.outside ran).2⟩
  have profile : (pinsRead s levels).profile = s.profile := (withLines_outside s _).profile
  rw [sample_eq, sampleAll_line (List.nodup_finRange 32), if_pos (List.mem_finRange l), pinsRead_line, profile,
    sampledCell_eq]

end Sys2Proof.Proofs
end


section
/-! PROOFS. What one engine does depends on the engine and the time count alone: a relation between states that its
operations preserve is preserved by every tick and edge at the engine. -/

namespace Sys2Proof.Proofs

open Sys2Proof.Machine Sys2Proof.Safety Sys2Proof.Laws

/-- A relation between states that agree on an engine and on the time count, and that the operations of the engine
preserve. -/
structure Follows (e : EngineNo) (R : State → State → Prop) : Prop where
  engine : ∀ {s t}, R s t → t.engine e = s.engine e
  time : ∀ {s t}, R s t → t.timeCount = s.timeCount
  withEngine : ∀ {s t} (f : Engine → Engine), R s t → R (s.withEngine e f) (t.withEngine e f)
  setState : ∀ {s t} (st : EngineState), R s t → R (s.setEngineState e st) (t.setEngineState e st)
  result : ∀ {s t} (mode : Mode) (outcome : EngineOutcome) (value aux : Nat) (time : Count), R s t →
    R (s.appendResult e mode outcome value aux time) (t.appendResult e mode outcome value aux time)

section Follows

variable {e : EngineNo} {R : State → State → Prop} {s t : State} (h : Follows e R) (r : R s t)

include h r

/-! ### Ticks -/

theorem Follows.finishRun (mode : Mode) (outcome : EngineOutcome) (value aux : Nat) (time : Count) :
    R (s.finishRun e mode outcome value aux time) (t.finishRun e mode outcome value aux time) :=
  h.result _ _ _ _ _ (h.setState .idle r)

theorem Follows.trainPulseEnd (c : EngineConfig) (time : Count) : R (s.trainPulseEnd e c time) (t.trainPulseEnd e c time) := by
  unfold State.trainPulseEnd
  simp only [h.engine r]
  split
  · exact h.finishRun r _ _ _ _ _
  · split
    · exact h.finishRun (h.withEngine _ r) _ _ _ _ _
    · exact h.setState _ (h.withEngine _ r)

theorem Follows.delayedPulseEnd (c : EngineConfig) (time : Count) :
    R (s.delayedPulseEnd e c time) (t.delayedPulseEnd e c time) := by
  unfold State.delayedPulseEnd
  simp only [h.engine r]
  split
  · exact h.finishRun r _ _ _ _ _
  · exact h.result _ _ _ _ _ (h.setState _ (h.withEngine _ r))

theorem Follows.windowEnd (c : EngineConfig) (time : Count) : R (s.windowEnd e c time) (t.windowEnd e c time) := by
  unfold State.windowEnd
  simp only [h.engine r]
  split
  · exact h.result _ _ _ _ _ (h.setState _ (h.withEngine _ r))
  · exact h.finishRun r _ _ _ _ _

theorem Follows.engineAct (time : Count) : R (s.engineAct e time) (t.engineAct e time) := by
  unfold State.engineAct
  rw [h.engine r]
  cases (s.engine e).config with
  | none => exact r
  | some c =>
    cases (s.engine e).state with
    | idle => exact r
    | gated ph n => exact r
    | armed limit => exact h.finishRun r _ _ _ _ _
    | measuring opened limit => exact h.finishRun r _ _ _ _ _
    | timed ph phaseEnd =>
      cases ph with
      | high => exact h.setState _ r
      | low => exact h.trainPulseEnd r c time
      | delay => exact h.setState _ r
      | pulse => exact h.delayedPulseEnd r c time
      | counting => exact h.windowEnd r c time

theorem Follows.takeTick : R (s.takeTick e) (t.takeTick e) := by
  unfold State.takeTick
  simp only [h.engine r]
  split
  · exact h.engineAct (h.withEngine _ r) _
  · exact h.withEngine _ r

theorem Follows.endDue : t.endDue e = s.endDue e := by
  unfold State.endDue
  rw [h.engine r, h.time r]

theorem Follows.takeTicks (fuel : Nat) : R (s.takeTicks e fuel) (t.takeTicks e fuel) := by
  induction fuel generalizing s t with
  | zero => exact r
  | succ fuel ih =>
    unfold State.takeTicks
    rw [h.endDue r]
    split
    · exact ih (h.takeTick r)
    · exact r

theorem Follows.catchUp : R (s.catchUp e) (t.catchUp e) := by
  unfold State.catchUp
  rw [h.engine r, h.time r]
  exact h.takeTicks r _

/-! ### Edges -/

theorem Follows.countEdge : R (s.countEdge e) (t.countEdge e) := h.withEngine _ r

theorem Follows.gateEdge (c : EngineConfig) (level : Level) : R (s.gateEdge e c level) (t.gateEdge e c level) := by
  unfold State.gateEdge
  rw [h.engine r, h.time r]
  cases (s.engine e).state with
  | timed ph phaseEnd =>
    dsimp only
    split
    · exact r
    · exact h.setState _ r
  | gated ph remainder =>
    dsimp only
    split
    · exact h.setState _ r
    · exact r
  | idle | armed limit | measuring opened limit => exact r

theorem Follows.triggerEdge (c : EngineConfig) : R (s.triggerEdge e c) (t.triggerEdge e c) := by
  unfold State.triggerEdge
  rw [h.engine r, h.time r]
  cases (s.engine e).state with
  | armed limit => exact h.setState _ (h.countEdge r)
  | timed ph phaseEnd => exact h.withEngine _ r
  | idle | measuring opened limit | gated ph n => exact r

theorem Follows.closeMeasurement (c : EngineConfig) (opened : Count) (after : EngineState) :
    R (s.closeMeasurement e c opened after) (t.closeMeasurement e c opened after) := by
  unfold State.closeMeasurement
  rw [h.time r]
  exact h.result _ _ _ _ _ (h.setState after (h.countEdge r))

theorem Follows.widthEdge (c : EngineConfig) (level : Level) : R (s.widthEdge e c level) (t.widthEdge e c level) := by
  unfold State.widthEdge
  rw [h.engine r, h.time r]
  cases (s.engine e).state with
  | armed limit =>
    cases limit with
    | none => exact r
    | some limit =>
      dsimp only
      split
      · exact h.setState _ (h.countEdge r)
      · exact r
  | measuring opened limit => exact h.closeMeasurement r c opened _
  | idle | timed ph phaseEnd | gated ph n => exact r

theorem Follows.periodEdge (c : EngineConfig) : R (s.periodEdge e c) (t.periodEdge e c) := by
  unfold State.periodEdge
  rw [h.engine r, h.time r]
  cases (s.engine e).state with
  | armed limit =>
    cases limit with
    | none => exact r
    | some limit => exact h.setState _ (h.countEdge r)
  | measuring opened limit => exact h.closeMeasurement r c opened _
  | idle | timed ph phaseEnd | gated ph n => exact r

theorem Follows.counterEdge : R (s.counterEdge e) (t.counterEdge e) := by
  unfold State.counterEdge
  rw [h.engine r]
  cases (s.engine e).state with
  | timed ph phaseEnd => exact h.countEdge r
  | idle | armed limit | measuring opened limit | gated ph n => exact r

theorem Follows.edgeAtEngine (l : Line) (level : Level) : R (s.edgeAtEngine l level e) (t.edgeAtEngine l level e) := by
  unfold State.edgeAtEngine
  rw [h.engine r]
  cases (s.engine e).config with
  | none => exact r
  | some c =>
    dsimp only
    cases c.mode <;> dsimp only <;> split
    next => exact h.gateEdge r c level
    next => exact r
    next => exact h.triggerEdge r c
    next => exact r
    next => exact h.widthEdge r c level
    next => exact r
    next => exact h.periodEdge r c
    next => exact r
    next => exact h.counterEdge r
    next => exact r

theorem Follows.edgeToEngine (l : Line) (level : Level) :
    R (State.edgeToEngine l level s e) (State.edgeToEngine l level t e) := by
  unfold State.edgeToEngine
  rw [h.engine r]
  split
  · exact h.edgeAtEngine (h.catchUp r) l level
  · exact r

end Follows

/-! ### States that agree at an engine -/

/-- The states agree on an engine and on what decides its pin and its ticks. -/
structure AgreeAt (e : EngineNo) (s t : State) : Prop where
  engine : t.engine e = s.engine e
  time : t.timeCount = s.timeCount
  force : t.force = s.force
  leases : t.leases = s.leases

section AgreeAt

variable {e : EngineNo} {s t : State}

theorem AgreeAt.engineDrive (h : AgreeAt e s t) : t.engineDrive e = s.engineDrive e := by
  have entry : t.entry (engineResource e) = s.entry (engineResource e) := by rw [State.entry, h.leases, State.entry]
  simp only [State.engineDrive, entry, h.engine, h.force]

theorem AgreeAt.withEngine (h : AgreeAt e s t) (f : Engine → Engine) : AgreeAt e (s.withEngine e f) (t.withEngine e f) where
  engine := by rw [State.engine_withEngine, State.engine_withEngine, if_pos rfl, if_pos rfl, h.engine]
  time := by simpa using h.time
  force := by simpa using h.force
  leases := by simpa using h.leases

theorem AgreeAt.setState (h : AgreeAt e s t) (st : EngineState) : AgreeAt e (s.setEngineState e st) (t.setEngineState e st) where
  engine := by rw [setEngineState_engine, setEngineState_engine, h.engine, (h.withEngine _).engineDrive]
  time := by simpa using h.time
  force := by simpa using h.force
  leases := by simpa using h.leases

theorem append_agreeAt (e : EngineNo) (s : State) (ps : PortSet) (time : Count) (body : RecordBody) :
    AgreeAt e s (s.append ps time body) where
  engine := append_engine s ps time body e
  time := (append_outside s ps time body).timeCount
  force := (append_outside s ps time body).force
  leases := (append_tables s ps time body).1

theorem AgreeAt.symm (h : AgreeAt e s t) : AgreeAt e t s := ⟨h.engine.symm, h.time.symm, h.force.symm, h.leases.symm⟩

theorem AgreeAt.trans {u : State} (h : AgreeAt e s t) (k : AgreeAt e t u) : AgreeAt e s u :=
  ⟨k.engine.trans h.engine, k.time.trans h.time, k.force.trans h.force, k.leases.trans h.leases⟩

theorem agreeAt_follows (e : EngineNo) : Follows e (AgreeAt e) where
  engine h := h.engine
  time h := h.time
  withEngine f h := h.withEngine f
  setState st h := h.setState st
  result _ _ _ _ _ h := (append_agreeAt e _ _ _ _).symm.trans (h.trans (append_agreeAt e _ _ _ _))

/-- What is done to another engine leaves the states agreeing at this one. -/
theorem EngineHappening.agreeAt {k : EngineNo} (h : EngineHappening s t k) (other : e ≠ k) : AgreeAt e s t := by
  obtain ⟨⟨-, others⟩, -, ⟨leases, -⟩, outside⟩ := h
  exact ⟨others e other, SameOutside.timeCount outside, SameOutside.force outside, leases⟩

end AgreeAt

end Sys2Proof.Proofs
end


section
/-! PROOFS. The edges that a sample hands on, and the records it makes of a line (R79, R91). -/

namespace Sys2Proof.Proofs

open Sys2Proof.Machine Sys2Proof.Safety Sys2Proof.Laws

/-! ### The result of an edge at an engine -/

section Result

variable {s t : State} {e : EngineNo} {l : Line} {level : Level} {c : EngineConfig}

theorem namesLine_iff (g : Engine) (l : Line) : namesLine g l = true ↔ EdgeReaches g l := by
  unfold namesLine EdgeReaches
  cases g.config <;> simp

/-- The edge closes a measurement of the configuration. -/
def Closes (c : EngineConfig) (l : Line) (level : Level) : Prop :=
  c.input = some l ∧ (c.mode = .measureWidth ∨ c.mode = .measurePeriod ∧ isActive c level = true)

theorem isActive_eq (c : EngineConfig) (level : Level) :
    isActive c level = true ↔ c.edge = if level = .high then .rising else .falling := by
  rw [isActive, decide_eq_true_iff]
  cases c.edge <;> cases level <;> decide

theorem edgeResult_eq_some {opening : Count} (config : (s.engine e).config = some c)
    (opened : openingOf (s.engine e).state = some opening) (closes : Closes c l level) :
    edgeResult s l level e = some (holderIs s e, .engineResult e c.mode .done (s.timeCount - opening).toNat 0) := by
  rw [Closes, isActive_eq] at closes
  simp only [edgeResult, config, opened]
  exact if_pos closes

theorem edgeResult_eq_none_of_closed (closed : openingOf (s.engine e).state = none) : edgeResult s l level e = none := by
  unfold edgeResult
  rw [closed]
  cases (s.engine e).config <;> rfl

theorem edgeResult_eq_none (config : (s.engine e).config = some c) (passes : ¬Closes c l level) :
    edgeResult s l level e = none := by
  rw [Closes, isActive_eq] at passes
  unfold edgeResult
  rw [config]
  cases openingOf (s.engine e).state with
  | none => rfl
  | some opening => exact if_neg passes

theorem edgeResult_of_unreached (unreached : ¬EdgeReaches (s.engine e) l) : edgeResult s l level e = none := by
  cases config : (s.engine e).config with
  | none => simp only [edgeResult, config]
  | some c => exact edgeResult_eq_none config fun ⟨input, _⟩ => unreached ⟨c, config, .inl input⟩

theorem holderIs_of_leases (leases : t.leases = s.leases) : holderIs t e = holderIs s e := by
  funext q
  rw [holderIs, State.holds, State.holderOf, State.entry, leases, holderIs, State.holds, State.holderOf, State.entry]

theorem AgreeAt.edgeResult (h : AgreeAt e s t) : edgeResult t l level e = edgeResult s l level e := by
  unfold Safety.edgeResult
  rw [h.engine, h.time, holderIs_of_leases h.leases]

theorem AgreeAt.noEndDue (h : AgreeAt e s t) (calm : NoEndDue s e) : NoEndDue t e := by
  rwa [NoEndDue, (agreeAt_follows e).endDue h]

theorem Quietly.logged (h : Quietly s t e) : Logged s t [] := by
  obtain ⟨⟨-, moved, tables, outside⟩, journal, nextSeq⟩ := h
  exact ⟨Prod.ext journal nextSeq, moved, tables, outside⟩

theorem gateEdge_quietly (s : State) (e : EngineNo) (c : EngineConfig) (level : Level) : Quietly s (s.gateEdge e c level) e := by
  unfold State.gateEdge
  split
  · split
    · exact .refl s e
    · exact setEngineState_quietly s e _
  · split
    · exact setEngineState_quietly s e _
    · exact .refl s e
  all_goals exact .refl s e

theorem triggerEdge_quietly (s : State) (e : EngineNo) (c : EngineConfig) : Quietly s (s.triggerEdge e c) e := by
  unfold State.triggerEdge
  split
  · exact Quietly.trans (countEdge_quietly s e) (setEngineState_quietly _ e _)
  · exact withEngine_quietly s e _
  all_goals exact .refl s e

theorem counterEdge_quietly (s : State) (e : EngineNo) : Quietly s (s.counterEdge e) e := by
  unfold State.counterEdge
  split
  · exact countEdge_quietly s e
  all_goals exact .refl s e

theorem closeMeasurement_logged (s : State) (e : EngineNo) (c : EngineConfig) (opening : Count) (after : EngineState) :
    Logged s (s.closeMeasurement e c opening after)
      [(holderIs s e, .engineResult e c.mode .done (s.timeCount - opening).toNat 0)] := by
  obtain ⟨-, moved, tables, outside⟩ := closeMeasurement_happening (s := s) (e := e) c opening after
  exact ⟨(countEdge_closes s e c opening after).2, moved, tables, outside⟩

theorem widthEdge_logged (config : (s.engine e).config = some c) (mode : c.mode = .measureWidth) (input : c.input = some l) :
    Logged s (s.widthEdge e c level) (edgeResult s l level e).toList := by
  have quiet (closed : openingOf (s.engine e).state = none) (h : Quietly s (s.widthEdge e c level) e) :
      Logged s (s.widthEdge e c level) (edgeResult s l level e).toList := by
    rw [edgeResult_eq_none_of_closed closed]
    exact Quietly.logged h
  cases state : (s.engine e).state with
  | measuring opening limit =>
    rw [edgeResult_eq_some config (by rw [state]; rfl) ⟨input, .inl mode⟩]
    simp only [State.widthEdge, state]
    exact closeMeasurement_logged s e c opening _
  | armed limit =>
    refine quiet (by rw [state]; rfl) ?_
    cases limit with
    | none =>
      simp only [State.widthEdge, state]
      exact .refl s e
    | some limit =>
      simp only [State.widthEdge, state]
      split
      · exact Quietly.trans (countEdge_quietly s e) (setEngineState_quietly _ e _)
      · exact .refl s e
  | idle | timed ph phaseEnd | gated ph n =>
    refine quiet (by rw [state]; rfl) ?_
    simp only [State.widthEdge, state]
    exact .refl s e

theorem periodEdge_logged (config : (s.engine e).config = some c) (mode : c.mode = .measurePeriod) (input : c.input = some l)
    (active : isActive c level = true) : Logged s (s.periodEdge e c) (edgeResult s l level e).toList := by
  have quiet (closed : openingOf (s.engine e).state = none) (h : Quietly s (s.periodEdge e c) e) :
      Logged s (s.periodEdge e c) (edgeResult s l level e).toList := by
    rw [edgeResult_eq_none_of_closed closed]
    exact Quietly.logged h
  cases state : (s.engine e).state with
  | measuring opening limit =>
    rw [edgeResult_eq_some config (by rw [state]; rfl) ⟨input, .inr ⟨mode, active⟩⟩]
    simp only [State.periodEdge, state]
    exact closeMeasurement_logged s e c opening _
  | armed limit =>
    refine quiet (by rw [state]; rfl) ?_
    cases limit with
    | none =>
      simp only [State.periodEdge, state]
      exact .refl s e
    | some limit =>
      simp only [State.periodEdge, state]
      exact Quietly.trans (countEdge_quietly s e) (setEngineState_quietly _ e _)
  | idle | timed ph phaseEnd | gated ph n =>
    refine quiet (by rw [state]; rfl) ?_
    simp only [State.periodEdge, state]
    exact .refl s e

/-- An engine makes a result of an edge that closes its measurement, and no other record. -/
theorem edgeAtEngine_logged (s : State) (l : Line) (level : Level) (e : EngineNo) :
    Logged s (s.edgeAtEngine l level e) (edgeResult s l level e).toList := by
  unfold State.edgeAtEngine
  cases config : (s.engine e).config with
  | none =>
    rw [edgeResult_of_unreached (by rintro ⟨c, named, -⟩; rw [config] at named; cases named)]
    exact .refl s
  | some c =>
    have quiet {u : State} (passes : ¬Closes c l level) (h : Quietly s u e) : Logged s u (edgeResult s l level e).toList := by
      rw [edgeResult_eq_none config passes]
      exact Quietly.logged h
    have otherMode (width : c.mode ≠ .measureWidth) (period : c.mode ≠ .measurePeriod) : ¬Closes c l level :=
      fun ⟨_, mode⟩ => mode.elim width fun both => period both.1
    dsimp only
    cases mode : c.mode with
    | pulseTrain =>
      refine quiet (otherMode (by rw [mode]; decide) (by rw [mode]; decide)) ?_
      dsimp only
      split
      · exact gateEdge_quietly s e c level
      · exact .refl s e
    | delayedPulse =>
      refine quiet (otherMode (by rw [mode]; decide) (by rw [mode]; decide)) ?_
      dsimp only
      split
      · exact triggerEdge_quietly s e c
      · exact .refl s e
    | countEdges =>
      refine quiet (otherMode (by rw [mode]; decide) (by rw [mode]; decide)) ?_
      dsimp only
      split
      · exact counterEdge_quietly s e
      · exact .refl s e
    | measureWidth =>
      dsimp only
      split
      next input => exact widthEdge_logged config mode input
      next passes => exact quiet (fun closes => passes closes.1) (.refl s e)
    | measurePeriod =>
      dsimp only
      split
      next input => exact periodEdge_logged config mode input.1 input.2
      next passes =>
        refine quiet (fun ⟨input, closes⟩ => ?_) (.refl s e)
        rcases closes with width | period
        · rw [mode] at width
          cases width
        · exact passes ⟨input, period.2⟩

theorem edgeToEngine_logged (calm : EdgeReaches (s.engine e) l → NoEndDue s e) :
    Logged s (State.edgeToEngine l level s e) (edgeResult s l level e).toList := by
  by_cases reaches : EdgeReaches (s.engine e) l
  · rw [State.edgeToEngine, if_pos ((namesLine_iff _ _).2 reaches), catchUp_of_not_due (calm reaches)]
    exact edgeAtEngine_logged s l level e
  · rw [State.edgeToEngine, if_neg fun names => reaches ((namesLine_iff _ _).1 names), edgeResult_of_unreached reaches]
    exact .refl s

/-- The engines take the edge in their order, each as it was before the edge. -/
theorem edgesToEngines_logged {es : List EngineNo} (nodup : es.Nodup)
    (calm : ∀ e ∈ es, EdgeReaches (s.engine e) l → NoEndDue s e) :
    Logged s (es.foldl (State.edgeToEngine l level) s) (es.filterMap (edgeResult s l level)) := by
  induction es generalizing s with
  | nil => exact .refl s
  | cons e es ih =>
    obtain ⟨fresh, nodup⟩ := List.nodup_cons.1 nodup
    have agrees (k : EngineNo) (hk : k ∈ es) : AgreeAt k s (State.edgeToEngine l level s e) :=
      EngineHappening.agreeAt (edgeToEngine_happening s l level e) fun own => fresh (own ▸ hk)
    have rest := ih (s := State.edgeToEngine l level s e) nodup fun k hk reaches => by
      rw [(agrees k hk).engine] at reaches
      exact (agrees k hk).noEndDue (calm k (List.mem_cons_of_mem e hk) reaches)
    rw [List.filterMap_congr fun k hk => (agrees k hk).edgeResult] at rest
    have split : (e :: es).filterMap (edgeResult s l level) =
        (edgeResult s l level e).toList ++ es.filterMap (edgeResult s l level) := by
      cases made : edgeResult s l level e <;> simp [made]
    rw [split]
    exact (edgeToEngine_logged (calm e List.mem_cons_self)).trans rest

end Result

end Sys2Proof.Proofs
end


section
/-! PROOFS. The lines of a sample in their order: their records, and the engines they reach (R77, R79). -/

namespace Sys2Proof.Proofs

open Sys2Proof.Machine Sys2Proof.Safety Sys2Proof.Laws

/-- The change of a cell is accepted in this sample (R78). -/
def Accepts (count : BitVec 4) (c : LineCell) : Prop := c.raw ≠ c.filtered ∧ changeRun count = c.run + 1

/-- The records of an accepted edge, the line being at its new level (R79). -/
def acceptedRecords (s : State) (l : Line) (level : Level) : List ((Port → Bool) × RecordBody) :=
  edgeRecord s l level :: (if (s.line l).monitor = .watching then faultRecord s l level else [])
    ++ (List.finRange 4).filterMap (edgeResult s l level)

section Records

variable {s t : State} {l : Line} {levels : LineSet} {level : Level}

/-! ### What the records of a line read -/

theorem edgeRecipients_get (s : State) (l : Line) (level : Level) :
    (s.edgeRecipients l level).get = (edgeRecord s l level).1 := by
  funext p
  rw [State.edgeRecipients, PerPort.get_of]
  simp only [edgeRecord]
  cases s.openFields p with
  | none => rfl
  | some o => cases level <;> rfl

/-- Subscriptions are kept by what moves journal fields alone. -/
theorem edgeRecord_congr (moved : OnlyJournalMoved s t) : edgeRecord t l level = edgeRecord s l level := by
  have subscribed (p : Port) (line : OpenSession → Bool)
      (reads : ∀ o, line { o with ackPoint := 0, mark := none } = line o) :
      (match t.openFields p with
        | none => false
        | some o => line o) = match s.openFields p with
        | none => false
        | some o => line o := by
    have state := congrArg Session.state (moved p)
    simp only [sessionFrame] at state
    unfold State.openFields
    cases told : (t.session p).state <;> cases before : (s.session p).state <;> rw [told, before] at state <;>
      simp only [reduceCtorEq, SessionState.opened.injEq] at state ⊢
    rw [← reads, state, reads]
  refine Prod.ext (funext fun p => ?_) rfl
  exact subscribed p (fun o => if level = .high then o.rise.getLsbD l else o.fall.getLsbD l) fun _ => rfl

theorem faultRecord_congr (drive : (t.line l).drive = (s.line l).drive) (leases : t.leases = s.leases) (sensed : Level) :
    faultRecord t l sensed = faultRecord s l sensed := by
  have entry : t.entry (lineResource l) = s.entry (lineResource l) := by rw [State.entry, leases, State.entry]
  have holds (p : Port) : t.holds p (lineResource l) = s.holds p (lineResource l) := by
    rw [State.holds, State.holderOf, entry, State.holds, State.holderOf]
  simp only [faultRecord, drive, holds, entry]

/-! ### One line -/

theorem withLine_agreeAt (e : EngineNo) (s : State) (l : Line) (f : LineCell → LineCell) : AgreeAt e s (s.withLine l f) where
  engine := by simp
  time := by simp
  force := by simp
  leases := by simp

theorem MonitorStep.agreeAt {m : Monitor} {records : List ((Port → Bool) × RecordBody)} (h : MonitorStep s t l m records)
    (e : EngineNo) : AgreeAt e s t where
  engine := by rw [State.engine, h.engines, State.engine]
  time := h.logged.outside.timeCount
  force := h.logged.outside.force
  leases := h.logged.tables.1

/-- The state in which the edge reaches the engines. -/
def edgeWatched (s : State) (l : Line) (level : Level) : State :=
  (s.append (s.edgeRecipients l level) s.timeCount (.lineEdge l level)).monitorEdge l

theorem edgeSteps_eq (s : State) (l : Line) (level : Level) :
    s.edgeSteps l level = (List.finRange 4).foldl (State.edgeToEngine l level) (edgeWatched s l level) := rfl

theorem edgeWatched_agreeAt (s : State) (l : Line) (level : Level) (e : EngineNo) : AgreeAt e s (edgeWatched s l level) :=
  (append_agreeAt e _ _ _ _).trans ((monitorEdge_monitorStep _ l).agreeAt e)

theorem edgeSteps_logged (at_ : (s.line l).filtered = level)
    (calm : ∀ e, EdgeReaches (s.engine e) l → NoEndDue s e) : Logged s (s.edgeSteps l level) (acceptedRecords s l level) := by
  have recorded := append_logged s (s.edgeRecipients l level) (.lineEdge l level)
  have cell := append_cell s (s.edgeRecipients l level) s.timeCount (.lineEdge l level) l
  have watched := (monitorEdge_monitorStep (s.append (s.edgeRecipients l level) s.timeCount (.lineEdge l level)) l).logged
  have fault := faultRecord_congr (congrArg LineCell.drive cell.1) recorded.tables.1
  rw [watchRecords, fault, cell.1, at_] at watched
  have agrees := edgeWatched_agreeAt s l level
  have engines := edgesToEngines_logged (s := edgeWatched s l level) (l := l) (level := level) (List.nodup_finRange 4)
    fun e _ reaches => by
      rw [(agrees e).engine] at reaches
      exact (agrees e).noEndDue (calm e reaches)
  rw [List.filterMap_congr fun e _ => (agrees e).edgeResult] at engines
  rw [edgeRecipients_get] at recorded
  exact (recorded.trans watched).trans engines

/-- The level that a sample gives a line that has read its pin. -/
theorem sampledLevel_eq (pin : (s.line l).raw = pinLevel levels l) :
    sampledLevel s levels l = (filteredCell s.profile.filterCount[l] (s.line l)).filtered := by
  rw [sampledLevel, filterResult_eq, filteredCell, ← pin]
  split
  next => rfl
  next =>
    simp only [eq_comm (a := (s.line l).run + 1)]
    split <;> rfl

theorem sampledLevel_of_accepts (pin : (s.line l).raw = pinLevel levels l)
    (accepts : Accepts s.profile.filterCount[l] (s.line l)) : sampledLevel s levels l = (s.line l).raw := by
  rw [sampledLevel_eq pin, filteredCell, if_neg accepts.1, if_pos accepts.2]
  rfl

theorem sampledLevel_of_not_accepts (pin : (s.line l).raw = pinLevel levels l)
    (rejects : ¬Accepts s.profile.filterCount[l] (s.line l)) : sampledLevel s levels l = (s.line l).filtered := by
  rw [sampledLevel_eq pin, filteredCell]
  split
  next => rfl
  next changes =>
    split
    next lasts => exact absurd ⟨changes, lasts⟩ rejects
    next => rfl

theorem accepts_iff (pin : (s.line l).raw = pinLevel levels l) :
    Accepts s.profile.filterCount[l] (s.line l) ↔ EdgeAccepted s levels l := by
  constructor
  · intro accepts
    rw [EdgeAccepted, sampledLevel_of_accepts pin accepts]
    exact accepts.1
  · intro edge
    by_contra rejects
    exact edge (sampledLevel_of_not_accepts pin rejects)

/-- The records of a line whose change is accepted. -/
theorem accepted_logged (calm : ∀ e, EdgeReaches (s.engine e) l → NoEndDue s e) :
    Logged s ((s.withLine l fun c => { c with filtered := c.raw, run := 0 }).edgeSteps l (s.line l).raw)
      (acceptedRecords s l (s.line l).raw) := by
  have cell : CellIs s (s.withLine l acceptedCell) l (acceptedCell (s.line l)) := withLine_cell s l acceptedCell
  have accepted := withLine_logged s l acceptedCell
  have agrees (e : EngineNo) : AgreeAt e s (s.withLine l acceptedCell) := withLine_agreeAt e s l acceptedCell
  have edge := edgeSteps_logged (s := s.withLine l acceptedCell) (l := l) (level := (s.line l).raw)
    (by rw [cell.1]; rfl) fun e reaches => by
      rw [(agrees e).engine] at reaches
      exact (agrees e).noEndDue (calm e reaches)
  have drive : ((s.withLine l acceptedCell).line l).drive = (s.line l).drive := by rw [cell.1]; rfl
  have monitor : ((s.withLine l acceptedCell).line l).monitor = (s.line l).monitor := by rw [cell.1]; rfl
  rw [acceptedRecords, edgeRecord_congr accepted.moved, faultRecord_congr drive accepted.tables.1, monitor,
    List.filterMap_congr fun e _ => (agrees e).edgeResult] at edge
  exact accepted.trans edge

/-- The records of the filter step. -/
theorem filterStep_logged (pin : (s.line l).raw = pinLevel levels l)
    (calm : EdgeAccepted s levels l → ∀ e, EdgeReaches (s.engine e) l → NoEndDue s e) :
    Logged s (s.filterStep l)
      (if sampledLevel s levels l = (s.line l).filtered then [] else acceptedRecords s l (sampledLevel s levels l)) := by
  have kept (rejects : ¬Accepts s.profile.filterCount[l] (s.line l)) {f : LineCell → LineCell} :
      Logged s (s.withLine l f)
        (if sampledLevel s levels l = (s.line l).filtered then [] else acceptedRecords s l (sampledLevel s levels l)) := by
    rw [if_pos (sampledLevel_of_not_accepts pin rejects)]
    exact withLine_logged s l f
  unfold State.filterStep
  simp only [runLength_eq]
  split
  next same => exact kept fun accepts => accepts.1 same
  next changes =>
    split
    next lasts =>
      have accepts : Accepts s.profile.filterCount[l] (s.line l) := ⟨changes, lasts⟩
      rw [if_neg ((accepts_iff pin).1 accepts), sampledLevel_of_accepts pin accepts]
      exact accepted_logged fun e => calm ((accepts_iff pin).1 accepts) e
    next early => exact kept fun accepts => early accepts.2

/-- The filter's part moves no drive, and of the monitor what an edge moves: WATCHING and FAULTED. -/
theorem filteredCell_kept (count : BitVec 4) (c : LineCell) :
    (filteredCell count c).drive = c.drive ∧
      ((filteredCell count c).monitor = c.monitor ∨
        (c.monitor = .watching ∨ c.monitor = .faulted) ∧
          ((filteredCell count c).monitor = .watching ∨ (filteredCell count c).monitor = .faulted)) := by
  have edge : edgeMonitor (acceptedCell c) = c.monitor ∨ (c.monitor = .watching ∨ c.monitor = .faulted) ∧
      (edgeMonitor (acceptedCell c) = .watching ∨ edgeMonitor (acceptedCell c) = .faulted) := by
    simp only [edgeMonitor, acceptedCell]
    cases c.monitor with
    | idle | settling n => exact .inl rfl
    | watching | faulted =>
      cases driveLevel c.drive with
      | none => exact .inl rfl
      | some d =>
        refine .inr ⟨by simp, ?_⟩
        by_cases same : c.raw = d
        · exact .inl (if_pos same)
        · exact .inr (if_neg same)
  unfold filteredCell
  split
  · exact ⟨rfl, .inl rfl⟩
  · split
    · exact ⟨rfl, edge⟩
    · exact ⟨rfl, .inl rfl⟩

/-- The records of the settle step after the filter's part. -/
theorem settleRecords_of_filtered (count : BitVec 4) (read : t.line l = filteredCell count (s.line l))
    (leases : t.leases = s.leases) :
    settleRecords t l =
      match (s.line l).monitor with
      | .settling n => if n ≤ 1 then faultRecord s l (filteredCell count (s.line l)).filtered else []
      | .idle => []
      | .watching => []
      | .faulted => [] := by
  obtain ⟨drive, monitor⟩ := filteredCell_kept count (s.line l)
  unfold settleRecords
  simp only [faultRecord_congr ((congrArg LineCell.drive read).trans drive) leases]
  rw [read]
  rcases monitor with same | ⟨watched, watches⟩
  · rw [same] <;> cases (s.line l).monitor <;> rfl
  · rcases watched with before | before <;> rcases watches with after | after <;> rw [before, after]

/-- The records of a line's part in a sample. -/
theorem sampleLine_logged (pin : (s.line l).raw = pinLevel levels l)
    (calm : EdgeAccepted s levels l → ∀ e, EdgeReaches (s.engine e) l → NoEndDue s e) :
    Logged s (s.sampleLine l) (sampleRecords s levels l) := by
  have filtered := filterStep_logged pin calm
  have settled := (settleStep_monitorStep (s.filterStep l) l).logged
  rw [settleRecords_of_filtered _ (filterStep_cell s l).1 filtered.tables.1, ← sampledLevel_eq pin] at settled
  exact filtered.trans settled

end Records

end Sys2Proof.Proofs
end


section
/-! PROOFS. A whole sample: every engine takes the edge that reaches it, and the records of the lines follow one another
(R77, R79). -/

namespace Sys2Proof.Proofs

open Sys2Proof.Machine Sys2Proof.Safety Sys2Proof.Laws

/-! ### One engine through one line's part -/

section Line

variable {s : State} {l : Line} {level : Level} {e : EngineNo}

/-- Engines that are not of the list are left alone. -/
theorem edgesToEngines_others {es : List EngineNo} (other : e ∉ es) :
    AgreeAt e s (es.foldl (State.edgeToEngine l level) s) := by
  induction es generalizing s with
  | nil => exact ⟨rfl, rfl, rfl, rfl⟩
  | cons k es ih =>
    have first := EngineHappening.agreeAt (edgeToEngine_happening s l level k) fun own => other (own ▸ List.mem_cons_self)
    exact first.trans (ih fun later => other (List.mem_cons_of_mem k later))

/-- An engine of the list takes the edge as it was before the edge. -/
theorem edgesToEngines_agreeAt {es : List EngineNo} (nodup : es.Nodup) (mem : e ∈ es) :
    AgreeAt e (State.edgeToEngine l level s e) (es.foldl (State.edgeToEngine l level) s) := by
  induction es generalizing s with
  | nil => cases mem
  | cons k es ih =>
    obtain ⟨fresh, nodup⟩ := List.nodup_cons.1 nodup
    by_cases own : e = k
    · subst own
      exact edgesToEngines_others fresh
    · have first := EngineHappening.agreeAt (edgeToEngine_happening s l level k) own
      exact ((agreeAt_follows e).edgeToEngine first l level).trans (ih nodup ((List.mem_cons.1 mem).resolve_left own))

theorem settleStep_agreeAt (s : State) (l : Line) (e : EngineNo) : AgreeAt e s (s.settleStep l) :=
  (settleStep_monitorStep s l).agreeAt e

/-- An accepted change hands its edge to the engine. -/
theorem sampleLine_agreeAt_accepted (accepts : Accepts s.profile.filterCount[l] (s.line l)) (e : EngineNo) :
    AgreeAt e (State.edgeToEngine l (s.line l).raw s e) (s.sampleLine l) := by
  have step : s.filterStep l = (s.withLine l acceptedCell).edgeSteps l (s.line l).raw := by
    unfold State.filterStep
    simp only [runLength_eq, if_neg accepts.1, if_pos accepts.2]
    rfl
  have reached := (withLine_agreeAt e s l acceptedCell).trans
    (edgeWatched_agreeAt (s.withLine l acceptedCell) l (s.line l).raw e)
  have taken := (agreeAt_follows e).edgeToEngine reached l (s.line l).raw
  rw [State.sampleLine, step, edgeSteps_eq]
  exact (taken.trans (edgesToEngines_agreeAt (List.nodup_finRange 4) (List.mem_finRange e))).trans (settleStep_agreeAt _ l e)

/-- Without an accepted change no engine moves. -/
theorem sampleLine_agreeAt_rejected (rejects : ¬Accepts s.profile.filterCount[l] (s.line l)) (e : EngineNo) :
    AgreeAt e s (s.sampleLine l) := by
  have step : AgreeAt e s (s.filterStep l) := by
    unfold State.filterStep
    simp only [runLength_eq]
    split
    next => exact withLine_agreeAt e s l _
    next changes =>
      split
      next lasts => exact absurd ⟨changes, lasts⟩ rejects
      next => exact withLine_agreeAt e s l _
  exact step.trans (settleStep_agreeAt _ l e)

theorem edgeToEngine_unreached (unreached : ¬EdgeReaches (s.engine e) l) : State.edgeToEngine l level s e = s :=
  if_neg fun names => unreached ((namesLine_iff _ _).1 names)

theorem sampleLine_agreeAt_unreached
    (unreached : Accepts s.profile.filterCount[l] (s.line l) → ¬EdgeReaches (s.engine e) l) :
    AgreeAt e s (s.sampleLine l) := by
  by_cases accepts : Accepts s.profile.filterCount[l] (s.line l)
  · have taken := sampleLine_agreeAt_accepted accepts e
    rwa [edgeToEngine_unreached (unreached accepts)] at taken
  · exact sampleLine_agreeAt_rejected accepts e

theorem sampleLine_config (s : State) (l : Line) (e : EngineNo) : ((s.sampleLine l).engine e).config = (s.engine e).config :=
  FieldRun.config (sampleLine_fieldRun l (tickTimes_any s)) e

/-- Which lines reach an engine is a matter of its configuration. -/
theorem edgeReaches_congr {g g' : Engine} (config : g'.config = g.config) (l : Line) : EdgeReaches g' l ↔ EdgeReaches g l := by
  rw [EdgeReaches, config, EdgeReaches]

end Line

/-! ### The lines in their order -/

/-- The lines still to be taken have read their pins, and wait in the state `x` as they were in `s`. -/
structure LinesWait (s x : State) (ls : List Line) : Prop where
  cells : ∀ k ∈ ls, x.line k = s.line k
  profile : x.profile = s.profile

section Lines

variable {s : State} {levels : LineSet} {e : EngineNo} {ls : List Line}

theorem linesWait_sampleLine {l : Line} (fresh : l ∉ ls) : LinesWait s (s.sampleLine l) ls :=
  ⟨fun k hk => (sampleLine_cell s l).2 k fun own => fresh (own ▸ hk), (sampleLine_outside s l).profile⟩

theorem LinesWait.accepts {x : State} (h : LinesWait s x ls) {k : Line} (hk : k ∈ ls) :
    Accepts x.profile.filterCount[k] (x.line k) ↔ Accepts s.profile.filterCount[k] (s.line k) := by
  rw [h.cells k hk, h.profile]

/-- An engine that no accepted change reaches is left alone. -/
theorem sampleAll_agreeAt (nodup : ls.Nodup)
    (unreached : ∀ l ∈ ls, Accepts s.profile.filterCount[l] (s.line l) → ¬EdgeReaches (s.engine e) l) :
    AgreeAt e s (ls.foldl State.sampleLine s) := by
  induction ls generalizing s with
  | nil => exact ⟨rfl, rfl, rfl, rfl⟩
  | cons l ls ih =>
    obtain ⟨fresh, nodup⟩ := List.nodup_cons.1 nodup
    have first := sampleLine_agreeAt_unreached (unreached l List.mem_cons_self)
    refine first.trans (ih nodup fun k hk accepts => ?_)
    rw [(linesWait_sampleLine fresh).accepts hk] at accepts
    rw [first.engine]
    exact unreached k (List.mem_cons_of_mem l hk) accepts

/-- The engine that one accepted change alone reaches takes its edge. -/
theorem sampleAll_reached {l : Line} (nodup : ls.Nodup) (mem : l ∈ ls) (accepts : Accepts s.profile.filterCount[l] (s.line l))
    (alone : ∀ k ∈ ls, k ≠ l → Accepts s.profile.filterCount[k] (s.line k) → ¬EdgeReaches (s.engine e) k) :
    AgreeAt e (State.edgeToEngine l (s.line l).raw s e) (ls.foldl State.sampleLine s) := by
  induction ls generalizing s with
  | nil => cases mem
  | cons m ls ih =>
    obtain ⟨fresh, distinct⟩ := List.nodup_cons.1 nodup
    have waits := linesWait_sampleLine (s := s) fresh
    have later (k : Line) (hk : k ∈ ls) (other : k ≠ l) (accepted : Accepts (s.sampleLine m).profile.filterCount[k] ((s.sampleLine m).line k)) :
        ¬EdgeReaches ((s.sampleLine m).engine e) k := by
      rw [waits.accepts hk] at accepted
      rw [edgeReaches_congr (sampleLine_config s m e)]
      exact alone k (List.mem_cons_of_mem m hk) other accepted
    by_cases own : l = m
    · subst own
      exact (sampleLine_agreeAt_accepted accepts e).trans
        (sampleAll_agreeAt distinct fun k hk => later k hk fun same => fresh (same ▸ hk))
    · have mem := (List.mem_cons.1 mem).resolve_left own
      have first := sampleLine_agreeAt_unreached (alone m List.mem_cons_self (Ne.symm own))
      have rest := ih (s := s.sampleLine m) distinct mem ((waits.accepts mem).2 accepts) later
      rw [waits.cells l mem] at rest
      exact ((agreeAt_follows e).edgeToEngine first l (s.line l).raw).trans rest

/-- The records of a line are the same in every state in which it waits. -/
theorem sampleRecords_congr {x : State} {l : Line} (cell : x.line l = s.line l) (profile : x.profile = s.profile)
    (moved : OnlyJournalMoved s x) (leases : x.leases = s.leases)
    (results : EdgeAccepted s levels l → ∀ e, edgeResult x l (sampledLevel s levels l) e = edgeResult s l (sampledLevel s levels l) e) :
    sampleRecords x levels l = sampleRecords s levels l := by
  have level : sampledLevel x levels l = sampledLevel s levels l := by rw [sampledLevel, cell, profile, sampledLevel]
  have fault := faultRecord_congr (congrArg LineCell.drive cell) leases
  unfold sampleRecords
  simp only [level, cell, edgeRecord_congr moved, fault]
  by_cases kept : sampledLevel s levels l = (s.line l).filtered
  · simp only [if_pos kept]
  · simp only [if_neg kept, List.filterMap_congr fun e _ => results kept e]

/-- No end is due at an engine that an accepted change reaches, and no other accepted change reaches it. -/
def CalmEdges (s : State) (levels : LineSet) (ls : List Line) : Prop :=
  ∀ e, ∀ l ∈ ls, EdgeAccepted s levels l → EdgeReaches (s.engine e) l →
    NoEndDue s e ∧ ∀ k ∈ ls, k ≠ l → EdgeAccepted s levels k → ¬EdgeReaches (s.engine e) k

theorem sampleAll_logged (nodup : ls.Nodup) (pins : ∀ l ∈ ls, (s.line l).raw = pinLevel levels l)
    (calm : CalmEdges s levels ls) : Logged s (ls.foldl State.sampleLine s) (ls.flatMap (sampleRecords s levels)) := by
  induction ls generalizing s with
  | nil => exact .refl s
  | cons l ls ih =>
    obtain ⟨fresh, nodup⟩ := List.nodup_cons.1 nodup
    have waits := linesWait_sampleLine (s := s) fresh
    have first := sampleLine_logged (pins l List.mem_cons_self) fun accepted e reaches =>
      (calm e l List.mem_cons_self accepted reaches).1
    have edge {k : Line} (hk : k ∈ ls) : EdgeAccepted (s.sampleLine l) levels k ↔ EdgeAccepted s levels k := by
      rw [EdgeAccepted, sampledLevel, waits.cells k hk, waits.profile, EdgeAccepted, sampledLevel]
    have reach (e : EngineNo) (k : Line) : EdgeReaches ((s.sampleLine l).engine e) k ↔ EdgeReaches (s.engine e) k :=
      edgeReaches_congr (sampleLine_config s l e) k
    have agrees {e : EngineNo} {k : Line} (hk : k ∈ ls) (accepted : EdgeAccepted s levels k)
        (reaches : EdgeReaches (s.engine e) k) : AgreeAt e s (s.sampleLine l) := by
      obtain ⟨-, alone⟩ := calm e k (List.mem_cons_of_mem l hk) accepted reaches
      refine sampleLine_agreeAt_unreached fun accepts => ?_
      exact alone l List.mem_cons_self (fun own => fresh (own ▸ hk)) ((accepts_iff (pins l List.mem_cons_self)).1 accepts)
    have rest := ih (s := s.sampleLine l) nodup
      (fun k hk => by rw [waits.cells k hk]; exact pins k (List.mem_cons_of_mem l hk)) fun e k hk accepted reaches => by
        rw [edge hk] at accepted
        rw [reach] at reaches
        obtain ⟨due, alone⟩ := calm e k (List.mem_cons_of_mem l hk) accepted reaches
        refine ⟨(agrees hk accepted reaches).noEndDue due, fun m hm other accepted' => ?_⟩
        rw [edge hm] at accepted'
        rw [reach]
        exact alone m (List.mem_cons_of_mem l hm) other accepted'
    have same (k : Line) (hk : k ∈ ls) : sampleRecords (s.sampleLine l) levels k = sampleRecords s levels k := by
      refine sampleRecords_congr (waits.cells k hk) waits.profile first.moved first.tables.1 fun accepted e => ?_
      by_cases reaches : EdgeReaches (s.engine e) k
      · exact (agrees hk accepted reaches).edgeResult
      · rw [edgeResult_of_unreached reaches, edgeResult_of_unreached ((reach e k).not.2 reaches)]
    rw [List.flatMap_congr same] at rest
    exact first.trans rest

/-! ### From the state in which the pins are read -/

theorem pinsRead_agreeAt (s : State) (levels : LineSet) (e : EngineNo) : AgreeAt e s (pinsRead s levels) := by
  constructor <;> simp [pinsRead]

theorem pinsRead_logged (s : State) (levels : LineSet) : Logged s (pinsRead s levels) [] :=
  ⟨by simp [pinsRead, withRecords], fun q => by simp [pinsRead, State.session], by simp [SameTables, pinsRead],
    withLines_outside s _⟩

theorem pinsRead_raw (s : State) (levels : LineSet) (l : Line) : ((pinsRead s levels).line l).raw = pinLevel levels l := by
  rw [pinsRead_line]

theorem sampledLevel_pinsRead (s : State) (levels : LineSet) (l : Line) :
    sampledLevel (pinsRead s levels) levels l = sampledLevel s levels l := by
  have profile : (pinsRead s levels).profile = s.profile := (pinsRead_logged s levels).outside.profile
  rw [sampledLevel, pinsRead_line, profile]
  rfl

theorem edgeAccepted_pinsRead (s : State) (levels : LineSet) (l : Line) :
    EdgeAccepted (pinsRead s levels) levels l ↔ EdgeAccepted s levels l := by
  rw [EdgeAccepted, sampledLevel_pinsRead, pinsRead_line, EdgeAccepted]

theorem sampleRecords_pinsRead (s : State) (levels : LineSet) (l : Line) :
    sampleRecords (pinsRead s levels) levels l = sampleRecords s levels l := by
  have read := pinsRead_logged s levels
  have drive : ((pinsRead s levels).line l).drive = (s.line l).drive := by rw [pinsRead_line]
  have results (level : Level) (e : EngineNo) : edgeResult (pinsRead s levels) l level e = edgeResult s l level e :=
    (pinsRead_agreeAt s levels e).edgeResult
  unfold sampleRecords
  simp only [sampledLevel_pinsRead, edgeRecord_congr read.moved, faultRecord_congr drive read.tables.1,
    List.filterMap_congr fun e _ => results _ e]
  rw [pinsRead_line]

end Lines

/-- Settles O29: the lines are taken one after another, and an engine that one edge alone reaches waits for it as it was. -/
theorem lineEdgeHandedOn : Obligations.LineEdgeHandedOn := by
  intro s levels awake
  have read := pinsRead_agreeAt s levels
  have accepts (l : Line) : Accepts (pinsRead s levels).profile.filterCount[l] ((pinsRead s levels).line l) ↔
      EdgeAccepted s levels l := (accepts_iff (pinsRead_raw s levels l)).trans (edgeAccepted_pinsRead s levels l)
  have reach (e : EngineNo) (l : Line) : EdgeReaches ((pinsRead s levels).engine e) l ↔ EdgeReaches (s.engine e) l := by
    rw [(read e).engine]
  refine ⟨_, exec_lineSample awake levels, fun e unreached => ?_, fun e l accepted reaches alone => ?_, fun calm => ?_⟩
  · have kept := sampleAll_agreeAt (e := e) (s := pinsRead s levels) (List.nodup_finRange 32) fun l _ accepted => by
      rw [reach]
      exact unreached l ((accepts l).1 accepted)
    rw [sample_eq]
    exact ((read e).trans kept).engine
  · have taken := sampleAll_reached (e := e) (s := pinsRead s levels) (List.nodup_finRange 32) (List.mem_finRange l)
      ((accepts l).2 accepted) fun k _ other accepted' => by
        rw [reach]
        exact alone k other ((accepts k).1 accepted')
    rw [pinsRead_raw] at taken
    rw [sample_eq]
    exact (((agreeAt_follows e).edgeToEngine (read e) l (pinLevel levels l)).trans taken).engine
  · have logged := sampleAll_logged (s := pinsRead s levels) (levels := levels) (List.nodup_finRange 32)
      (fun l _ => pinsRead_raw s levels l) fun e l _ accepted reaches => by
        rw [edgeAccepted_pinsRead] at accepted
        rw [reach] at reaches
        obtain ⟨due, alone⟩ := calm e l accepted reaches
        refine ⟨(read e).noEndDue due, fun k _ other accepted' => ?_⟩
        rw [edgeAccepted_pinsRead] at accepted'
        rw [reach]
        exact alone k other accepted'
    rw [List.flatMap_congr fun l _ => sampleRecords_pinsRead s levels l] at logged
    have journal := ((pinsRead_logged s levels).trans logged).journal
    rw [List.nil_append] at journal
    rw [sample_eq]
    exact journal

end Sys2Proof.Proofs
end


section
/-! PROOFS. A due tick is taken first (R99): what a catch-up leaves is no longer due, and the catch-up is the same before
and after a request is taken from its port. -/

namespace Sys2Proof.Proofs

open Sys2Proof.Machine Sys2Proof.Safety Sys2Proof.Laws

/-! ### Nothing is due after a catch-up -/

section CatchUp

variable {s : State} {e : EngineNo}

/-- With no tick left no end is due. -/
theorem noEndDue_of_taken (all : (s.timeCount - (s.engine e).taken).toNat = 0) : NoEndDue s e := by
  unfold NoEndDue State.endDue
  split
  · rfl
  · rw [all]
    exact decide_eq_false (Nat.not_lt_zero _)

theorem takeTicks_noEndDue (fuel : Nat) (enough : (s.timeCount - (s.engine e).taken).toNat = fuel) :
    NoEndDue (s.takeTicks e fuel) e := by
  induction fuel generalizing s with
  | zero => exact noEndDue_of_taken enough
  | succ fuel ih =>
    rw [State.takeTicks]
    split
    · next due =>
      have fewer := left_takeTick (left_of_endDue due)
      exact ih (by omega)
    · next calm => exact Bool.eq_false_iff.2 calm

theorem catchUp_noEndDue (s : State) (e : EngineNo) : NoEndDue (s.catchUp e) e := takeTicks_noEndDue _ rfl

theorem catchUp_catchUp (s : State) (e : EngineNo) : (s.catchUp e).catchUp e = s.catchUp e :=
  catchUp_of_not_due (catchUp_noEndDue s e)

/-- One engine's catch-up leaves the others agreeing with what they were. -/
theorem catchUp_keeps_noEndDue {k : EngineNo} (calm : NoEndDue s e) : NoEndDue (s.catchUp k) e := by
  by_cases own : e = k
  · rw [own]
    exact catchUp_noEndDue s k
  · exact (EngineHappening.agreeAt (catchUp_happening s k) own).noEndDue calm

theorem catchUpAll_keeps_noEndDue {es : List EngineNo} (calm : NoEndDue s e) : NoEndDue (s.catchUpAll es) e := by
  induction es generalizing s with
  | nil => exact calm
  | cons k es ih => exact ih (catchUp_keeps_noEndDue calm)

theorem catchUpAll_noEndDue {es : List EngineNo} (mem : e ∈ es) : NoEndDue (s.catchUpAll es) e := by
  induction es generalizing s with
  | nil => cases mem
  | cons k es ih =>
    rcases List.mem_cons.1 mem with rfl | later
    · exact catchUpAll_keeps_noEndDue (s := s.catchUp e) (catchUp_noEndDue s e)
    · exact ih later

theorem catchUpAll_catchUpAll (s : State) (es : List EngineNo) : (s.catchUpAll es).catchUpAll es = s.catchUpAll es :=
  catchUpAll_of_noEndDue fun _ mem => catchUpAll_noEndDue mem

/-- An engine that lags by one tick, whose end is due, catches up by that tick. -/
theorem catchUp_of_near (near : TicksNear s) (due : ¬NoEndDue s e) : s.catchUp e = s.takeTick e := by
  have isDue : s.endDue e = true := Bool.eq_true_of_not_eq_false due
  have one : (s.timeCount - (s.engine e).taken).toNat = 1 := by
    rcases near e with same | next
    · exact absurd same (left_of_endDue isDue)
    · rw [← next]
      bv_omega
  rw [State.catchUp, one, State.takeTicks, if_pos isDue, State.takeTicks]

theorem exec_engineTick_due (awake : s.inReset = none) (near : TicksNear s) (due : ¬NoEndDue s e) :
    exec (.engineTick e) s = .next (s.catchUp e) := by
  rw [exec_engineTick_left awake (left_of_endDue (Bool.eq_true_of_not_eq_false due)), catchUp_of_near near due]

end CatchUp

/-! ### The engines' operations after a request is taken -/

/-- The attention threshold of a session that is OPEN. -/
def openThreshold (x : Session) : Option Nat :=
  match x.state with
  | .opened o => some o.threshold
  | .closed => none
  | .lapsed => none

/-- A change of a session record that touches nothing but its keepalive timer. -/
structure TimerOnly (g : Session → Session) : Prop where
  loss : ∀ x, countLoss (g x) = g (countLoss x)
  given : ∀ x, countGiven (g x) = g (countGiven x)
  moved : ∀ next nothing x, movePoint next nothing (g x) = g (movePoint next nothing x)
  threshold : ∀ x, openThreshold (g x) = openThreshold x
  unreported : ∀ x, (g x).unreportedLost = x.unreportedLost

theorem timerOnly_id : TimerOnly id := ⟨fun _ => rfl, fun _ => rfl, fun _ _ _ => rfl, fun _ => rfl, fun _ => rfl⟩

theorem timerOnly_restarted : TimerOnly restarted where
  loss := by rintro ⟨state⟩; cases state <;> rfl
  given := by rintro ⟨state⟩; cases state <;> rfl
  moved := by rintro next nothing ⟨state⟩; cases state <;> cases nothing <;> rfl
  threshold := by rintro ⟨state⟩; cases state <;> rfl
  unreported := by rintro ⟨state⟩; cases state <;> rfl

/-- The state with the Arbiter's pointer on a port and a change of that port's session record. -/
def turnedTo (p : Port) (g : Session → Session) (s : State) : State := (s.served p).withSession p g

theorem turnedTo_eq_of_session {s t : State} {p : Port} {g : Session → Session}
    (beside : t = { s.served p with sessions := t.sessions })
    (sessions : ∀ q, t.session q = if q = p then g (s.session q) else s.session q) : t = turnedTo p g s := by
  rw [beside]
  refine congrArg (fun x => { s.served p with sessions := x }) (PerPort.ext_get _ _ fun q => ?_)
  rw [PerPort.get_set]
  refine (sessions q).trans ?_
  split
  · next own => rw [own]; rfl
  · rfl

theorem served_eq_turnedTo (s : State) (p : Port) : s.served p = turnedTo p id s :=
  turnedTo_eq_of_session rfl fun q => (ite_self _).symm

theorem taken_eq_turnedTo (s : State) (p : Port) : taken s p = turnedTo p restarted s := by
  refine turnedTo_eq_of_session ?_ fun q => ?_
  · unfold taken State.restartKeepalive State.withOpen
    cases ((s.served p).session p).state <;> rfl
  · split
    · next own => rw [own]; exact (restart_only s p).1
    · next other => exact (restart_only s p).2 q other

section Turned

variable {p : Port} {g : Session → Session}

theorem turnedTo_session (s : State) (q : Port) : (turnedTo p g s).session q = if q = p then g (s.session q) else s.session q := by
  rw [turnedTo, State.session_withSession]
  split
  · next own => rw [own]; rfl
  · rfl

theorem isOpen_eq_threshold (s : State) (q : Port) : s.isOpen q = (openThreshold (s.session q)).isSome := by
  unfold State.isOpen State.openFields openThreshold
  cases (s.session q).state <;> rfl

theorem attentionDue_eq (s : State) (q : Port) :
    s.attentionDue q = match openThreshold (s.session q) with
      | none => false
      | some n => decide (n ≤ s.pendingCount q) || s.pendingNotice q || decide (0 < (s.session q).unreportedLost) := by
  unfold State.attentionDue State.openFields openThreshold
  cases (s.session q).state <;> rfl

variable (h : TimerOnly g)

include h

theorem openThreshold_turnedTo (s : State) (q : Port) :
    openThreshold ((turnedTo p g s).session q) = openThreshold (s.session q) := by
  rw [turnedTo_session]
  split
  · exact h.threshold _
  · rfl

theorem isOpen_turnedTo (s : State) (q : Port) : (turnedTo p g s).isOpen q = s.isOpen q := by
  rw [isOpen_eq_threshold, openThreshold_turnedTo h, isOpen_eq_threshold]

theorem attentionDue_turnedTo (s : State) (q : Port) : (turnedTo p g s).attentionDue q = s.attentionDue q := by
  have lost : ((turnedTo p g s).session q).unreportedLost = (s.session q).unreportedLost := by
    rw [turnedTo_session]
    split
    · exact h.unreported _
    · rfl
  have records : (turnedTo p g s).records q = s.records q := rfl
  have count : (turnedTo p g s).pendingCount q = s.pendingCount q := by rw [State.pendingCount, records, State.pendingCount]
  have notice : (turnedTo p g s).pendingNotice q = s.pendingNotice q := by
    rw [State.pendingNotice, records, State.pendingNotice]
  rw [attentionDue_eq, openThreshold_turnedTo h, lost, count, notice, attentionDue_eq]

theorem reattend_turnedTo (s : State) (ps : PortSet) : (turnedTo p g s).reattend ps = turnedTo p g (s.reattend ps) := by
  have due : (turnedTo p g s).attentionDue = s.attentionDue := funext (attentionDue_turnedTo h s)
  unfold State.reattend
  rw [due]
  rfl

theorem makeRoom_turnedTo (s : State) : (turnedTo p g s).makeRoom = turnedTo p g s.makeRoom := by
  have evicted : (turnedTo p g s).evictedInterest = s.evictedInterest := rfl
  refine turnedTo_eq_of_session ?_ fun q => ?_
  · unfold State.makeRoom State.evict
    have journal : (turnedTo p g s).journal = s.journal := rfl
    rw [journal]
    split
    · rfl
    · cases s.journal <;> rfl
  · rw [session_makeRoom, session_makeRoom, evicted, turnedTo_session]
    split <;> split
    · exact h.loss _
    all_goals rfl

theorem place_turnedTo (s : State) (interest : PortSet) (time : Count) (body : RecordBody) :
    (turnedTo p g s).place interest time body = turnedTo p g (s.place interest time body) := by
  have records (q : Port) : (turnedTo p g s).records q = s.records q := rfl
  have nextSeq : (turnedTo p g s).nextSeq = s.nextSeq := rfl
  refine turnedTo_eq_of_session rfl fun q => ?_
  rw [session_place, session_place, records, nextSeq, turnedTo_session]
  split <;> split
  · rw [h.moved, h.given]
  · rfl
  · exact h.moved _ _ _
  · rfl

theorem interested_turnedTo (s : State) (ps : PortSet) : (turnedTo p g s).interested ps = s.interested ps := by
  simp only [State.interested, isOpen_turnedTo h]

theorem append_turnedTo (s : State) (ps : PortSet) (time : Count) (body : RecordBody) :
    (turnedTo p g s).append ps time body = turnedTo p g (s.append ps time body) := by
  have evicted : (turnedTo p g s).evictedInterest = s.evictedInterest := rfl
  unfold State.append
  rw [interested_turnedTo h, evicted, makeRoom_turnedTo h, place_turnedTo h, reattend_turnedTo h]
  split <;> rfl

omit h in
theorem redrive_turnedTo (s : State) (set : ResourceSet) : (turnedTo p g s).redrive set = turnedTo p g (s.redrive set) := by
  have cells (u : State) : (turnedTo p g u).decidedCell = u.decidedCell := rfl
  have engines (u : State) : (turnedTo p g u).decidedEngine = u.decidedEngine := rfl
  have lines (u : State) (f) : (turnedTo p g u).withLines f = turnedTo p g (u.withLines f) := by
    simp only [turnedTo, State.withLines, State.withSession, State.served]
  have turned (u : State) (f) : (turnedTo p g u).withEngines f = turnedTo p g (u.withEngines f) := by
    simp only [turnedTo, State.withEngines, State.withSession, State.served]
  unfold State.redrive
  rw [cells, lines, engines, turned]

omit h in
theorem setEngineState_turnedTo (s : State) (e : EngineNo) (st : EngineState) :
    (turnedTo p g s).setEngineState e st = turnedTo p g (s.setEngineState e st) := by
  have changed (f) : (turnedTo p g s).withEngine e f = turnedTo p g (s.withEngine e f) := rfl
  unfold State.setEngineState
  rw [changed, redrive_turnedTo]

theorem turnedTo_follows (e : EngineNo) : Follows e fun s t => t = turnedTo p g s where
  engine {s t} r := by subst r; rfl
  time {s t} r := by subst r; rfl
  withEngine {s t} f r := by subst r; rfl
  setState {s t} st r := by subst r; exact setEngineState_turnedTo s e st
  result {s t} mode outcome value aux time r := by
    subst r
    exact append_turnedTo h s _ _ _

theorem catchUp_turnedTo (s : State) (e : EngineNo) : (turnedTo p g s).catchUp e = turnedTo p g (s.catchUp e) :=
  Follows.catchUp (turnedTo_follows h e) rfl

theorem catchUpAll_turnedTo (s : State) (es : List EngineNo) :
    (turnedTo p g s).catchUpAll es = turnedTo p g (s.catchUpAll es) := by
  induction es generalizing s with
  | nil => rfl
  | cons e es ih =>
    have first := catchUp_turnedTo (p := p) h s e
    exact (congrArg (fun s => State.catchUpAll s es) first).trans (ih _)

end Turned

end Sys2Proof.Proofs
end


section
/-! PROOFS. Due ticks first (R99): a happening on a state and on that state with the engines it reaches caught up is one
and the same. -/

namespace Sys2Proof.Proofs

open Sys2Proof.Machine Sys2Proof.Safety Sys2Proof.Laws

/-! ### What a catch-up leaves as it was -/

/-- A catch-up moves no lease, offer or claim, nothing beside the field and the journal, and of the session records only
what records move. -/
structure Beside (s t : State) : Prop where
  moved : OnlyJournalMoved s t
  tables : SameTables s t
  outside : SameOutside s t

theorem catchUpAll_beside (s : State) (es : List EngineNo) : Beside s (s.catchUpAll es) := by
  induction es generalizing s with
  | nil => exact ⟨fun _ => rfl, ⟨rfl, rfl, rfl, rfl, rfl⟩, .refl s⟩
  | cons e es ih =>
    obtain ⟨-, moved, ⟨leases, offers, offerCounter, waitList, ticketCounter⟩, rest, ports⟩ := catchUp_happening s e
    obtain ⟨moved', ⟨leases', offers', offerCounter', waitList', ticketCounter'⟩, outside'⟩ := ih (s.catchUp e)
    exact ⟨fun q => (moved' q).trans (moved q), ⟨leases'.trans leases, offers'.trans offers, offerCounter'.trans offerCounter,
      waitList'.trans waitList, ticketCounter'.trans ticketCounter⟩, SameOutside.trans ⟨rest, ports⟩ outside'⟩

section Beside

variable {s t : State} (h : Beside s t)

include h

theorem Beside.entry (r : Resource) : t.entry r = s.entry r := by rw [State.entry, h.tables.1, State.entry]

theorem Beside.offers : t.offers = s.offers := h.tables.2.1

theorem Beside.isOpen (p : Port) : t.isOpen p = s.isOpen p := isOpen_of_frame h.moved p

theorem Beside.holds (p : Port) (r : Resource) : t.holds p r = s.holds p r := by
  rw [State.holds, State.holderOf, h.entry r, State.holds, State.holderOf]

theorem Beside.heldSet (p : Port) : t.heldSet p = s.heldSet p := congrArg Machine.setOf (funext (h.holds p))

theorem Beside.reachedByEnd (p : Port) : t.reachedByEnd p = s.reachedByEnd p := by
  simp only [State.reachedByEnd, h.holds, h.offers]

theorem Beside.offer (id : Byte) : t.offer id = s.offer id := by rw [State.offer, h.offers, State.offer]

theorem Beside.taking (p : Port) : t.taking p = s.taking p := by
  have served : t.servedLast = s.servedLast := h.outside.2.2
  have pending : t.isPending = s.isPending := funext fun q => by rw [State.isPending, h.outside.port, State.isPending]
  have choice : t.arbiterChoice = s.arbiterChoice := by rw [State.arbiterChoice, served, pending, State.arbiterChoice]
  rw [State.taking, h.outside.inReset, choice, h.outside.port, State.taking]

theorem Beside.ready {rq : Request} {p : Port} {f : Frame} (request : Ready s rq p f) : Ready t rq p f := by
  obtain ⟨takes, rest⟩ := request
  exact ⟨(h.taking p).trans takes, rest⟩

theorem Beside.number (p : Port) : (t.session p).number = (s.session p).number := by
  simpa only [sessionFrame] using congrArg Session.number (h.moved p)

theorem Beside.passes {p : Port} {f : Frame} (passes : Passes s p f) : Passes t p f := by
  obtain ⟨isOpen, number⟩ := passes
  exact ⟨(h.isOpen p).trans isOpen, (h.number p).trans number⟩

end Beside

/-! ### Requests -/

section Requests

variable {s : State} {rq : Request} {p : Port} {f : Frame} {es : List EngineNo}

/-- A request whose body does not see a catch-up before it is the same after that catch-up. -/
theorem exec_caughtUp (check : hasSessionCheck rq = true) (request : Ready s rq p f) (passes : Passes s p f)
    (body : bodyOf rq ((taken s p).catchUpAll es) p f.payload = bodyOf rq (taken s p) p f.payload) :
    exec (commandOf p rq) s = exec (commandOf p rq) (s.catchUpAll es) := by
  have beside := catchUpAll_beside s es
  have same : taken (s.catchUpAll es) p = (taken s p).catchUpAll es := by
    rw [taken_eq_turnedTo, taken_eq_turnedTo, catchUpAll_turnedTo timerOnly_restarted]
  have after : bodyOf rq (taken (s.catchUpAll es) p) p f.payload = bodyOf rq (taken s p) p f.payload :=
    (congrArg (fun u => bodyOf rq u p f.payload) same).trans body
  rw [exec_commandOf, exec_commandOf, take_of_body check request passes rfl,
    take_of_body check (beside.ready request) (beside.passes passes) after]

/-- The same for OPEN SESSION, which has no session check. -/
theorem exec_openSession_caughtUp (request : Ready s .openSession p f)
    (body : openBody ((s.served p).catchUpAll es) p f.payload = openBody (s.served p) p f.payload) :
    exec (commandOf p .openSession) s = exec (commandOf p .openSession) (s.catchUpAll es) := by
  have beside := catchUpAll_beside s es
  have same : (s.catchUpAll es).served p = (s.served p).catchUpAll es := by
    rw [served_eq_turnedTo, served_eq_turnedTo, catchUpAll_turnedTo timerOnly_id]
  have after : openBody ((s.catchUpAll es).served p) p f.payload = openBody (s.served p) p f.payload :=
    (congrArg (fun u => openBody u p f.payload) same).trans body
  rw [exec_commandOf, exec_commandOf]
  exact (take_of_free_body rfl request rfl).trans (take_of_free_body rfl (beside.ready request) after).symm

end Requests

/-! ### Operations that begin with a catch-up -/

section Operations

variable {s : State} {p : Port} {pl : List Byte}

theorem endSession_caughtUp (how : SessionEnd) :
    (s.catchUpAll (s.reachedByEnd p)).endSession how p = s.endSession how p := by
  have beside := catchUpAll_beside s (s.reachedByEnd p)
  have holdings : (s.catchUpAll (s.reachedByEnd p)).dropHoldings how p = s.dropHoldings how p := by
    unfold State.dropHoldings
    rw [beside.heldSet, beside.reachedByEnd, catchUpAll_catchUpAll]
  unfold State.endSession
  rw [beside.heldSet, holdings]

theorem returnOffer_caughtUp (o : Offer) : (s.catchUpAll (enginesOf o.set)).returnOffer o = s.returnOffer o := by
  rw [returnOffer_eq, catchUpAll_catchUpAll, returnOffer_eq]

theorem endOffer_caughtUp (o : Offer) (outcome : OfferOutcome) (ps : PortSet) :
    (s.catchUpAll (enginesOf o.set)).endOffer o outcome ps = s.endOffer o outcome ps := by
  unfold State.endOffer
  rw [returnOffer_caughtUp]

theorem acceptOffer_caughtUp (o : Offer) : (s.catchUpAll (enginesOf o.set)).acceptOffer o = s.acceptOffer o := by
  unfold State.acceptOffer
  rw [catchUpAll_catchUpAll]

theorem makeOffer_caughtUp (o : OfferOperands) : (s.catchUpAll (enginesOf o.set)).makeOffer p o = s.makeOffer p o := by
  have beside := catchUpAll_beside s (enginesOf o.set)
  have id : (s.catchUpAll (enginesOf o.set)).nextOfferId = s.nextOfferId := by
    simp only [State.nextOfferId, beside.offers, beside.tables.2.2.1]
  unfold State.makeOffer
  rw [id, catchUpAll_catchUpAll, beside.outside.timeCount]

theorem releasedSet_caughtUp (set : ResourceSet) : releasedSet (s.catchUpAll (enginesOf set)) p set = releasedSet s p set := by
  unfold releasedSet stoppedFor
  rw [catchUpAll_catchUpAll]

theorem assertForce_caughtUp : (s.catchUpAll (List.finRange 4)).assertForce = s.assertForce := by
  unfold State.assertForce
  rw [catchUpAll_catchUpAll]

/-! ### The bodies -/

theorem releaseBody_caughtUp {set : ResourceSet} (hset : set.toNat = fieldAt pl 0 5) (some_set : set ≠ 0)
    (held : ∀ r, inSet set r = true → (s.entry r).state = .held p) :
    releaseBody (s.catchUpAll (enginesOf set)) p pl = releaseBody s p pl := by
  have beside := catchUpAll_beside s (enginesOf set)
  rw [releaseBody_ok hset some_set held, releaseBody_ok hset some_set fun r mem => by rw [beside.entry]; exact held r mem,
    releasedSet_caughtUp]

theorem offerBody_caughtUp {o : OfferOperands} (operands : offerOperands p pl = some o) (targetOpen : s.isOpen o.target = true)
    (held : ∀ r, inSet o.set r = true → (s.entry r).state = .held p) (room : s.offers.length < 4) :
    offerBody (s.catchUpAll (enginesOf o.set)) p pl = offerBody s p pl := by
  have beside := catchUpAll_beside s (enginesOf o.set)
  have id : (s.catchUpAll (enginesOf o.set)).nextOfferId = s.nextOfferId := by
    simp only [State.nextOfferId, beside.offers, beside.tables.2.2.1]
  rw [offerBody_made operands targetOpen held room,
    offerBody_made operands ((beside.isOpen _).trans targetOpen) (fun r mem => by rw [beside.entry]; exact held r mem)
      (by rw [beside.offers]; exact room), makeOffer_caughtUp, id]

/-- A settling request whose settling does not see the catch-up. -/
theorem settleBody_caughtUp {role : Offer → Port} {settle : State → Offer → State × Reply} {o : Offer}
    (named : byteAt pl 0 ≠ 0) (found : s.offer (byteAt pl 0) = some o) (party : role o = p)
    (settles : settle (s.catchUpAll (enginesOf o.set)) o = settle s o) :
    settleBody role settle (s.catchUpAll (enginesOf o.set)) p pl = settleBody role settle s p pl := by
  have beside := catchUpAll_beside s (enginesOf o.set)
  rw [settleBody_found named found party, settleBody_found named ((beside.offer _).trans found) party, settles]

theorem openBody_caughtUp (legal : LegalOpening (fieldAt pl 0 2) (fieldAt pl 2 1)) (replace : byteAt pl 3 = 1)
    (isOpen : s.isOpen p = true) : openBody (s.catchUpAll (s.reachedByEnd p)) p pl = openBody s p pl := by
  have beside := catchUpAll_beside s (s.reachedByEnd p)
  have flag : (byteAt pl 3).getLsbD 0 = true := by rw [replace]; rfl
  have operands := openOperands_eq_some legal (by rw [replace]; decide : (byteAt pl 3).toNat ≤ 1)
  simp only [openBody, operands, isOpen, (beside.isOpen p).trans isOpen, flag, if_true, endSession_caughtUp]

section Engine

variable {e : EngineNo}

theorem configureBody_caughtUp {c : EngineConfig} (operands : configureOperands pl = some (e, c))
    (held : s.holds p (engineResource e) = true) : configureBody (s.catchUpAll [e]) p pl = configureBody s p pl := by
  have held' := ((catchUpAll_beside s [e]).holds p (engineResource e)).trans held
  have again : (s.catchUpAll [e]).catchUp e = s.catchUp e := catchUp_catchUp s e
  simp only [configureBody, operands, held, held', again, Bool.not_true, Bool.false_eq_true, if_false]

theorem startBody_caughtUp (number : fieldAt pl 0 1 = e.val) (held : s.holds p (engineResource e) = true)
    (released : s.force.asserted = false) : startBody (s.catchUpAll [e]) p pl = startBody s p pl := by
  have beside := catchUpAll_beside s [e]
  have held' := (beside.holds p (engineResource e)).trans held
  have released' : (s.catchUpAll [e]).force.asserted = false := by rw [beside.outside.force, released]
  have again : (s.catchUpAll [e]).catchUp e = s.catchUp e := catchUp_catchUp s e
  simp only [startBody, engineOperand_eq_some_iff.2 number, held, held', released, released', again, Bool.not_true,
    Bool.false_eq_true, if_false]

theorem stopBody_caughtUp (number : fieldAt pl 0 1 = e.val) (held : s.holds p (engineResource e) = true) :
    stopBody (s.catchUpAll [e]) p pl = stopBody s p pl := by
  have held' := ((catchUpAll_beside s [e]).holds p (engineResource e)).trans held
  have again : (s.catchUpAll [e]).catchUp e = s.catchUp e := catchUp_catchUp s e
  simp only [stopBody, engineOperand_eq_some_iff.2 number, held, held', again, Bool.not_true, Bool.false_eq_true, if_false]

theorem engineStatusBody_caughtUp (number : fieldAt pl 0 1 = e.val) :
    engineStatusBody (s.catchUpAll [e]) p pl = engineStatusBody s p pl := by
  have again : (s.catchUpAll [e]).catchUp e = s.catchUp e := catchUp_catchUp s e
  simp only [engineStatusBody, engineOperand_eq_some_iff.2 number, again]

end Engine

/-- An edge at an engine that it reaches. -/
theorem edgeToEngine_caughtUp {l : Line} {level : Level} {e : EngineNo} (reaches : EdgeReaches (s.engine e) l) :
    State.edgeToEngine l level s e = State.edgeToEngine l level (s.catchUp e) e := by
  have config := (catchUp_fieldRun e (tickTimes_any s)).config e
  have reaches' : EdgeReaches ((s.catchUp e).engine e) l := by
    rw [EdgeReaches, config]
    exact reaches
  rw [State.edgeToEngine, if_pos ((namesLine_iff _ _).2 reaches), State.edgeToEngine, if_pos ((namesLine_iff _ _).2 reaches'),
    catchUp_catchUp]

end Operations

/-! ### The statement -/

section Requests

variable {s : State} {p : Port} {f : Frame} {rq : Request}

theorem exec_engineRequest_caughtUp {e : EngineNo}
    (kind : rq = .configureEngine ∨ rq = .startEngine ∨ rq = .stopEngine ∨ rq = .engineStatus) (request : Ready s rq p f)
    (passes : Passes s p f) (number : fieldAt f.payload 0 1 = e.val)
    (held : rq ≠ .engineStatus → s.holds p (engineResource e) = true)
    (config : rq = .configureEngine → ∃ c, CarriesConfig f.payload c ∧ GoodConfig c)
    (released : rq = .startEngine → s.force.asserted = false) :
    exec (commandOf p rq) s = exec (commandOf p rq) (s.catchUp e) := by
  have checked : hasSessionCheck rq = true := by rcases kind with rfl | rfl | rfl | rfl <;> rfl
  have held' (other : rq ≠ .engineStatus) : (taken s p).holds p (engineResource e) = true :=
    (taken_holds s p p _).trans (held other)
  refine exec_caughtUp (es := [e]) checked request passes ?_
  rcases kind with rfl | rfl | rfl | rfl
  · obtain ⟨c, carries, good⟩ := config rfl
    exact configureBody_caughtUp (configureOperands_eq_some_iff.2 ⟨number, carries, good⟩) (held' (by decide))
  · exact startBody_caughtUp number (held' (by decide)) (by rw [taken_force]; exact released rfl)
  · exact stopBody_caughtUp number (held' (by decide))
  · exact engineStatusBody_caughtUp (p := p) number

theorem exec_settling_caughtUp {o : Offer} (kind : rq = .accept ∨ rq = .decline ∨ rq = .withdraw) (request : Ready s rq p f)
    (passes : Passes s p f) (named : byteAt f.payload 0 ≠ 0) (found : s.offer (byteAt f.payload 0) = some o)
    (party : (if rq = .withdraw then o.offerer else o.target) = p) :
    exec (commandOf p rq) s = exec (commandOf p rq) (s.catchUpAll (enginesOf o.set)) := by
  have checked : hasSessionCheck rq = true := by rcases kind with rfl | rfl | rfl <;> rfl
  refine exec_caughtUp checked request passes ?_
  have found' := (offer_taken s p _).trans found
  rcases kind with rfl | rfl | rfl
  · exact settleBody_caughtUp (role := Offer.target) named found' party (by unfold acceptFound; rw [acceptOffer_caughtUp])
  · exact settleBody_caughtUp (role := Offer.target) named found' party (by unfold declineFound; rw [endOffer_caughtUp])
  · exact settleBody_caughtUp (role := Offer.offerer) named found' party (by unfold withdrawFound; rw [endOffer_caughtUp])

theorem exec_release_caughtUp {set : ResourceSet} (request : Ready s .release p f) (passes : Passes s p f)
    (hset : set.toNat = fieldAt f.payload 0 5) (some_set : set ≠ 0)
    (held : ∀ r, inSet set r = true → (s.entry r).state = .held p) :
    exec (commandOf p .release) s = exec (commandOf p .release) (s.catchUpAll (enginesOf set)) :=
  exec_caughtUp rfl request passes (releaseBody_caughtUp hset some_set fun r mem => by rw [taken_entry]; exact held r mem)

theorem exec_offer_caughtUp {o : OfferOperands} (request : Ready s .offer p f) (passes : Passes s p f)
    (operands : offerOperands p f.payload = some o) (targetOpen : s.isOpen o.target = true)
    (held : ∀ r, inSet o.set r = true → (s.entry r).state = .held p) (room : s.offers.length < 4) :
    exec (commandOf p .offer) s = exec (commandOf p .offer) (s.catchUpAll (enginesOf o.set)) :=
  exec_caughtUp rfl request passes (offerBody_caughtUp operands ((taken_isOpen s p _).trans targetOpen)
    (fun r mem => by rw [taken_entry]; exact held r mem) (by rw [taken_offers]; exact room))

theorem exec_closeSession_caughtUp (request : Ready s .closeSession p f) (passes : Passes s p f) :
    exec (commandOf p .closeSession) s = exec (commandOf p .closeSession) (s.catchUpAll (s.reachedByEnd p)) := by
  have reached : (taken s p).reachedByEnd p = s.reachedByEnd p := by
    simp only [State.reachedByEnd, taken_holds, taken_offers]
  refine exec_caughtUp rfl request passes ?_
  have same := endSession_caughtUp (s := taken s p) (p := p) .close
  rw [reached] at same
  exact congrArg (fun u => (u, bare .ok)) same

theorem exec_replace_caughtUp (request : Ready s .openSession p f) (isOpen : s.isOpen p = true)
    (replace : byteAt f.payload 3 = 1) (legal : LegalOpening (fieldAt f.payload 0 2) (fieldAt f.payload 2 1)) :
    exec (commandOf p .openSession) s = exec (commandOf p .openSession) (s.catchUpAll (s.reachedByEnd p)) :=
  exec_openSession_caughtUp request (openBody_caughtUp (s := s.served p) legal replace isOpen)

end Requests

section Happenings

variable {s : State}

theorem exec_offerExpiry_caughtUp {id : Byte} {o : Offer} (awake : s.inReset = none) (found : s.offer id = some o) :
    exec (.offerExpiry id) s = exec (.offerExpiry id) (s.catchUpAll (enginesOf o.set)) := by
  have beside := catchUpAll_beside s (enginesOf o.set)
  rw [exec_offerExpiry awake found, exec_offerExpiry (beside.outside.inReset.trans awake) ((beside.offer id).trans found),
    endOffer_caughtUp]

theorem exec_lapse {p : Port} (awake : s.inReset = none) (isOpen : s.isOpen p = true) :
    exec (.lapse p) s = .next (s.endSession .lapse p) := by
  simp only [exec, execLapse, awake_of awake, isOpen, if_true]

theorem exec_lapse_caughtUp {p : Port} (awake : s.inReset = none) (isOpen : s.isOpen p = true) :
    exec (.lapse p) s = exec (.lapse p) (s.catchUpAll (s.reachedByEnd p)) := by
  have beside := catchUpAll_beside s (s.reachedByEnd p)
  rw [exec_lapse awake isOpen, exec_lapse (beside.outside.inReset.trans awake) ((beside.isOpen p).trans isOpen),
    endSession_caughtUp]

theorem exec_assertion_caughtUp {c : Instr} (awake : s.inReset = none) (released : s.force.asserted = false)
    (asserts : c = .fsafeAssertion ∨ c = .nfsafeMonitorSample .low ∧ s.force.run = 2) :
    exec c s = exec c (s.catchUpAll (List.finRange 4)) := by
  have beside := catchUpAll_beside s (List.finRange 4)
  have force := beside.outside.force
  rw [exec_assertion awake released asserts, exec_assertion (beside.outside.inReset.trans awake) (by rw [force, released])
    (by rw [force]; exact asserts), assertForce_caughtUp]

end Happenings

/-- Settles O37: every happening that reaches an engine begins with its catch-up, which leaves nothing due. -/
theorem dueTickTakenFirst : Obligations.DueTickTakenFirst := by
  have folds (s : State) (es : List EngineNo) : es.foldl State.catchUp s = s.catchUpAll es := rfl
  unfold Obligations.DueTickTakenFirst
  simp only [folds]
  refine ⟨fun s e => ⟨catchUp_noEndDue s e, catchUp_of_not_due, exec_engineTick_due⟩, fun s es e => catchUpAll_noEndDue, ?_,
    ?_, ?_, fun s id o => exec_offerExpiry_caughtUp, fun s p => exec_lapse_caughtUp, ?_, fun s c => exec_assertion_caughtUp,
    fun s l level e => edgeToEngine_caughtUp⟩
  · intro s p f rq e kind request passes number held config released
    exact exec_engineRequest_caughtUp kind request passes number held config released
  · rintro s p f rq set request passes hset some_set held (rfl | ⟨rfl, room, least, most, target, code, other, targetOpen⟩)
    · exact exec_release_caughtUp request passes hset some_set held
    · have operands := offerOperands_eq_some hset some_set code other least most
      exact exec_offer_caughtUp (o := { set := set, target := target, window := _ }) request passes operands targetOpen held room
  · intro s p f rq o kind request passes named found party
    exact exec_settling_caughtUp (o := o) kind request passes named found party
  · rintro s p f rq request isOpen (⟨rfl, passes⟩ | ⟨rfl, replace, p1, p2, t1, t2⟩)
    · exact exec_closeSession_caughtUp request passes
    · exact exec_replace_caughtUp request isOpen replace ⟨p1, p2, t1, t2⟩

end Sys2Proof.Proofs
end


section
/-! PROOFS. The journal counters of one session through a run of records: what it is told of is given to it, and what makes
room for them is lost (R128, R129). -/

namespace Sys2Proof.Proofs

open Sys2Proof.Machine Sys2Proof.Safety Sys2Proof.Laws

/-! ### Counting records -/

/-- The records of a journal that a session is told of, among its first `n`. -/
def toldAmong (p : Port) (n : Nat) (journal : List Record) : Nat := ((journal.take n).filter fun r => r.interest.get p).length

/-- From `s` to `t` some records were made, of which some were given to the session of port `p`; the records that made room
for them are counted as its losses. -/
structure Tallied (s t : State) (p : Port) (given made : Nat) : Prop where
  acknowledged : (t.session p).acknowledged = (s.session p).acknowledged
  given : (t.session p).given = (satInc max32)^[given] (s.session p).given
  journal : s.journal.length ≤ 128 → ∃ new : List Record, new.length = made ∧
    t.journal = (s.journal ++ new).drop (s.journal.length + made - 128) ∧
    (t.session p).lost = (satInc max32)^[toldAmong p (s.journal.length + made - 128) (s.journal ++ new)] (s.session p).lost ∧
    (t.session p).unreportedLost =
      (satInc 65535)^[toldAmong p (s.journal.length + made - 128) (s.journal ++ new)] (s.session p).unreportedLost

/-- The journal counters of a session record. -/
def tallyOf (x : Session) : Nat × Nat × Nat × Nat := (x.acknowledged, x.given, x.lost, x.unreportedLost)

section Tallied

variable {s t u : State} {p : Port} {given made given' made' : Nat}

theorem Tallied.of_same (journal : t.journal = s.journal) (tally : tallyOf (t.session p) = tallyOf (s.session p)) :
    Tallied s t p 0 0 := by
  simp only [tallyOf, Prod.mk.injEq] at tally
  obtain ⟨acknowledged, same, lost, unreported⟩ := tally
  refine ⟨acknowledged, same, fun short => ⟨[], rfl, ?_, ?_⟩⟩ <;>
    rw [Nat.add_zero, Nat.sub_eq_zero_of_le short]
  · rw [List.drop_zero, List.append_nil, journal]
  · exact ⟨lost, unreported⟩

theorem toldAmong_add (p : Port) (m n : Nat) (journal : List Record) :
    toldAmong p (m + n) journal = toldAmong p n (journal.drop m) + toldAmong p m journal := by
  rw [toldAmong, List.take_add, List.filter_append, List.length_append, Nat.add_comm, toldAmong, toldAmong]

theorem Tallied.trans (h : Tallied s t p given made) (k : Tallied t u p given' made') :
    Tallied s u p (given' + given) (made + made') where
  acknowledged := k.acknowledged.trans h.acknowledged
  given := by rw [k.given, h.given, Function.iterate_add_apply]
  journal short := by
    obtain ⟨new, length, journal, lost, unreported⟩ := h.journal short
    have kept : t.journal.length = s.journal.length + made - (s.journal.length + made - 128) := by
      rw [journal, List.length_drop, List.length_append, length]
    obtain ⟨new', length', journal', lost', unreported'⟩ := k.journal (by omega)
    have split : s.journal.length + (made + made') - 128 =
        (s.journal.length + made - 128) + (t.journal.length + made' - 128) := by omega
    have fits : s.journal.length + made - 128 ≤ (s.journal ++ new).length := by
      rw [List.length_append, length]
      omega
    have rest : t.journal ++ new' = (s.journal ++ (new ++ new')).drop (s.journal.length + made - 128) := by
      rw [← List.append_assoc, List.drop_append_of_le_length fits, journal]
    have first : toldAmong p (s.journal.length + made - 128) (s.journal ++ (new ++ new')) =
        toldAmong p (s.journal.length + made - 128) (s.journal ++ new) := by
      rw [← List.append_assoc, toldAmong, List.take_append_of_le_length fits, toldAmong]
    refine ⟨new ++ new', by rw [List.length_append, length, length'], ?_, ?_, ?_⟩
    · rw [journal', rest, split, List.drop_drop]
    · rw [lost', lost, split, toldAmong_add, first, ← rest, Function.iterate_add_apply]
    · rw [unreported', unreported, split, toldAmong_add, first, ← rest, Function.iterate_add_apply]

/-- What one more record pushes out of a journal. -/
theorem journal_after_one (short : s.journal.length ≤ 128) (r : Record) :
    (if s.journal.length < 128 then s.journal else s.journal.tail) ++ [r] =
        (s.journal ++ [r]).drop (s.journal.length + 1 - 128) ∧
      toldAmong p (s.journal.length + 1 - 128) (s.journal ++ [r]) = if s.evictedInterest.get p then 1 else 0 := by
  rw [evictedInterest_get, toldAmong]
  rcases Nat.lt_or_eq_of_le short with room | full
  · have none_out : s.journal.length + 1 - 128 = 0 := by omega
    rw [if_pos room, none_out]
    cases s.journal.head? <;> simp [Nat.not_le.2 room]
  · have one_out : s.journal.length + 1 - 128 = 1 := by omega
    rw [one_out, full]
    cases journal : s.journal with
    | nil => simp [journal] at full
    | cons x rest => cases told : x.interest.get p <;> simp [told]

/-- One record, with somebody interested. -/
theorem append_tallied {ps : PortSet} (time : Count) (body : RecordBody) (heard : isNoPort (s.interested ps) = false) :
    Tallied s (s.append ps time body) p (if ps.get p && s.isOpen p then 1 else 0) 1 where
  acknowledged := by
    rw [session_append time body p heard, session_makeRoom]
    split <;> split <;> simp [countGiven, countLoss]
  given := by
    rw [session_append time body p heard, session_makeRoom]
    split <;> split <;> simp [countGiven, countLoss]
  journal short := by
    obtain ⟨journal, told⟩ := journal_after_one (p := p) short
      { seq := s.nextSeq, time := time, body := body, interest := s.interested ps }
    refine ⟨[{ seq := s.nextSeq, time := time, body := body, interest := s.interested ps }], rfl, ?_, ?_⟩
    · rw [← journal, append_some heard, State.reattend_journal, State.place, (makeRoom_journal s).1, (makeRoom_journal s).2]
    · rw [told, session_append time body p heard, session_makeRoom]
      constructor <;> split <;> split <;> simp [countGiven, countLoss]

/-- The single record is for this session, which is OPEN. -/
theorem append_tallied_own {ps : PortSet} (time : Count) (body : RecordBody) (told : ps.get p = true) (isOpen : s.isOpen p = true) :
    Tallied s (s.append ps time body) p 1 1 := by
  have heard : isNoPort (s.interested ps) = false :=
    (isNoPort_eq_false_iff _).2 ⟨p, by rw [interested_get, told, isOpen]; rfl⟩
  simpa [told, isOpen] using append_tallied (p := p) time body heard

/-- The single record is for another session, which is OPEN. -/
theorem append_tallied_other {q : Port} (time : Count) (body : RecordBody) (other : q ≠ p) (isOpen : s.isOpen q = true) :
    Tallied s (s.append (onlyPort q) time body) p 0 1 := by
  have heard : isNoPort (s.interested (onlyPort q)) = false :=
    (isNoPort_eq_false_iff _).2 ⟨q, by rw [interested_get, isOpen]; simp [onlyPort]⟩
  have notTold : (onlyPort q).get p = false := by simp [onlyPort, other.symm]
  simpa [notTold] using append_tallied (p := p) time body heard

end Tallied

/-! ### A session that no record is left for -/

section Bystander

variable {s : State} {p : Port}

theorem evictedInterest_of_records_nil (none_left : s.records p = []) : s.evictedInterest.get p = false := by
  rw [evictedInterest_get]
  cases journal : s.journal with
  | nil => rfl
  | cons r rest =>
    have notTold := List.filter_eq_nil_iff.1 none_left r (by rw [journal]; exact List.mem_cons_self)
    simp [notTold]

/-- A record for others leaves the counters of a session without records alone. -/
theorem append_tally_same {ps : PortSet} (time : Count) (body : RecordBody) (notTold : ps.get p = false)
    (none_left : s.records p = []) : tallyOf ((s.append ps time body).session p) = tallyOf (s.session p) := by
  cases nobody : isNoPort (s.interested ps) with
  | true => rw [append_none nobody]
  | false =>
    rw [session_append time body p nobody, session_makeRoom, evictedInterest_of_records_nil none_left, notTold]
    simp [tallyOf]

theorem grantQueued_bystander {w : WaitEntry} (other : w.port ≠ p) (none_left : s.records p = []) :
    tallyOf ((s.grantQueued w).session p) = tallyOf (s.session p) ∧
      ((s.grantQueued w).session p).heldCount = (s.session p).heldCount ∧ (s.grantQueued w).records p = [] := by
  have notTold : (onlyPort w.port).get p = false := by simp [onlyPort, other.symm]
  obtain ⟨-, -, ⟨journal, -⟩, -, others⟩ := grant_rest s w.port w.set
  have session : ((s.grant w.port w.set).removeTicket w.ticket).session p = s.session p := by
    rw [State.session, State.removeTicket, State.withWaitList_sessions, ← State.session, others p other.symm]
  have records : ((s.grant w.port w.set).removeTicket w.ticket).records p = [] := by
    rw [State.records, State.removeTicket, State.withWaitList_journal, journal, ← State.records, none_left]
  refine ⟨?_, ?_, records_append_nil _ _ notTold records⟩
  · rw [State.grantQueued, append_tally_same _ _ notTold records, session]
  · rw [State.grantQueued, heldCount_of_frame (append_moved _ _ _ _ p), session]

/-- An examination whose entries are other ports' leaves the session's counters alone. -/
theorem examineAll_bystander {l : List WaitEntry} (others : ∀ w ∈ l, w.port ≠ p) (none_left : s.records p = []) :
    tallyOf ((l.foldl State.examineEntry s).session p) = tallyOf (s.session p) ∧
      ((l.foldl State.examineEntry s).session p).heldCount = (s.session p).heldCount := by
  induction l generalizing s with
  | nil => exact ⟨rfl, rfl⟩
  | cons w l ih =>
    have later (x : WaitEntry) (hx : x ∈ l) := others x (List.mem_cons_of_mem w hx)
    rw [List.foldl_cons, State.examineEntry]
    split
    · obtain ⟨tally, count, records⟩ := grantQueued_bystander (others w List.mem_cons_self) none_left
      obtain ⟨tally', count'⟩ := ih later records
      exact ⟨tally'.trans tally, count'.trans count⟩
    · exact ih later none_left

end Bystander

end Sys2Proof.Proofs
end


section
/-! PROOFS. The end of a session, its first two steps (R35): what the port held is let go, and the offers it is party to are
cancelled. -/

namespace Sys2Proof.Proofs

open Sys2Proof.Machine Sys2Proof.Safety Sys2Proof.Laws

/-! ### Step 1: what the port held is let go -/

section Dropped

variable {s : State} {p : Port} {how : SessionEnd}

/-- The end is a close, which records the runs it stops. -/
def closes : SessionEnd → Bool
  | .close => true
  | .lapse => false
  | .replace => false

/-- The records of the runs that an end stops. -/
def endStops (s : State) (how : SessionEnd) (p : Port) : List ((Port → Bool) × RecordBody) :=
  if closes how then stopResults s p (s.heldSet p) else []

theorem mem_reachedByEnd {e : EngineNo} : e ∈ s.reachedByEnd p ↔
    s.holds p (engineResource e) = true ∨ ∃ o ∈ s.offers, o.target = p ∧ inSet o.set (engineResource e) = true := by
  simp [State.reachedByEnd]

theorem endedRuns_runsOver (ready : ∀ e ∈ s.reachedByEnd p, NoEndDue s e) :
    RunsOver s (endedRuns s how p) (enginesOf (s.heldSet p)) (endStops s how p) := by
  have held (r : Resource) (inside : inSet (s.heldSet p) r = true) : s.holds p r = true := by rwa [← inSet_heldSet]
  unfold endedRuns endStops
  rw [catchUpAll_of_noEndDue ready]
  cases how with
  | close =>
    simp only [closes, if_true, ← stopResults_eq held]
    exact stopAll_runsOver s .stopped (nodup_enginesOf _)
  | lapse => exact silenceAll_runsOver s (nodup_enginesOf _)
  | replace => exact silenceAll_runsOver s (nodup_enginesOf _)

theorem dropHoldings_setFreed (ready : ∀ e ∈ s.reachedByEnd p, NoEndDue s e) :
    SetFreed s (s.dropHoldings how p) (s.heldSet p) (leaseAfterEnd how p) (endStops s how p) := by
  rw [dropHoldings_eq]
  exact ((endedRuns_runsOver ready).setFreed _).withSession p _

theorem dropHoldings_session (s : State) (how : SessionEnd) (p q : Port) :
    (s.dropHoldings how p).session q =
      if q = p then { (endedRuns s how p).session p with heldCount := 0 } else (endedRuns s how p).session q := by
  obtain ⟨-, -, sessions, -⟩ := letGo_rest (endedRuns s how p) (s.heldSet p) (leaseAfterEnd how p)
  have same (q : Port) : ((endedRuns s how p).letGo (s.heldSet p) (leaseAfterEnd how p)).session q =
      (endedRuns s how p).session q := by rw [State.session, sessions, State.session]
  rw [dropHoldings_eq, State.session_withSession, same, same]

theorem dropHoldings_frame (ready : ∀ e ∈ s.reachedByEnd p, NoEndDue s e) {q : Port} (other : q ≠ p) :
    sessionFrame ((s.dropHoldings how p).session q) = sessionFrame (s.session q) := by
  rw [dropHoldings_session, if_neg other]
  exact (endedRuns_runsOver ready).moved q

theorem dropHoldings_heldCount (s : State) (how : SessionEnd) (p : Port) :
    ((s.dropHoldings how p).session p).heldCount = 0 := by rw [dropHoldings_session, if_pos rfl]

theorem dropHoldings_isOpen (s : State) (how : SessionEnd) (p q : Port) : (s.dropHoldings how p).isOpen q = s.isOpen q := by
  have runs : (endedRuns s how p).isOpen q = s.isOpen q :=
    (FieldRun.sameLedger (endedRuns_fieldRun how p (tickTimes_any s))).isOpen q
  rw [← runs]
  simp only [State.isOpen, State.openFields, dropHoldings_session]
  by_cases own : q = p
  · rw [if_pos own, own]
  · rw [if_neg own]

/-! ### The counters through step 1 -/

theorem setEngineState_tallied (s : State) (e : EngineNo) (st : EngineState) (p : Port) :
    Tallied s (s.setEngineState e st) p 0 0 :=
  .of_same (by simp) (by rw [State.session, State.setEngineState_sessions, State.session])

theorem silenceAll_tallied (s : State) (p : Port) (es : List EngineNo) :
    Tallied s (es.foldl State.silenceEngine s) p 0 0 := by
  induction es generalizing s with
  | nil => exact .of_same rfl rfl
  | cons e es ih =>
    have first : Tallied s (s.silenceEngine e) p 0 0 := by
      unfold State.silenceEngine
      split
      · exact .of_same rfl rfl
      · exact setEngineState_tallied s e .idle p
    exact first.trans (ih _)

/-- A run that ends gives its holder the record it makes. -/
theorem stopEngine_tallied {e : EngineNo} (held : s.holds p (engineResource e) = true) (isOpen : s.isOpen p = true)
    (outcome : EngineOutcome) :
    Tallied s (s.stopEngine outcome e) p (runsEnded s outcome (holderIs s) [e]).length
      (runsEnded s outcome (holderIs s) [e]).length := by
  by_cases idle : (s.engine e).state = .idle
  · rw [stopEngine_idle outcome idle]
    simpa [runsEnded, idle] using Tallied.of_same (s := s) (t := s) (p := p) rfl rfl
  · cases config : (s.engine e).config with
    | none =>
      rw [State.stopEngine, if_neg idle, config]
      simpa [runsEnded, config] using setEngineState_tallied s e .idle p
    | some c =>
      have told : ((s.setEngineState e .idle).holderSet (engineResource e)).get p = true := by
        rw [holderSet_setEngineState, holderSet_get]
        exact held
      have stillOpen : (s.setEngineState e .idle).isOpen p = true := by
        rw [isOpen_of_sameSessions (State.setEngineState_sessions s e .idle), isOpen]
      rw [stopEngine_run outcome config idle, State.finishRun, State.appendResult]
      have ended := (setEngineState_tallied s e .idle p).trans (append_tallied_own s.timeCount
        (.engineResult e c.mode outcome (partialResult (s.engine e) c.mode s.timeCount).1
          (partialResult (s.engine e) c.mode s.timeCount).2) told stillOpen)
      simpa [runsEnded, config, idle] using ended

theorem stopAll_tallied {es : List EngineNo} (nodup : es.Nodup) (held : ∀ e ∈ es, s.holds p (engineResource e) = true)
    (isOpen : s.isOpen p = true) (outcome : EngineOutcome) :
    Tallied s (es.foldl (fun s e => State.stopEngine s outcome e) s) p (runsEnded s outcome (holderIs s) es).length
      (runsEnded s outcome (holderIs s) es).length := by
  induction es generalizing s with
  | nil => exact .of_same rfl rfl
  | cons e es ih =>
    obtain ⟨fresh, nodup⟩ := List.nodup_cons.1 nodup
    have runs := stopEngine_runsOver s outcome e
    have first := stopEngine_tallied (held e List.mem_cons_self) isOpen outcome
    have still (x : EngineNo) (hx : x ∈ es) : (s.stopEngine outcome e).holds p (engineResource x) = true := by
      rw [State.holds, State.holderOf, State.entry, runs.tables.1]
      exact held x (List.mem_cons_of_mem e hx)
    have rest := ih nodup still ((isOpen_of_frame runs.moved p).trans isOpen)
    rw [runs.runsEnded_eq fresh] at rest
    have split : (runsEnded s outcome (holderIs s) (e :: es)).length =
        (runsEnded s outcome (holderIs s) [e]).length + (runsEnded s outcome (holderIs s) es).length := by
      rw [← List.length_append]
      exact congrArg _ (List.filterMap_append (l := [e]))
    rw [split]
    have both := first.trans rest
    rwa [Nat.add_comm (runsEnded s outcome (holderIs s) es).length] at both

theorem endedRuns_tallied (ready : ∀ e ∈ s.reachedByEnd p, NoEndDue s e) (isOpen : s.isOpen p = true) :
    Tallied s (endedRuns s how p) p (endStops s how p).length (endStops s how p).length := by
  have held (r : Resource) (inside : inSet (s.heldSet p) r = true) : s.holds p r = true := by rwa [← inSet_heldSet]
  unfold endedRuns endStops
  rw [catchUpAll_of_noEndDue ready]
  cases how with
  | close =>
    simp only [closes, if_true, ← stopResults_eq held]
    exact stopAll_tallied (nodup_enginesOf _) (fun e he => held _ (mem_enginesOf.1 he)) isOpen .stopped
  | lapse => exact silenceAll_tallied s p _
  | replace => exact silenceAll_tallied s p _

theorem dropHoldings_tallied (ready : ∀ e ∈ s.reachedByEnd p, NoEndDue s e) (isOpen : s.isOpen p = true) :
    Tallied s (s.dropHoldings how p) p (endStops s how p).length (endStops s how p).length := by
  obtain ⟨-, -, -, journal, -⟩ := letGo_rest (endedRuns s how p) (s.heldSet p) (leaseAfterEnd how p)
  have dropped : Tallied (endedRuns s how p) (s.dropHoldings how p) p 0 0 := .of_same
    (by rw [dropHoldings_eq, State.withSession_journal, journal]) (by rw [dropHoldings_session, if_pos rfl]; rfl)
  simpa using (endedRuns_tallied ready isOpen).trans dropped

end Dropped

end Sys2Proof.Proofs
end


section
/-! PROOFS. The end of a session, step 2 (R35, R56): the offers that the port is party to are cancelled, each with a record for
the other party. -/

namespace Sys2Proof.Proofs

open Sys2Proof.Machine Sys2Proof.Safety Sys2Proof.Laws

/-! ### A run of cancellations -/

/-- The other party of an offer of the ending session. -/
def otherParty (p : Port) (o : Offer) : Port := if o.offerer = p then o.target else o.offerer

/-- The record of a cancellation (R56). -/
def cancellation (p : Port) (o : Offer) : (Port → Bool) × RecordBody :=
  (fun q => decide (q = otherParty p o), .offerSettled o.offerer o.id .cancelled)

/-- A lease entry once an offer is cancelled: what was offered to the ending session returns to its offerer. -/
def returnEntry (p : Port) (r : Resource) (x : LeaseEntry) (o : Offer) : LeaseEntry :=
  if o.offerer ≠ p ∧ inSet o.set r = true then { x with state := .held o.offerer } else x

/-- The offers of a list were cancelled. -/
structure Cancelled (s t : State) (p : Port) (l : List Offer) : Prop where
  journal : (t.journal, t.nextSeq) = withRecords s.isOpen (s.journal, s.nextSeq) s.timeCount (l.map (cancellation p))
  moved : OnlyJournalMoved s t
  field : SameField s t
  outside : SameOutside s t
  entries : ∀ r, t.entry r = l.foldl (returnEntry p r) (s.entry r)
  offers : t.offers = s.offers.filter fun x => decide (∀ o ∈ l, x.id ≠ o.id)
  counters : t.offerCounter = s.offerCounter ∧ t.ticketCounter = s.ticketCounter
  waitList : t.waitList = s.waitList
  tally : Tallied s t p 0 l.length

section Cancelled

variable {s t u : State} {p : Port} {o : Offer} {l : List Offer}

theorem Cancelled.refl (s : State) (p : Port) : Cancelled s s p [] :=
  ⟨rfl, fun _ => rfl, ⟨rfl, rfl⟩, .refl s, fun _ => rfl, by simp, ⟨rfl, rfl⟩, rfl, .of_same rfl rfl⟩

theorem Cancelled.cons (h : Cancelled s t p [o]) (k : Cancelled t u p l) : Cancelled s u p (o :: l) where
  journal := by
    have split := withRecords_append s.isOpen (s.journal, s.nextSeq) s.timeCount [cancellation p o] (l.map (cancellation p))
    refine Eq.trans ?_ split.symm
    have first : (t.journal, t.nextSeq) = withRecords s.isOpen (s.journal, s.nextSeq) s.timeCount [cancellation p o] := h.journal
    rw [← first, k.journal, funext (isOpen_of_frame h.moved), h.outside.timeCount]
  moved q := (k.moved q).trans (h.moved q)
  field := ⟨k.field.1.trans h.field.1, k.field.2.trans h.field.2⟩
  outside := h.outside.trans k.outside
  entries r := by rw [k.entries, h.entries, List.foldl_cons, List.foldl_cons, List.foldl_nil]
  offers := by
    rw [k.offers, h.offers, List.filter_filter]
    refine List.filter_congr fun x _ => ?_
    simp only [List.mem_cons, List.not_mem_nil, or_false, forall_eq, forall_eq_or_imp, Bool.decide_and, Bool.and_comm]
  counters := ⟨k.counters.1.trans h.counters.1, k.counters.2.trans h.counters.2⟩
  waitList := k.waitList.trans h.waitList
  tally := by
    have both := h.tally.trans k.tally
    simpa [Nat.add_comm] using both

/-- The tables change at an offer, and the other party is told. -/
theorem cancelled_of_told {v : State} (sessions : v.sessions = s.sessions) (journal : v.journal = s.journal)
    (nextSeq : v.nextSeq = s.nextSeq) (field : SameField s v) (outside : SameOutside s v)
    (entries : ∀ r, v.entry r = returnEntry p r (s.entry r) o)
    (offers : v.offers = s.offers.filter fun x => decide (x.id ≠ o.id)) (offerCounter : v.offerCounter = s.offerCounter)
    (ticketCounter : v.ticketCounter = s.ticketCounter) (waitList : v.waitList = s.waitList)
    (other : otherParty p o ≠ p) (isOpen : s.isOpen (otherParty p o) = true) :
    Cancelled s (v.appendSettled o .cancelled (onlyPort (otherParty p o))) p [o] := by
  have same : v.isOpen = s.isOpen := isOpen_of_sameSessions sessions
  have session (q : Port) : v.session q = s.session q := by rw [State.session, sessions, State.session]
  have made := appended_append v (onlyPort (otherParty p o)) v.timeCount (.offerSettled o.offerer o.id .cancelled)
  have told : (onlyPort (otherParty p o)).get = fun q => decide (q = otherParty p o) := funext fun q => PerPort.get_of _ q
  rw [Appended, same, journal, nextSeq, outside.timeCount, told] at made
  obtain ⟨leases', offers', offerCounter', waitList', ticketCounter'⟩ := append_tables v (onlyPort (otherParty p o)) v.timeCount
    (.offerSettled o.offerer o.id .cancelled)
  obtain ⟨lines', engines'⟩ := append_field v (onlyPort (otherParty p o)) v.timeCount (.offerSettled o.offerer o.id .cancelled)
  have quiet : Tallied s v p 0 0 := .of_same journal (by rw [session])
  have tally := quiet.trans (append_tallied_other v.timeCount (.offerSettled o.offerer o.id .cancelled) other
    ((congrFun same _).trans isOpen))
  rw [State.appendSettled]
  refine ⟨?_, fun q => ?_, ⟨lines'.trans field.1, engines'.trans field.2⟩, outside.trans (append_outside _ _ _ _), fun r => ?_, ?_,
    ⟨offerCounter'.trans offerCounter, ticketCounter'.trans ticketCounter⟩, waitList'.trans waitList, tally⟩
  · rw [outside.timeCount]
    exact made
  · rw [append_moved, session]
  · rw [append_entry, entries]
    rfl
  · rw [offers', offers]
    simp

theorem cancelOffer_cancelled (ready : o.offerer ≠ p → ∀ e ∈ enginesOf o.set, NoEndDue s e) (other : otherParty p o ≠ p)
    (isOpen : s.isOpen (otherParty p o) = true) : Cancelled s (s.cancelOffer p o) p [o] := by
  unfold State.cancelOffer
  by_cases own : o.offerer = p
  · have party : otherParty p o = o.target := if_pos own
    rw [if_pos own, ← party]
    refine cancelled_of_told (removeOffer_sessions s o.id) ?_ ?_ ?_ (removeOffer_outside s o.id) (fun r => ?_) rfl ?_ ?_ ?_ other isOpen
    · simp [State.removeOffer]
    · simp [State.removeOffer]
    · simp [SameField, State.removeOffer]
    · rw [removeOffer_entry, returnEntry, if_neg fun h => h.1 own]
    · simp [State.removeOffer]
    · simp [State.removeOffer]
    · simp [State.removeOffer]
  · have party : otherParty p o = o.offerer := if_neg own
    obtain ⟨sessions, -, -, waitList, offers⟩ := givenBack_rest s o
    obtain ⟨offerCounter, ticketCounter, journal, nextSeq⟩ := givenBack_counters s o
    rw [if_neg own, returnOffer_eq, catchUpAll_of_noEndDue (ready own), ← party]
    refine cancelled_of_told sessions journal nextSeq (givenBack_field s o) (givenBack_outside s o) (fun r => ?_) offers
      offerCounter ticketCounter waitList other isOpen
    rw [givenBack_entry, returnEntry]
    simp only [own, ne_eq, not_false_eq_true, true_and]

/-- A change of the field or the time that keeps an engine keeps its end from being due. -/
theorem noEndDue_congr {e : EngineNo} (engine : t.engine e = s.engine e) (time : t.timeCount = s.timeCount) (calm : NoEndDue s e) :
    NoEndDue t e := by
  unfold NoEndDue State.endDue at calm ⊢
  rwa [engine, time]

theorem cancelAll_cancelled (ready : ∀ o ∈ l, o.offerer ≠ p → ∀ e ∈ enginesOf o.set, NoEndDue s e)
    (others : ∀ o ∈ l, otherParty p o ≠ p ∧ s.isOpen (otherParty p o) = true) :
    Cancelled s (l.foldl (State.cancelOffer p) s) p l := by
  induction l generalizing s with
  | nil => exact .refl s p
  | cons o l ih =>
    obtain ⟨other, isOpen⟩ := others o List.mem_cons_self
    have first := cancelOffer_cancelled (ready o List.mem_cons_self) other isOpen
    refine first.cons (ih (fun x hx received e he => ?_) fun x hx => ?_)
    · exact noEndDue_congr (by rw [State.engine, first.field.2, State.engine]) first.outside.timeCount
        (ready x (List.mem_cons_of_mem o hx) received e he)
    · obtain ⟨other', isOpen'⟩ := others x (List.mem_cons_of_mem o hx)
      exact ⟨other', (isOpen_of_frame first.moved _).trans isOpen'⟩

end Cancelled

end Sys2Proof.Proofs
end


section
/-! PROOFS. What the first steps of a session's end leave in the lease table and the journal (R35). -/

namespace Sys2Proof.Proofs

open Sys2Proof.Machine Sys2Proof.Safety Sys2Proof.Laws

/-! ### The lease entries -/

section Entries

variable {s : State} {p : Port} {r : Resource} {x : LeaseEntry} {l : List Offer} {after : LeaseState}

/-- The offer is made to the ending session and names the resource. -/
def Returns (p : Port) (r : Resource) (o : Offer) : Prop := o.offerer ≠ p ∧ inSet o.set r = true

theorem foldl_returnEntry_of_none (none_names : ∀ o ∈ l, ¬Returns p r o) : l.foldl (returnEntry p r) x = x := by
  induction l with
  | nil => rfl
  | cons o l ih =>
    have stays : returnEntry p r x o = x := if_neg (none_names o List.mem_cons_self)
    rw [List.foldl_cons, stays]
    exact ih fun o' h => none_names o' (List.mem_cons_of_mem o h)

/-- All that name the resource have one offerer, to whom it returns. -/
theorem foldl_returnEntry_of_some {q : Port} (same : ∀ o ∈ l, Returns p r o → o.offerer = q) (named : ∃ o ∈ l, Returns p r o) :
    l.foldl (returnEntry p r) x = { x with state := .held q } := by
  induction l generalizing x with
  | nil => obtain ⟨o, mem, -⟩ := named; cases mem
  | cons o l ih =>
    have same' (o' : Offer) (h : o' ∈ l) := same o' (List.mem_cons_of_mem o h)
    have first : returnEntry p r x o = { x with state := .held q } ∨ returnEntry p r x o = x := by
      unfold returnEntry
      split
      · next names => exact .inl (by rw [same o List.mem_cons_self names])
      · exact .inr rfl
    rw [List.foldl_cons]
    by_cases later : ∃ o ∈ l, Returns p r o
    · rw [ih same' later]
      rcases first with moved | kept
      · rw [moved]
      · rw [kept]
    · have alone : Returns p r o := by
        obtain ⟨o', mem, names⟩ := named
        rcases List.mem_cons.1 mem with rfl | mem'
        · exact names
        · exact absurd ⟨o', mem', names⟩ later
      have moved : returnEntry p r x o = { x with state := .held o.offerer } := if_pos alone
      rw [foldl_returnEntry_of_none fun o' mem names => later ⟨o', mem, names⟩, moved, same o List.mem_cons_self alone]

/-- Ids are unique: an open offer is found by its own. -/
theorem offer_of_mem (wf : OffersWf s) {o : Offer} (mem : o ∈ s.offers) : s.offer o.id = some o := by
  have found : (s.offer o.id).isSome := List.find?_isSome.2 ⟨o, mem, decide_eq_true rfl⟩
  obtain ⟨x, hx⟩ := Option.isSome_iff_exists.1 found
  rw [hx, ((offersWf_iff s).1 wf).unique mem (offer_mem hx) (offer_id hx)]

/-- What a resource's state says of the offers made to the ending session that name it. -/
theorem offered_of_returns (wf : OffersWf s) {o : Offer} (mem : o ∈ partyOffers s p) (returns : Returns p r o) :
    (s.entry r).state = .offered o.offerer o.id ∧ s.offer o.id = some o ∧ o.target = p := by
  obtain ⟨member, party⟩ := mem_partyOffers.1 mem
  obtain ⟨other, inside⟩ := returns
  have found := offer_of_mem wf member
  exact ⟨marked_of_offersWf wf found r inside, found, party.resolve_left other⟩

theorem entry_with_state {st : LeaseState} (same : x.state = st) : { x with state := st } = x := by rw [← same]

/-- The entry after the cancellations is the one that the end of the session leaves: what the port held keeps the state of
step 1, and what was offered to it returns. -/
theorem entry_after_steps (wf : OffersWf s) (after : LeaseState) (r : Resource) :
    (partyOffers s p).foldl (returnEntry p r)
        (if inSet (s.heldSet p) r then { s.entry r with state := after } else s.entry r) =
      entryAfterEnd s p after r := by
  have names {o : Offer} (mem : o ∈ partyOffers s p) (returns : Returns p r o) := offered_of_returns wf mem returns
  have unreturned (other : ∀ o ∈ s.offers, (s.entry r).state = .offered o.offerer o.id → o.target = p → o.offerer = p) :
      ∀ o ∈ partyOffers s p, ¬Returns p r o := fun o mem returns =>
    have ⟨offered, _, target⟩ := names mem returns
    returns.1 (other o (mem_partyOffers.1 mem).1 offered target)
  have held : inSet (s.heldSet p) r = decide ((s.entry r).state.holder = some p) := inSet_heldSet s p r
  unfold entryAfterEnd
  cases state : (s.entry r).state with
  | free =>
    rw [foldl_returnEntry_of_none (unreturned fun o _ offered => by rw [state] at offered; cases offered), held, state,
      entry_with_state state]
    rfl
  | orphaned q =>
    rw [foldl_returnEntry_of_none (unreturned fun o _ offered => by rw [state] at offered; cases offered), held, state]
    exact (entry_with_state state).symm
  | held q =>
    rw [foldl_returnEntry_of_none (unreturned fun o _ offered => by rw [state] at offered; cases offered), held, state,
      holder_held]
    by_cases own : q = p
    · simp [own]
    · simp [own, entry_with_state state]
  | offered q id =>
    rw [held, state, holder_offered]
    by_cases own : q = p
    · rw [foldl_returnEntry_of_none (unreturned fun o _ offered _ => by
        rw [state] at offered
        cases offered
        exact own)]
      simp [own]
    · have ⟨_, _, _, offers⟩ := wf
      obtain ⟨o, mem, rfl, rfl, inside⟩ := offers r q id state
      have kept : (if decide (some o.offerer = some p) = true then { s.entry r with state := after } else s.entry r) =
          s.entry r := by simp [own]
      rw [kept]
      simp only [own, if_false, offer_of_mem wf mem]
      by_cases target : o.target = p
      · refine (foldl_returnEntry_of_some (q := o.offerer) (fun o' mem' returns => ?_)
          ⟨o, mem_partyOffers.2 ⟨mem, .inr target⟩, own, inside⟩).trans ?_
        · have offered := (names mem' returns).1
          rw [state] at offered
          exact (LeaseState.offered.inj offered).1.symm
        · simp [target]
      · rw [foldl_returnEntry_of_none fun o' mem' returns => ?_]
        · simp [target, entry_with_state state]
        · obtain ⟨offered, found, target'⟩ := names mem' returns
          rw [state] at offered
          rw [← (LeaseState.offered.inj offered).2, offer_of_mem wf mem] at found
          exact target (Option.some.inj found ▸ target')

end Entries

end Sys2Proof.Proofs
end


section
/-! PROOFS. The end of a session up to the examination (R35 steps 1 to 5): what it leaves, and its records. -/

namespace Sys2Proof.Proofs

open Sys2Proof.Machine Sys2Proof.Safety Sys2Proof.Laws

/-! ### Step 2: the offers that the port is party to -/

section Steps

variable {s : State} {p : Port} {how : SessionEnd}

/-- The other party of an offer is OPEN, and not the port. -/
theorem otherParty_isOpen (wf : OffersWf s) {o : Offer} (mem : o ∈ partyOffers s p) :
    otherParty p o ≠ p ∧ s.isOpen (otherParty p o) = true := by
  obtain ⟨-, -, parties, -⟩ := wf
  obtain ⟨-, differ, offerer, target, -⟩ := parties o (mem_partyOffers.1 mem).1
  unfold otherParty
  split
  · next own => exact ⟨own ▸ differ, target⟩
  · next other => exact ⟨other, offerer⟩

/-- The engines of what is offered to the port are reached by its end, and no end of theirs becomes due in step 1. -/
theorem noEndDue_of_received (ready : ∀ e ∈ s.reachedByEnd p, NoEndDue s e) {o : Offer} (mem : o ∈ partyOffers s p)
    (received : o.offerer ≠ p) : ∀ e ∈ enginesOf o.set, NoEndDue (s.dropHoldings how p) e := by
  intro e he
  obtain ⟨member, party⟩ := mem_partyOffers.1 mem
  have freed := dropHoldings_setFreed (how := how) ready
  cases inside : inSet (s.heldSet p) (engineResource e) with
  | true => exact noEndDue_of_idle (by rw [freed.engines e, if_pos inside])
  | false =>
    refine noEndDue_congr (by rw [freed.engines e, inside, if_neg Bool.false_ne_true]) freed.outside.timeCount (ready e ?_)
    exact mem_reachedByEnd.2 (.inr ⟨o, member, party.resolve_left received, mem_enginesOf.1 he⟩)

theorem partyOffers_dropHoldings (ready : ∀ e ∈ s.reachedByEnd p, NoEndDue s e) :
    partyOffers (s.dropHoldings how p) p = partyOffers s p := by
  rw [partyOffers, (dropHoldings_setFreed ready).offers.1, partyOffers]

theorem cancelOffers_cancelled (ready : ∀ e ∈ s.reachedByEnd p, NoEndDue s e) (wf : OffersWf s) :
    Cancelled (s.dropHoldings how p) ((s.dropHoldings how p).cancelOffers p) p (partyOffers s p) := by
  have all := cancelAll_cancelled (s := s.dropHoldings how p) (p := p) (l := partyOffers s p)
    (fun o mem received => noEndDue_of_received ready mem received) fun o mem => by
      rw [dropHoldings_isOpen]
      exact otherParty_isOpen wf mem
  rw [← partyOffers_dropHoldings (how := how) ready] at all
  rw [← partyOffers_dropHoldings (how := how) ready]
  exact all

/-- The records of the cancellations, those of the offers made before those of the offers received. -/
theorem map_cancellation (wf : OffersWf s) : (partyOffers s p).map (cancellation p) = cancellations s p := by
  obtain ⟨-, -, parties, -⟩ := wf
  have received : (s.offers.filter fun o => decide (o.target = p ∧ o.offerer ≠ p)) =
      s.offers.filter fun o => decide (o.target = p) := by
    refine List.filter_congr fun o mem => ?_
    obtain ⟨-, differ, -⟩ := parties o mem
    exact decide_eq_decide.2 ⟨And.left, fun target => ⟨target, fun own => differ (target.trans own.symm)⟩⟩
  rw [partyOffers, List.map_append, cancellations, received]
  congr 1
  · refine List.map_congr_left fun o mem => ?_
    have own := of_decide_eq_true (List.mem_filter.1 mem).2
    simp only [cancellation, otherParty, own, if_true]
  · refine List.map_congr_left fun o mem => ?_
    have target := of_decide_eq_true (List.mem_filter.1 mem).2
    obtain ⟨-, differ, -⟩ := parties o (List.mem_filter.1 mem).1
    simp only [cancellation, otherParty, if_neg fun own : o.offerer = p => differ (target.trans own.symm)]

theorem offers_after_steps (wf : OffersWf s) :
    (s.offers.filter fun x => decide (∀ o ∈ partyOffers s p, x.id ≠ o.id)) =
      s.offers.filter fun o => decide (o.offerer ≠ p ∧ o.target ≠ p) := by
  refine List.filter_congr fun x mem => decide_eq_decide.2 ⟨fun h => ?_, fun h o mem' same => ?_⟩
  · exact not_or.1 fun party => h x (mem_partyOffers.2 ⟨mem, party⟩) rfl
  · obtain ⟨member, party⟩ := mem_partyOffers.1 mem'
    have own : x = o := ((offersWf_iff s).1 wf).unique member mem same
    exact not_or.2 h (own ▸ party)

end Steps

/-! ### Steps 3 to 5: claims, journal interest and the report -/

/-- The claim and the journal interest of a port were removed, and records for others made: `journal` is the journal left. -/
structure Withdrawn (c y : State) (p : Port) (journal : List Record × Seq) : Prop where
  journal : (y.journal, y.nextSeq) = journal
  leases : y.leases = c.leases
  field : SameField c y
  offers : y.offers = c.offers
  counters : y.offerCounter = c.offerCounter ∧ y.ticketCounter = c.ticketCounter
  waitList : y.waitList = c.waitList.filter fun w => decide (w.port ≠ p)
  outside : SameOutside c y
  isOpen : ∀ q, y.isOpen q = c.isOpen q
  others : ∀ q, q ≠ p → sessionFrame (y.session q) = sessionFrame (c.session q)
  tally : tallyOf (y.session p) = tallyOf (c.session p)
  count : (y.session p).heldCount = (c.session p).heldCount
  none_left : y.records p = []

section Withdrawn

variable {s c y : State} {p : Port} {how : SessionEnd}

/-- Changing the fields of an OPEN session moves none of its counters. -/
theorem withOpen_counts (s : State) (p : Port) (f : OpenSession → OpenSession) :
    tallyOf ((s.withOpen p f).session p) = tallyOf (s.session p) ∧
      ((s.withOpen p f).session p).heldCount = (s.session p).heldCount := by
  rw [State.session_withOpen, if_pos rfl]
  split <;> exact ⟨rfl, rfl⟩

theorem interest_withdrawn (c : State) (p : Port) :
    Withdrawn c ((c.removeClaims p).dropJournalInterest p) p (withoutInterest p c.journal, c.nextSeq) where
  journal := by
    rw [dropJournalInterest_journal, removeInterest_eq_flatMap]
    simp [State.dropJournalInterest, State.withJournal, State.removeClaims, State.withWaitList, withoutInterest]
  leases := by simp [State.dropJournalInterest, State.removeClaims]
  field := by simp [SameField, State.dropJournalInterest, State.removeClaims]
  offers := by simp [State.dropJournalInterest, State.removeClaims]
  counters := by simp [State.dropJournalInterest, State.removeClaims]
  waitList := by simp [State.dropJournalInterest, State.removeClaims]
  outside := (removeClaims_outside c p).trans (dropJournalInterest_outside _ p)
  isOpen q := by
    rw [isOpen_dropJournalInterest]
    rfl
  others q other := by
    rw [dropJournalInterest_own p q other]
    rfl
  tally := (withOpen_counts _ p _).1
  count := (withOpen_counts _ p _).2
  none_left := records_dropJournalInterest p

/-- What is reported to the other sessions. -/
theorem Withdrawn.append {journal : List Record × Seq} (h : Withdrawn c y p journal) {ps : PortSet} (body : RecordBody)
    (notTold : ps.get p = false) :
    Withdrawn c (y.append ps y.timeCount body) p (withRecord c.isOpen journal ps.get c.timeCount body) where
  journal := by
    have made := appended_append y ps y.timeCount body
    rw [Appended, h.journal, funext h.isOpen] at made
    rw [made, h.outside.timeCount]
  leases := (append_tables y ps y.timeCount body).1.trans h.leases
  field := by
    obtain ⟨lines, engines⟩ := append_field y ps y.timeCount body
    exact ⟨lines.trans h.field.1, engines.trans h.field.2⟩
  offers := (append_tables y ps y.timeCount body).2.1.trans h.offers
  counters := by
    obtain ⟨-, -, offerCounter, -, ticketCounter⟩ := append_tables y ps y.timeCount body
    exact ⟨offerCounter.trans h.counters.1, ticketCounter.trans h.counters.2⟩
  waitList := (append_tables y ps y.timeCount body).2.2.2.1.trans h.waitList
  outside := h.outside.trans (append_outside _ _ _ _)
  isOpen q := (isOpen_of_frame (append_moved _ _ _ _) q).trans (h.isOpen q)
  others q other := (append_moved _ _ _ _ q).trans (h.others q other)
  tally := (append_tally_same _ body notTold h.none_left).trans h.tally
  count := (heldCount_of_frame (append_moved _ _ _ _ p)).trans h.count
  none_left := records_append_nil _ _ notTold h.none_left

/-- The journal after the report of what a lapse or a replace orphaned. -/
def journalReported (how : SessionEnd) (p : Port) (lost : ResourceSet) (isOpen : Port → Bool) (time : Count)
    (journal : List Record × Seq) : List Record × Seq :=
  if closes how = true ∨ lost = 0 then journal
  else withRecord isOpen journal (fun q => decide (q ≠ p)) time (.leaseLost p lost)

theorem Withdrawn.reportLost {journal : List Record × Seq} (h : Withdrawn c y p journal) (how : SessionEnd) (lost : ResourceSet) :
    Withdrawn c (y.reportLost how p lost) p (journalReported how p lost c.isOpen c.timeCount journal) := by
  have told : (otherPorts p).get = fun q => decide (q ≠ p) := funext fun q => PerPort.get_of _ q
  have append := h.append (ps := otherPorts p) (.leaseLost p lost) (by simp [otherPorts])
  rw [told] at append
  unfold State.reportLost journalReported
  cases how with
  | close => exact h
  | lapse =>
    simp only [closes, Bool.false_eq_true, false_or]
    split
    · exact h
    · exact append
  | replace =>
    simp only [closes, Bool.false_eq_true, false_or]
    split
    · exact h
    · exact append

end Withdrawn

end Sys2Proof.Proofs
end


section
/-! PROOFS. What the end of a session leaves before and after the examination (R35, R37, R38). -/

namespace Sys2Proof.Proofs

open Sys2Proof.Machine Sys2Proof.Safety Sys2Proof.Laws

/-! ### Before the examination -/

section Leaves

variable {s t u : State} {p : Port} {how : SessionEnd}

theorem effectiveDrive_congr {l : Line} (entry : t.entry (lineResource l) = s.entry (lineResource l)) (line : t.line l = s.line l)
    (force : t.force = s.force) (profile : t.profile = s.profile) : t.effectiveDrive l = s.effectiveDrive l := by
  unfold State.effectiveDrive
  rw [entry, line, force, profile]

theorem engineDrive_congr {e : EngineNo} (entry : t.entry (engineResource e) = s.entry (engineResource e))
    (engine : t.engine e = s.engine e) (force : t.force = s.force) : t.engineDrive e = s.engineDrive e := by
  unfold State.engineDrive
  rw [entry, engine, force]

theorem decidedAgain_congr {l : Line} (drive : t.effectiveDrive l = s.effectiveDrive l) (profile : t.profile = s.profile)
    (c : LineCell) : decidedAgain t l c = decidedAgain s l c := by
  unfold decidedAgain
  rw [drive, profile]

/-- The offers cancelled after step 1. -/
def offersCancelled (s : State) (how : SessionEnd) (p : Port) : State := (s.dropHoldings how p).cancelOffers p

theorem endReported_withdrawn (s : State) (how : SessionEnd) (p : Port) :
    Withdrawn (offersCancelled s how p) (endReported s how p) p
      (journalReported how p (s.heldSet p) (offersCancelled s how p).isOpen (offersCancelled s how p).timeCount
        (withoutInterest p (offersCancelled s how p).journal, (offersCancelled s how p).nextSeq)) :=
  (interest_withdrawn _ p).reportLost how _

section Ready

variable (ready : ∀ e ∈ s.reachedByEnd p, NoEndDue s e) (wf : OffersWf s)

include ready wf

theorem offersCancelled_journal :
    ((offersCancelled s how p).journal, (offersCancelled s how p).nextSeq) =
      withRecords s.isOpen (s.journal, s.nextSeq) s.timeCount (endRecords s p (closes how)) := by
  have freed := dropHoldings_setFreed (how := how) ready
  have cancelled := cancelOffers_cancelled (how := how) ready wf
  have journal := cancelled.journal
  rw [funext (dropHoldings_isOpen s how p), freed.journal, freed.outside.timeCount, ← withRecords_append,
    map_cancellation wf] at journal
  exact journal

theorem offersCancelled_outside : SameOutside s (offersCancelled s how p) :=
  (dropHoldings_setFreed ready).outside.trans (cancelOffers_cancelled ready wf).outside

theorem offersCancelled_isOpen (q : Port) : (offersCancelled s how p).isOpen q = s.isOpen q :=
  (isOpen_of_frame (cancelOffers_cancelled ready wf).moved q).trans (dropHoldings_isOpen s how p q)

theorem endReported_journal :
    ((endReported s how p).journal, (endReported s how p).nextSeq) = endJournal s p (closes how) := by
  have journal := offersCancelled_journal (how := how) ready wf
  rw [(endReported_withdrawn s how p).journal, funext (offersCancelled_isOpen ready wf),
    (offersCancelled_outside ready wf).timeCount, endJournal, ← journal]
  rfl

theorem endReported_entry (r : Resource) : (endReported s how p).entry r = entryAfterEnd s p (leaseAfterEnd how p) r := by
  rw [State.entry, (endReported_withdrawn s how p).leases, ← State.entry, ← entry_after_steps wf,
    ← (dropHoldings_setFreed ready).entries r]
  exact (cancelOffers_cancelled ready wf).entries r

/-- What the port held keeps the entry of step 1. -/
theorem endReported_entry_held {r : Resource} (held : s.holds p r = true) :
    (endReported s how p).entry r = (s.dropHoldings how p).entry r := by
  rw [State.entry, (endReported_withdrawn s how p).leases, ← State.entry]
  refine ((cancelOffers_cancelled ready wf).entries r).trans (foldl_returnEntry_of_none fun o mem returns => returns.1 ?_)
  have offered := (offered_of_returns wf mem returns).1
  rw [holds_iff_holder, offered, holder_offered] at held
  exact Option.some.inj held

theorem endReported_field : SameField (s.dropHoldings how p) (endReported s how p) := by
  have cancelled := (cancelOffers_cancelled (how := how) ready wf).field
  have withdrawn := (endReported_withdrawn s how p).field
  exact ⟨withdrawn.1.trans cancelled.1, withdrawn.2.trans cancelled.2⟩

theorem endReported_outside_dropped : SameOutside (s.dropHoldings how p) (endReported s how p) :=
  (cancelOffers_cancelled ready wf).outside.trans (endReported_withdrawn s how p).outside

theorem endReported_line (l : Line) : (endReported s how p).line l =
    if s.holds p (lineResource l) then decidedAgain (endReported s how p) l (s.line l) else s.line l := by
  have freed := (dropHoldings_setFreed (how := how) ready).lines l
  have same : (endReported s how p).line l = (s.dropHoldings how p).line l := by
    rw [State.line, (endReported_field ready wf).1, State.line]
  have outside := endReported_outside_dropped (how := how) ready wf
  rw [same, freed, inSet_heldSet]
  split
  · next held =>
    exact (decidedAgain_congr (effectiveDrive_congr (endReported_entry_held ready wf held) same outside.force outside.profile)
      outside.profile _).symm
  · rfl

theorem endReported_engine (e : EngineNo) : (endReported s how p).engine e =
    if s.holds p (engineResource e) then { s.engine e with state := .idle, out := (endReported s how p).engineDrive e }
    else s.engine e := by
  have freed := (dropHoldings_setFreed (how := how) ready).engines e
  have same : (endReported s how p).engine e = (s.dropHoldings how p).engine e := by
    rw [State.engine, (endReported_field ready wf).2, State.engine]
  have outside := endReported_outside_dropped (how := how) ready wf
  rw [same, freed, inSet_heldSet]
  split
  · next held => rw [engineDrive_congr (endReported_entry_held ready wf held) same outside.force]
  · rfl

/-- Steps 1 to 5 leave what the statements say. -/
theorem endReported_leaves (isOpen : s.isOpen p = true) :
    EndLeaves s (endReported s how p) p (leaseAfterEnd how p) (closes how) := by
  have freed := dropHoldings_setFreed (how := how) ready
  have cancelled := cancelOffers_cancelled (how := how) ready wf
  have withdrawn := endReported_withdrawn s how p
  refine ⟨endReported_journal ready wf, endReported_entry ready wf, endReported_line ready wf, endReported_engine ready wf, ?_, ?_,
    fun q other => ?_, ?_, ?_, ?_, ?_, ?_⟩
  · rw [withdrawn.isOpen, offersCancelled_isOpen ready wf, isOpen]
  · rw [withdrawn.count]
    exact (heldCount_of_frame (cancelled.moved p)).trans (dropHoldings_heldCount s how p)
  · exact ((withdrawn.others q other).trans (cancelled.moved q)).trans (dropHoldings_frame ready other)
  · rw [withdrawn.offers, ← offers_after_steps wf, ← freed.offers.1]
    exact cancelled.offers
  · exact (withdrawn.counters.1.trans cancelled.counters.1).trans freed.offers.2
  · rw [withdrawn.waitList, ← freed.waiting.1, ← cancelled.waitList]
    rfl
  · exact (withdrawn.counters.2.trans cancelled.counters.2).trans freed.waiting.2
  · exact ((offersCancelled_outside ready wf).trans withdrawn.outside).1

/-- The counters through steps 1 and 2. -/
theorem offersCancelled_tallied (isOpen : s.isOpen p = true) :
    Tallied s (offersCancelled s how p) p (endStops s how p).length (endRecords s p (closes how)).length := by
  have both := (dropHoldings_tallied (how := how) ready isOpen).trans (cancelOffers_cancelled ready wf).tally
  rw [Nat.zero_add] at both
  have count : (endRecords s p (closes how)).length = (endStops s how p).length + (partyOffers s p).length := by
    rw [endRecords, ← map_cancellation wf, List.length_append, List.length_map]
    rfl
  rw [count]
  exact both

end Ready

end Leaves

end Sys2Proof.Proofs
end


section
/-! PROOFS. What the end of a session leaves after the examination (R35, R37, R38, R66). -/

namespace Sys2Proof.Proofs

open Sys2Proof.Machine Sys2Proof.Safety Sys2Proof.Laws

/-! ### After the examination -/

section View

variable {s t u : State} {p : Port} {after : LeaseState} {closing : Bool}

theorem sameRest_trans {v : State} (h : SameRest s t) (k : SameRest t v) : SameRest s v := by
  obtain ⟨a1, a2, a3, a4, a5, a6, a7, a8⟩ := h
  obtain ⟨b1, b2, b3, b4, b5, b6, b7, b8⟩ := k
  exact ⟨b1.trans a1, b2.trans a2, b3.trans a3, b4.trans a4, b5.trans a5, b6.trans a6, b7.trans a7, b8.trans a8⟩

/-- What a state that is an examination beside ports, sessions and outputs shares with it. -/
structure SeesAs (v t : State) : Prop where
  leases : t.leases = v.leases
  lines : t.lines = v.lines
  engines : t.engines = v.engines
  offers : t.offers = v.offers ∧ t.offerCounter = v.offerCounter ∧ t.ticketCounter = v.ticketCounter
  waitList : t.waitList = v.waitList
  journal : t.journal = v.journal ∧ t.nextSeq = v.nextSeq
  rest : SameRest v t

theorem seesAs_of_examinedBeside (h : ExaminedBeside u t p) : SeesAs u.examine t := by
  obtain ⟨same, -⟩ := h
  generalize u.examine = v at same
  exact ⟨(congrArg State.leases same :), (congrArg State.lines same :), (congrArg State.engines same :),
    ⟨(congrArg State.offers same :), (congrArg State.offerCounter same :), (congrArg State.ticketCounter same :)⟩,
    (congrArg State.waitList same :), ⟨(congrArg State.journal same :), (congrArg State.nextSeq same :)⟩,
    (congrArg State.force same :), (congrArg State.timeCount same :), (congrArg State.profile same :), (congrArg State.resetCause same :),
    (congrArg State.inReset same :), (congrArg State.i2cAddress same :), (congrArg State.freeCount same :), (congrArg State.pending same :)⟩

section SeesAs

variable {v : State} (h : SeesAs v t)

include h

theorem SeesAs.entry (r : Resource) : t.entry r = v.entry r := by rw [State.entry, h.leases, State.entry]

theorem SeesAs.line (l : Line) : t.line l = v.line l := by rw [State.line, h.lines, State.line]

theorem SeesAs.engine (e : EngineNo) : t.engine e = v.engine e := by rw [State.engine, h.engines, State.engine]

theorem SeesAs.effectiveDrive (l : Line) : t.effectiveDrive l = v.effectiveDrive l :=
  effectiveDrive_congr (h.entry _) (h.line l) h.rest.1 h.rest.2.2.1

theorem SeesAs.engineDrive (e : EngineNo) : t.engineDrive e = v.engineDrive e :=
  engineDrive_congr (h.entry _) (h.engine e) h.rest.1

theorem SeesAs.decidedAgain (l : Line) (c : LineCell) : decidedAgain t l c = decidedAgain v l c :=
  decidedAgain_congr (h.effectiveDrive l) h.rest.2.2.1 c

theorem SeesAs.away (k : Away v p) : Away t p where
  holds r := by
    rw [State.holds, State.holderOf, h.entry]
    exact k.holds r
  offers := h.offers.1 ▸ k.offers
  waits := h.waitList ▸ k.waits

end SeesAs

/-! ### The clauses of an ended session -/

/-- What is left is not the port's. -/
theorem holder_entryAfterEnd (free : after.holder = none) (r : Resource) :
    (entryAfterEnd s p after r).state.holder ≠ some p := by
  unfold entryAfterEnd
  cases (s.entry r).state with
  | free => exact (Option.some_ne_none p).symm
  | orphaned q => exact (Option.some_ne_none p).symm
  | held q => by_cases own : q = p <;> simp [own, free, holder_held]
  | offered q id =>
    by_cases own : q = p
    · simp [own, free]
    · cases found : s.offer id with
      | none => simp [own, found, holder_offered]
      | some o => by_cases target : o.target = p <;> simp [own, found, target, holder_offered, holder_held]

section Leaves

variable (leaves : EndLeaves s u p after closing)

include leaves

theorem EndLeaves.away (free : after.holder = none) : Away u p := by
  obtain ⟨-, entries, -, -, -, -, -, offers, -, waitList, -⟩ := leaves
  refine ⟨fun r => ?_, fun o mem => ?_, fun w mem => ?_⟩
  · rw [Bool.eq_false_iff, ne_eq, holds_iff_holder, entries r]
    exact holder_entryAfterEnd free r
  · rw [offers] at mem
    exact not_or.2 (of_decide_eq_true (List.mem_filter.1 mem).2)
  · rw [waitList] at mem
    exact of_decide_eq_true (List.mem_filter.1 mem).2

theorem EndLeaves.generation (r : Resource) : (u.entry r).generation = (s.entry r).generation := by
  obtain ⟨-, entries, -⟩ := leaves
  rw [entries r]
  rfl

variable (beside : ExaminedBeside u t p)

include beside

/-- A claim that the examination granted was queued before the end. -/
theorem EndLeaves.entryIsOrGranted (r : Resource) : EntryIsOrGranted s t r (entryAfterEnd s p after r) := by
  have sees := seesAs_of_examinedBeside beside
  have entry := examine_entry u r
  obtain ⟨-, entries, -, -, -, -, -, -, -, waitList, -⟩ := leaves
  rw [EntryIsOrGranted, entries r] at entry
  rw [EntryIsOrGranted, sees.entry, sees.waitList]
  refine entry.imp_right fun ⟨w, mem, rest⟩ => ⟨w, ?_, rest⟩
  rw [waitList] at mem
  exact (List.mem_filter.1 mem).1

/-- An entry of before the examination, whose generation is still that of before the end. -/
theorem EndLeaves.entry_of_generation {r : Resource} (same : (t.entry r).generation = (s.entry r).generation) :
    u.examine.entry r = u.entry r := by
  rw [← (examine_grants u).generation_iff, ← (seesAs_of_examinedBeside beside).entry, same, EndLeaves.generation leaves]

theorem EndLeaves.line_held {l : Line} (held : s.holds p (lineResource l) = true) : (t.line l).drive = t.effectiveDrive l := by
  have sees := seesAs_of_examinedBeside beside
  obtain ⟨-, -, lines, -⟩ := leaves
  rw [sees.line, sees.effectiveDrive]
  exact (examine_grants u).line_driven (by rw [lines l, if_pos held, decidedAgain_drive])

theorem EndLeaves.line_kept {l : Line} (held : s.holds p (lineResource l) = true)
    (same : (t.entry (lineResource l)).generation = (s.entry (lineResource l)).generation) :
    t.line l = decidedAgain t l (s.line l) := by
  have sees := seesAs_of_examinedBeside beside
  have entry := EndLeaves.entry_of_generation leaves beside same
  obtain ⟨-, -, lines, -⟩ := leaves
  rw [sees.line, sees.decidedAgain, (examine_grants u).line entry, lines l, if_pos held, (examine_grants u).decidedAgain entry]

theorem EndLeaves.line_other {l : Line} (held : s.holds p (lineResource l) = false)
    (same : (t.entry (lineResource l)).generation = (s.entry (lineResource l)).generation) : t.line l = s.line l := by
  have entry := EndLeaves.entry_of_generation leaves beside same
  obtain ⟨-, -, lines, -⟩ := leaves
  rw [(seesAs_of_examinedBeside beside).line, (examine_grants u).line entry, lines l, held, if_neg Bool.false_ne_true]

theorem EndLeaves.engine_held {e : EngineNo} (held : s.holds p (engineResource e) = true) :
    t.engine e = { s.engine e with state := .idle, out := t.engineDrive e } := by
  have sees := seesAs_of_examinedBeside beside
  obtain ⟨-, -, -, engines, -⟩ := leaves
  have driven : (u.engine e).out = u.engineDrive e := by rw [engines e, if_pos held]
  rw [sees.engine, sees.engineDrive, (examine_grants u).engine_driven driven, engines e, if_pos held]

theorem EndLeaves.engine_other {e : EngineNo} (held : s.holds p (engineResource e) = false)
    (same : (t.entry (engineResource e)).generation = (s.entry (engineResource e)).generation) : t.engine e = s.engine e := by
  have entry := EndLeaves.entry_of_generation leaves beside same
  obtain ⟨-, -, -, engines, -⟩ := leaves
  rw [(seesAs_of_examinedBeside beside).engine, (examine_grants u).engine entry, engines e, held, if_neg Bool.false_ne_true]

theorem EndLeaves.others {q : Port} (other : q ≠ p) : besideCounts (t.session q) = besideCounts (s.session q) := by
  obtain ⟨-, sessions⟩ := beside
  obtain ⟨-, -, -, -, -, -, frames, -⟩ := leaves
  rw [(sessions q other).1, examine_countsMoved u q, besideCounts, frames q other, besideCounts]

theorem EndLeaves.sameRest : SameRest s t := by
  obtain ⟨-, -, -, -, -, -, -, -, -, -, -, rest⟩ := leaves
  exact sameRest_trans (sameRest_trans rest (examine_grants u).outside.1) (seesAs_of_examinedBeside beside).rest

/-- The session's end, with nothing of its port left. -/
theorem EndLeaves.ended (free : after.holder = none) (none_left : u.records p = []) (count : (t.session p).heldCount = 0) :
    Ended s t p after := by
  have sees := seesAs_of_examinedBeside beside
  have away := EndLeaves.away leaves free
  have gone := sees.away (examine_away away)
  have grants := examine_grants u
  have records : u.examine.records p = [] := examineAll_records_nil away.waits none_left
  have ⟨_, _, _, _, _, _, _, offers, offerCounter, waitList, ticketCounter, _⟩ := leaves
  refine ⟨⟨gone.holds, fun o mem => not_or.1 (gone.offers o mem), gone.waits, fun r mem => ?_, count⟩,
    EndLeaves.entryIsOrGranted leaves beside, fun e held => ?_, fun q other => EndLeaves.others leaves beside other, ?_, ?_, ?_, fun w mem => ?_,
    fun l held => EndLeaves.line_held leaves beside held, fun l held same => EndLeaves.line_kept leaves beside held same,
    fun l held same => EndLeaves.line_other leaves beside held same, fun e held => EndLeaves.engine_held leaves beside held,
    fun e held same => EndLeaves.engine_other leaves beside held same, EndLeaves.sameRest leaves beside⟩
  · rw [sees.journal.1] at mem
    simpa using List.filter_eq_nil_iff.1 records r mem
  · rw [EndLeaves.engine_held leaves beside held]
  · rw [sees.offers.1, grants.offers.1, offers]
  · rw [sees.offers.2.1, grants.offers.2.1, offerCounter]
  · rw [sees.offers.2.2, grants.offers.2.2, ticketCounter]
  · rw [sees.waitList] at mem
    have before := grants.waiting.subset mem
    rw [waitList] at before
    exact (List.mem_filter.1 before).1

/-- Without a claim granted the journal is that of the end's own records. -/
theorem EndLeaves.recorded : EndRecorded s t p closing := by
  intro stays
  have sees := seesAs_of_examinedBeside beside
  obtain ⟨journal, -, -, -, -, -, -, -, -, waitList, -⟩ := leaves
  rw [sees.waitList, ← waitList] at stays
  rw [sees.journal.1, sees.journal.2, examine_of_waitList stays, journal]

end Leaves

end View

end Sys2Proof.Proofs
end


section
/-! PROOFS. A lapse and a CLOSE SESSION (R35, R37). -/

namespace Sys2Proof.Proofs

open Sys2Proof.Machine Sys2Proof.Safety Sys2Proof.Laws

/-! ### What the first steps keep, whatever is due -/

section Kept

variable {s t u : State} {p : Port} {how : SessionEnd}

/-- What decides whether a session is OPEN is none of its counts. -/
theorem OnlyCountsMoved.isOpen (h : OnlyCountsMoved s t) (q : Port) : t.isOpen q = s.isOpen q := by
  have same := congrArg Session.state (h q)
  simp only [besideCounts, sessionFrame] at same
  unfold State.isOpen State.openFields
  cases before : (s.session q).state <;> cases after : (t.session q).state <;> simp [before, after] at same ⊢

/-- Sessions but for their counts, the outside and the wait list are as they were. -/
structure StepsAside (s t : State) : Prop where
  sessions : OnlyCountsMoved s t
  outside : SameOutside s t
  waitList : t.waitList = s.waitList

theorem StepsAside.trans (h : StepsAside s t) (k : StepsAside t u) : StepsAside s u :=
  ⟨h.sessions.trans k.sessions, h.outside.trans k.outside, k.waitList.trans h.waitList⟩

theorem dropHoldings_stepsAside (s : State) (how : SessionEnd) (p : Port) : StepsAside s (s.dropHoldings how p) := by
  have runs := endedRuns_fieldRun how p (tickTimes_any s)
  have sessions : OnlyCountsMoved s (s.dropHoldings how p) := fun q => by
    rw [← OnlyCountsMoved.of_journalMoved runs.moved q, dropHoldings_session]
    split
    · next own => rw [own]; rfl
    · rfl
  refine ⟨sessions, dropHoldings_outside s how p, ?_⟩
  obtain ⟨-, waitList, -⟩ := letGo_rest (endedRuns s how p) (s.heldSet p) (leaseAfterEnd how p)
  rw [dropHoldings_eq, State.withSession_waitList, waitList, (FieldRun.sameLedger runs).waitList]

theorem append_stepsAside (s : State) (ps : PortSet) (time : Count) (body : RecordBody) :
    StepsAside s (s.append ps time body) :=
  ⟨append_countsMoved _ _ _ _, append_outside _ _ _ _, (append_tables _ _ _ _).2.2.2.1⟩

theorem cancelOffer_stepsAside (s : State) (p : Port) (o : Offer) : StepsAside s (s.cancelOffer p o) := by
  unfold State.cancelOffer
  split
  · have removed : StepsAside s (s.removeOffer o.id) :=
      ⟨.of_sessions (removeOffer_sessions s o.id), removeOffer_outside s o.id, rfl⟩
    exact removed.trans (append_stepsAside _ _ _ _)
  · have waitList : (s.returnOffer o).waitList = s.waitList := by
      rw [returnOffer_eq, (givenBack_rest _ o).2.2.2.1, (catchUpAll_beside s (enginesOf o.set)).tables.2.2.2.1]
    have returned : StepsAside s (s.returnOffer o) := ⟨returnOffer_countsMoved s o, returnOffer_outside s o, waitList⟩
    exact returned.trans (append_stepsAside _ _ _ _)

theorem offersCancelled_stepsAside (s : State) (how : SessionEnd) (p : Port) : StepsAside s (offersCancelled s how p) := by
  have all (l : List Offer) (s : State) : StepsAside s (l.foldl (State.cancelOffer p) s) := by
    induction l generalizing s with
    | nil => exact ⟨.refl s, .refl s, rfl⟩
    | cons o l ih => exact (cancelOffer_stepsAside s p o).trans (ih _)
  exact (dropHoldings_stepsAside s how p).trans (all (partyOffers (s.dropHoldings how p) p) _)

end Kept

/-! ### The end of a session -/

section EndSession

variable {s t u : State} {p : Port} {how : SessionEnd}

theorem closeRecord_beside (u : State) (how : SessionEnd) (p : Port) : ExaminedBeside u (u.examine.closeRecord how p) p := by
  refine ⟨rfl, fun q other => ⟨?_, ?_⟩⟩
  · rw [closeRecord_session, if_neg other]
  · simp [State.closeRecord, other]

theorem endSession_session (s : State) (how : SessionEnd) (p : Port) :
    (s.endSession how p).session p =
      { (endReported s how p).examine.session p with state := endState how, previousEnd := endCause how } := by
  rw [endSession_eq, closeRecord_session, if_pos rfl]

theorem endSession_attn (s : State) (how : SessionEnd) (p : Port) : (s.endSession how p).attn.get p = false := by
  simp [endSession_eq, State.closeRecord]

/-- The counters that a closed record has are those of the first two steps. -/
theorem endSession_counts (away : Away (endReported s how p) p) :
    tallyOf ((s.endSession how p).session p) = tallyOf ((offersCancelled s how p).session p) ∧
      ((s.endSession how p).session p).heldCount = ((endReported s how p).session p).heldCount := by
  have withdrawn := endReported_withdrawn s how p
  obtain ⟨tally, count⟩ := examineAll_bystander away.waits withdrawn.none_left
  rw [endSession_session]
  exact ⟨tally.trans withdrawn.tally, count⟩

/-- The records of an end are few. -/
theorem endRecords_length_le (wf : OffersWf s) (p : Port) (closing : Bool) : (endRecords s p closing).length ≤ 12 := by
  obtain ⟨few, -⟩ := wf
  have stops : (stopResults s p (s.heldSet p)).length ≤ 4 := calc
    _ ≤ ((List.finRange 4).filter fun e => inSet (s.heldSet p) (engineResource e)).length := List.length_filterMap_le _ _
    _ ≤ (List.finRange 4).length := List.length_filter_le _ _
    _ = 4 := List.length_finRange
  have made := List.length_filter_le (fun o : Offer => decide (o.offerer = p)) s.offers
  have received := List.length_filter_le (fun o : Offer => decide (o.target = p)) s.offers
  have capacity : Config.offerCapacity = 4 := rfl
  have told : (cancellations s p).length ≤ 8 := by
    rw [cancellations, List.length_append, List.length_map, List.length_map]
    omega
  rw [endRecords, List.length_append]
  cases closing with
  | true => rw [if_pos rfl]; omega
  | false => rw [if_neg Bool.false_ne_true, List.length_nil]; omega

/-- The counters of steps 1 and 2, in the terms of the statement. -/
theorem endCounted_of_tallied {c : State} {closing : Bool} (wf : OffersWf s)
    (tallied : Tallied s c p (if closing then (stopResults s p (s.heldSet p)).length else 0) (endRecords s p closing).length)
    (tally : tallyOf (t.session p) = tallyOf (c.session p)) : EndCounted s t p closing := by
  simp only [tallyOf, Prod.mk.injEq] at tally
  obtain ⟨acknowledged, given, lost, unreported⟩ := tally
  refine ⟨acknowledged.trans tallied.acknowledged, given.trans tallied.given, fun ⟨short, _⟩ => ?_⟩
  obtain ⟨new, -, -, lost', unreported'⟩ := tallied.journal short
  have few := endRecords_length_le wf p closing
  have among : toldAmong p (s.journal.length + (endRecords s p closing).length - 128) (s.journal ++ new) =
      ((s.journal.take (s.journal.length + (endRecords s p closing).length - 128)).filter fun r => r.interest.get p).length := by
    rw [toldAmong, List.take_append_of_le_length (by omega)]
  rw [among] at lost' unreported'
  exact ⟨lost.trans lost', unreported.trans unreported'⟩

section Ready

variable (ready : ∀ e ∈ s.reachedByEnd p, NoEndDue s e) (wf : OffersWf s) (isOpen : s.isOpen p = true)

include ready wf isOpen

/-- What a session's end leaves where no end is due: `t` is its outcome beside the ports, the port's record and its output. -/
theorem ended_of_beside (beside : ExaminedBeside (endReported s how p) t p) (count : (t.session p).heldCount = 0) :
    Ended s t p (leaseAfterEnd how p) ∧ EndRecorded s t p (closes how) ∧
      ∃ u, EndLeaves s u p (leaseAfterEnd how p) (closes how) ∧ ExaminedBeside u t p := by
  have leaves := endReported_leaves (how := how) ready wf isOpen
  exact ⟨EndLeaves.ended leaves beside (holder_leaseAfterEnd how p) (endReported_withdrawn s how p).none_left count,
    EndLeaves.recorded leaves beside, _, leaves, beside⟩

theorem endSession_counted (session : t.session p = (s.endSession how p).session p) : EndCounted s t p (closes how) := by
  have leaves := endReported_leaves (how := how) ready wf isOpen
  have away := EndLeaves.away leaves (holder_leaseAfterEnd how p)
  have tallied := offersCancelled_tallied (how := how) ready wf isOpen
  have stops : (endStops s how p).length = if closes how then (stopResults s p (s.heldSet p)).length else 0 := by
    unfold endStops
    split <;> rfl
  rw [stops] at tallied
  exact endCounted_of_tallied wf tallied (by rw [session]; exact (endSession_counts away).1)

theorem endSession_heldCount : ((s.endSession how p).session p).heldCount = 0 := by
  have leaves := endReported_leaves (how := how) ready wf isOpen
  have away := EndLeaves.away leaves (holder_leaseAfterEnd how p)
  obtain ⟨-, -, -, -, -, count, -⟩ := leaves
  rw [(endSession_counts away).2, count]

end Ready

/-! ### The lapse -/

/-- A record that somebody OPEN is told of is placed at the newest end. -/
theorem withRecord_last {isOpen ps : Port → Bool} {journal : List Record × Seq} {time : Count} {body : RecordBody}
    (heard : ∃ q, ps q = true ∧ isOpen q = true) :
    (withRecord isOpen journal ps time body).1.getLast? =
        some { seq := journal.2, time := time, body := body, interest := PerPort.of fun q => ps q && isOpen q } ∧
      (withRecord isOpen journal ps time body).2 = journal.2 + 1 := by
  have somebody : ((ps .hp0 && isOpen .hp0) || (ps .hp1 && isOpen .hp1) || (ps .hp2 && isOpen .hp2)) = true := by
    obtain ⟨q, told, opened⟩ := heard
    cases q <;> simp [told, opened]
  rw [withRecord, if_pos somebody]
  exact ⟨List.getLast?_concat, rfl⟩

/-- With nobody waiting the last record of a lapse that orphans something is its report. -/
theorem lapse_last (waitList : s.waitList = []) (held : ∃ r, s.holds p r = true) (others : ∃ q, q ≠ p ∧ s.isOpen q = true) :
    (s.endSession .lapse p).journal.getLast? =
      some
        { seq := (s.endSession .lapse p).nextSeq - 1, time := s.timeCount, body := .leaseLost p (s.heldSet p)
          interest := PerPort.of fun q => decide (q ≠ p) && s.isOpen q } := by
  obtain ⟨sessions, outside, waiting⟩ := offersCancelled_stepsAside s .lapse p
  have isOpen : (offersCancelled s .lapse p).isOpen = s.isOpen := funext (OnlyCountsMoved.isOpen sessions)
  have withdrawn := endReported_withdrawn s .lapse p
  obtain ⟨r, holds⟩ := held
  have some_lost : s.heldSet p ≠ 0 := ne_zero_of_inSet ((inSet_heldSet s p r).trans holds)
  have report : ¬(closes .lapse = true ∨ s.heldSet p = 0) := by
    rintro (closing | none_lost)
    · cases closing
    · exact some_lost none_lost
  have journal := withdrawn.journal
  rw [journalReported, if_neg report, isOpen, outside.timeCount] at journal
  have nobody : (endReported s .lapse p).waitList = [] := by rw [withdrawn.waitList, waiting, waitList, List.filter_nil]
  obtain ⟨last, next⟩ := withRecord_last (isOpen := s.isOpen) (ps := fun q => decide (q ≠ p))
    (journal := (withoutInterest p (offersCancelled s .lapse p).journal, (offersCancelled s .lapse p).nextSeq))
    (time := s.timeCount) (body := .leaseLost p (s.heldSet p)) (by simpa using others)
  rw [← journal] at last next
  have ended : (s.endSession .lapse p).journal = (endReported s .lapse p).journal ∧
      (s.endSession .lapse p).nextSeq = (endReported s .lapse p).nextSeq := by
    rw [endSession_eq, examine_empty nobody]
    exact ⟨rfl, rfl⟩
  rw [ended.1, ended.2]
  refine last.trans ?_
  have back : (endReported s .lapse p).nextSeq - 1 = (offersCancelled s .lapse p).nextSeq := by
    have next' : (endReported s .lapse p).nextSeq = (offersCancelled s .lapse p).nextSeq + 1 := next
    rw [next']
    bv_omega
  rw [back]

end EndSession

/-! ### Ends in the state in which a request is taken -/

section Turned

variable {s t u : State} {p : Port} {g : Session → Session} {after : LeaseState} {closing : Bool}

theorem turnedTo_other {q : Port} (other : q ≠ p) : (turnedTo p g s).session q = s.session q := by
  rw [turnedTo_session, if_neg other]

theorem ended_of_turnedTo (h : Ended (turnedTo p g s) t p after) : Ended s t p after := by
  obtain ⟨gone, entries, engines, sessions, offers, offerCounter, ticketCounter, waitList, h9, h10, h11, h12, h13, rest⟩ := h
  refine ⟨gone, entries, engines, fun q other => ?_, offers, offerCounter, ticketCounter, waitList, h9, h10, h11, h12, h13, rest⟩
  rw [sessions q other, turnedTo_other other]

variable (timer : TimerOnly g)

include timer

theorem endJournal_turnedTo : endJournal (turnedTo p g s) = endJournal s := by
  have isOpen : (turnedTo p g s).isOpen = s.isOpen := funext (isOpen_turnedTo timer s)
  unfold endJournal
  rw [isOpen]
  rfl

theorem endRecorded_of_turnedTo (h : EndRecorded (turnedTo p g s) t p closing) : EndRecorded s t p closing := by
  unfold EndRecorded at h ⊢
  rw [endJournal_turnedTo timer] at h
  exact h

theorem endLeaves_of_turnedTo (h : EndLeaves (turnedTo p g s) u p after closing) : EndLeaves s u p after closing := by
  obtain ⟨journal, entries, lines, engines, isOpen, count, sessions, rest⟩ := h
  rw [endJournal_turnedTo timer] at journal
  refine ⟨journal, entries, lines, engines, isOpen, count, fun q other => ?_, rest⟩
  rw [sessions q other, turnedTo_other other]

omit timer in
theorem endCounted_of_turnedTo (own : tallyOf (g (s.session p)) = tallyOf (s.session p))
    (h : EndCounted (turnedTo p g s) t p closing) (wf : JournalWf s → JournalWf (turnedTo p g s)) : EndCounted s t p closing := by
  have tally : tallyOf ((turnedTo p g s).session p) = tallyOf (s.session p) := by rw [turnedTo_session, if_pos rfl, own]
  simp only [tallyOf, Prod.mk.injEq] at tally
  obtain ⟨acknowledged, given, lost, unreported⟩ := tally
  obtain ⟨h1, h2, h3⟩ := h
  rw [acknowledged] at h1
  rw [given] at h2
  rw [lost, unreported] at h3
  exact ⟨h1, h2, fun k => h3 (wf k)⟩

theorem offersWf_turnedTo (wf : OffersWf s) : OffersWf (turnedTo p g s) := by
  have isOpen : (turnedTo p g s).isOpen = s.isOpen := funext (isOpen_turnedTo timer s)
  unfold OffersWf at wf ⊢
  rw [isOpen]
  exact wf

theorem journalWf_turnedTo (wf : JournalWf s) : JournalWf (turnedTo p g s) := by
  have isOpen : (turnedTo p g s).isOpen = s.isOpen := funext (isOpen_turnedTo timer s)
  unfold JournalWf at wf ⊢
  rw [isOpen]
  exact wf

end Turned

/-! ### CLOSE SESSION -/

theorem examinedBeside_answer {u v : State} {p : Port} (tag : Byte) (rep : Reply) (h : ExaminedBeside u v p) :
    ExaminedBeside u (v.answer p tag rep) p := by
  obtain ⟨same, sessions⟩ := h
  have only : v.answer p tag rep = { v with ports := (v.answer p tag rep).ports } := answer_portsOnly v p tag rep
  exact ⟨Eq.trans only (congrArg (fun x : State => { x with ports := (v.answer p tag rep).ports }) same), sessions⟩

theorem tallyOf_restarted (x : Session) : tallyOf (restarted x) = tallyOf x := by
  obtain ⟨state⟩ := x
  cases state <;> rfl

/-- What a close leaves of the state of before its request, where no end is due. -/
theorem close_leaves {s : State} {p : Port} (tag : Byte) (rep : Reply) (wf : OffersWf s) (isOpen : s.isOpen p = true)
    (ready : ∀ e ∈ s.reachedByEnd p, NoEndDue s e) :
    let t := (((taken s p).endSession .close p).answer p tag rep)
    Ended s t p .free ∧ EndRecorded s t p true ∧ EndCounted s t p true ∧
      ∃ u, EndLeaves s u p .free true ∧ ExaminedBeside u t p := by
  have ready' : ∀ e ∈ (turnedTo p restarted s).reachedByEnd p, NoEndDue (turnedTo p restarted s) e := ready
  have wf' := offersWf_turnedTo (p := p) timerOnly_restarted wf
  have isOpen' : (turnedTo p restarted s).isOpen p = true := (isOpen_turnedTo timerOnly_restarted s p).trans isOpen
  rw [taken_eq_turnedTo]
  have beside := examinedBeside_answer tag rep (closeRecord_beside (endReported (turnedTo p restarted s) .close p) .close p)
  have session : ((((turnedTo p restarted s).endSession .close p).answer p tag rep).session p) =
      ((turnedTo p restarted s).endSession .close p).session p := rfl
  have count := endSession_heldCount (how := .close) ready' wf' isOpen'
  obtain ⟨ended, recorded, u, leaves, examined⟩ := ended_of_beside (how := .close) ready' wf' isOpen' beside count
  have counted := endSession_counted (how := .close) ready' wf' isOpen' session
  exact ⟨ended_of_turnedTo ended, endRecorded_of_turnedTo timerOnly_restarted recorded,
    endCounted_of_turnedTo (tallyOf_restarted _) counted (journalWf_turnedTo timerOnly_restarted), u,
    endLeaves_of_turnedTo timerOnly_restarted leaves, examined⟩

/-- Settles O11: a lapse is the end itself, and a close runs it in the state in which its request is taken. -/
theorem sessionEnds : Obligations.SessionEnds := by
  refine ⟨fun s p awake isOpen wf => ?_, fun s p f request passes wf => ?_⟩
  · refine ⟨s.endSession .lapse p, exec_lapse awake isOpen, fun ready => ?_, (endSession_outside s .lapse p).2, ?_, ?_,
      endSession_number s .lapse p p, endSession_attn s .lapse p, lapse_last⟩
    · obtain ⟨ended, recorded, leaves⟩ := ended_of_beside (how := .lapse) ready wf isOpen (closeRecord_beside _ .lapse p)
        (endSession_heldCount ready wf isOpen)
      exact ⟨ended, recorded, endSession_counted (how := .lapse) ready wf isOpen rfl, leaves⟩
    · rw [endSession_session]
      rfl
    · rw [endSession_session]
      rfl
  · obtain ⟨isOpen, -⟩ := id passes
    have run : exec (.closeSession p) s = .next (((taken s p).endSession .close p).answer p f.tag (bare .ok)) :=
      take_of_body rfl request passes rfl
    have outside := (restart_outside s p).trans (endSession_outside (taken s p) .close p)
    have session : ((((taken s p).endSession .close p).answer p f.tag (bare .ok)).session p) =
      ((taken s p).endSession .close p).session p := rfl
    have number : ((taken s p).session p).number = (s.session p).number := by
      rw [taken_eq_turnedTo, turnedTo_session, if_pos rfl, restarted]
      cases (s.session p).state <;> rfl
    refine ⟨_, run, answered_of_outside f (bare .ok) outside, close_leaves f.tag (bare .ok) wf isOpen, ?_, ?_, ?_, ?_⟩
    · rw [session, endSession_session]
      rfl
    · rw [session, endSession_session]
      rfl
    · rw [session, ← number]
      exact endSession_number (taken s p) .close p p
    · exact endSession_attn (taken s p) .close p

end Sys2Proof.Proofs
end


section
/-! PROOFS. OPEN SESSION with REPLACE (R38): the old session ends as by a lapse, and a new one opens in the same happening. -/

namespace Sys2Proof.Proofs

open Sys2Proof.Machine Sys2Proof.Safety Sys2Proof.Laws

section Replace

variable {s u v : State} {p : Port} {how : SessionEnd}

/-- Nothing is pending for a session that has ended. -/
theorem endSession_records (s : State) (how : SessionEnd) (p : Port) : (s.endSession how p).records p = [] := by
  have withdrawn := endReported_withdrawn s how p
  have others : ∀ w ∈ (endReported s how p).waitList, w.port ≠ p := fun w mem => by
    rw [withdrawn.waitList] at mem
    exact of_decide_eq_true (List.mem_filter.1 mem).2
  exact examineAll_records_nil others withdrawn.none_left

theorem openBody_replaces {pl : List Byte} {o : OpenOperands} (h : openOperands pl = some o) (isOpen : s.isOpen p = true)
    (replace : o.replace = true) : openBody s p pl = openAndReport (s.endSession .replace p) p o := by
  simp [openBody, h, isOpen, replace]

/-- The opening is beside what the examination leaves. -/
theorem openRecord_beside (h : ExaminedBeside u v p) (period threshold : Nat) :
    ExaminedBeside u (v.openRecord p period threshold) p := by
  obtain ⟨same, sessions⟩ := h
  have only : v.openRecord p period threshold =
      { v with sessions := (v.openRecord p period threshold).sessions, attn := (v.openRecord p period threshold).attn } := rfl
  refine ⟨Eq.trans only (congrArg (fun x : State => { x with
    sessions := (v.openRecord p period threshold).sessions, attn := (v.openRecord p period threshold).attn }) same),
    fun q other => ?_⟩
  obtain ⟨session, attn⟩ := sessions q other
  rw [session_openRecord, if_neg other, attn_openRecord_other v other]
  exact ⟨session, attn⟩

/-- What the end by a replacement leaves of the state of before the request, where no end is due. -/
theorem replace_leaves (tag : Byte) (rep : Reply) (period threshold : Nat) (wf : OffersWf s) (isOpen : s.isOpen p = true)
    (ready : ∀ e ∈ s.reachedByEnd p, NoEndDue s e) :
    let t := (((s.served p).endSession .replace p).openRecord p period threshold).answer p tag rep
    Ended s t p (.orphaned p) ∧ EndRecorded s t p false ∧
      ∃ u, EndLeaves s u p (.orphaned p) false ∧ ExaminedBeside u t p := by
  have ready' : ∀ e ∈ (turnedTo p id s).reachedByEnd p, NoEndDue (turnedTo p id s) e := ready
  have wf' := offersWf_turnedTo (p := p) timerOnly_id wf
  have isOpen' : (turnedTo p id s).isOpen p = true := (isOpen_turnedTo timerOnly_id s p).trans isOpen
  rw [served_eq_turnedTo]
  have beside := examinedBeside_answer tag rep (openRecord_beside
    (closeRecord_beside (endReported (turnedTo p id s) .replace p) .replace p) period threshold)
  have count : (((((turnedTo p id s).endSession .replace p).openRecord p period threshold).answer p tag rep).session p).heldCount =
      0 := by
    rw [State.session_answer, session_openRecord, if_pos rfl]
    rfl
  obtain ⟨ended, recorded, u, leaves, examined⟩ := ended_of_beside (how := .replace) ready' wf' isOpen' beside count
  exact ⟨ended_of_turnedTo ended, endRecorded_of_turnedTo timerOnly_id recorded, u, endLeaves_of_turnedTo timerOnly_id leaves,
    examined⟩

end Replace

/-- Settles O10: OPEN SESSION's body ends the old session and opens a record. -/
theorem sessionReplaced : Obligations.SessionReplaced := by
  intro s p f request wf isOpen period threshold least most positive few replace
  have flag : (byteAt f.payload 3).getLsbD 0 = true := by rw [replace]; rfl
  have operands := openOperands_eq_some (pl := f.payload) ⟨least, most, positive, few⟩ (by rw [replace]; decide)
  have run : exec (.openSession p) s = _ :=
    take_of_free_body (rq := .openSession) rfl request (openBody_replaces (s := s.served p) operands isOpen flag)
  have outside := (endSession_outside (s.served p) .replace p).trans (openRecord_outside _ p period threshold)
  have number : (((s.served p).endSession .replace p).session p).number = (s.session p).number :=
    endSession_number (s.served p) .replace p p
  have ended : (((s.served p).endSession .replace p).session p).previousEnd = .replaced := by
    rw [endSession_session]
    rfl
  have nothing := endSession_records (s.served p) .replace p
  refine ⟨_, run, ?_, ?_, ?_, replace_leaves f.tag _ period threshold wf isOpen⟩
  · have answered := answered_of_outside (s := s) f (openAndReport ((s.served p).endSession .replace p) p
      { period := period, threshold := threshold, replace := (byteAt f.payload 3).getLsbD 0 }).2 outside
    have payload : (openAndReport ((s.served p).endSession .replace p) p
        { period := period, threshold := threshold, replace := (byteAt f.payload 3).getLsbD 0 }).2.payload =
        bytesOfNat 2 (nextSessionNumber (((s.served p).endSession .replace p).session p).number).toNat ++ [3] ++
          bytesOfNat 1 (orphansOf ((s.served p).endSession .replace p) p) := by
      simp only [openAndReport, openPayload, ended]
      rfl
    rw [payload] at answered
    rw [State.session_answer, session_openRecord, if_pos rfl]
    exact answered
  · rw [State.session_answer, session_openRecord, if_pos rfl, opened, opened, State.answer_nextSeq,
      (openRecord_others _ p _ _).2.1, number]
  · exact attn_openRecord_self positive nothing

end Sys2Proof.Proofs
end
